-- ==== Sys2Proof/Word.lean ====
section
/-! DEFINITION. The word types of the part (R1, R2, R41) and differences of free-running counts. -/

namespace Sys2Proof

/-- A byte of mailbox memory, of a request record or of a residue word. -/
abbrev Byte := BitVec 8
/-- A W16 word of a target (R2). -/
abbrev W16 := BitVec 16
/-- A W24 word of a target (R2). A W16 word travels in a beat as a W24 value whose upper byte is zero. -/
abbrev W24 := BitVec 24
/-- A word of a record, of the setup block or of a register (R41). -/
abbrev Word32 := BitVec 32
/-- A mailbox byte address, 0000h to FFFFh (R41). -/
abbrev MailboxAddr := BitVec 16
/-- A logical word address, 000000h to FFFFFFh (R1). -/
abbrev LogicalAddr := BitVec 24
/-- A free-running 16-bit count (R56, R147). -/
abbrev Count := BitVec 16

/-- (a - b) modulo 65,536, as a number. -/
def Count.since (a b : Count) : Nat := (a - b).toNat

end Sys2Proof
end

