-- ==== Sys2Proof/Syntax.lean ====
section
/-! DEFINITION. The names of the part's rings, channels and targets, and the commands: one constructor of `Instr` for each row of
spec/opcode_table.json. -/

namespace Sys2Proof

/-- The four submission rings (R55). -/
inductive RingId where
  | sq0 | sq1 | sq2 | sq3
  deriving DecidableEq, Repr

/-- The two completion rings (R146). -/
inductive CqId where
  | cq0 | cq1
  deriving DecidableEq, Repr

/-- The two transfer channels (R103). -/
inductive ChannelId where
  | c0 | c1
  deriving DecidableEq, Repr

/-- The six banks behind the D-port and the P-port (R2, R132). -/
inductive BankId where
  | d0 | d1 | d2 | d3 | p0 | p1
  deriving DecidableEq, Repr

/-- The three external devices behind the X-port (R2, R132). -/
inductive DeviceId where
  | x0 | x1 | x2
  deriving DecidableEq, Repr

/-- The seven arbiters: one for each bank and one for the X-port (R132). -/
inductive ArbiterId where
  | bank (b : BankId)
  | xPort
  deriving DecidableEq, Repr

/-- Three bits, one for each INTSTAT source: the interrupt mask (R160) and the mask bits of a CONTROL write (R54). -/
structure Sources where
  cq0 : Bool
  cq1 : Bool
  event : Bool
  deriving DecidableEq, Repr

/-- A byte the host has written into mailbox memory (R41, R42): an input of the part's reads (log entry 5). -/
structure HostWrite where
  addr : MailboxAddr
  value : Byte
  deriving DecidableEq, Repr

/-- A word of a bank as an agent outside the part has left it, with whether its stored parity agrees (R132, R136, R138): an input
of the beats granted at that bank (log entry 6). -/
structure OutsideWrite where
  offset : Nat
  value : W24
  parityGood : Bool
  deriving DecidableEq, Repr

/-- How a completion write ends at the M-port: whole, or with an error at one of its four words (R151, R153). -/
inductive WriteEnd where
  | done
  | failedAt (word : Fin 4)
  deriving DecidableEq, Repr

/-- The commands of the part: the rows of spec/opcode_table.json, in the table's order. -/
inductive Instr where
  /-- POWER_ON_RESET (R176) -/
  | powerOnReset
  /-- ENABLE (R165) -/
  | enable (mask : Sources)
  /-- QUIESCE (R169) -/
  | quiesce (mask : Sources)
  /-- ABORT (R170) -/
  | abort (mask : Sources)
  /-- RESUME (R171) -/
  | resume (mask : Sources)
  /-- SOFT_RESET (R175) -/
  | softReset (mask : Sources)
  /-- CONTROL_MASK_WRITE (R54) -/
  | controlMaskWrite (mask : Sources)
  /-- CONTROL_UNKNOWN_COMMAND (R54): code 6 or 7 -/
  | controlUnknownCommand (code : BitVec 3) (mask : Sources)
  /-- SELECT (R67) -/
  | select (ring : RingId)
  /-- STOP (R68) -/
  | stop (ring : RingId)
  /-- RING_RESUME (R70) -/
  | ringResume (ring : RingId)
  /-- FLUSH (R73) -/
  | flush (ring : RingId)
  /-- RING_RESET (R71) -/
  | ringReset (ring : RingId)
  /-- RINGCTL_UNKNOWN_COMMAND (R54): code 5 to 7 -/
  | ringctlUnknownCommand (code : BitVec 3) (ring : RingId)
  /-- POST (R57) -/
  | post (ring : RingId) (tail : Count)
  /-- ACK (R155) -/
  | ack (cq : CqId) (head : Count)
  /-- SETUP_WRITE (R54) -/
  | setupWrite (addr : MailboxAddr)
  /-- STATUS_WRITE (R54): the word written -/
  | statusWrite (value : Word32)
  /-- INTSTAT_WRITE (R158): the word written -/
  | intstatWrite (value : Word32)
  /-- FETCH_REQUEST (R62) -/
  | fetchRequest (ring : RingId)
  /-- M_PORT_GRANT (R64) -/
  | mPortGrant
  /-- FETCH_COMPLETE (R63): what the host wrote before the read, and whether the read succeeded -/
  | fetchComplete (host : List HostWrite) (ok : Bool)
  /-- SETUP_LOAD_END (R168): what the host wrote before the read, and whether the read succeeded -/
  | setupLoadEnd (host : List HostWrite) (ok : Bool)
  /-- MAILBOX_FAULT (R172) -/
  | mailboxFault
  /-- EXAMINATION (R81) -/
  | examination
  /-- BEAT_GRANT (R134): the arbiter that grants, and what outside agents wrote to its bank before the grant -/
  | beatGrant (arbiter : ArbiterId) (outside : List OutsideWrite)
  /-- BEAT_END (R133): the bank whose beat in service ends -/
  | beatEnd (bank : BankId)
  /-- READY (R141): the device, and the value it presents for a read -/
  | ready (device : DeviceId) (value : W24)
  /-- READY_TIMEOUT (R142) -/
  | readyTimeout
  /-- HAND_OFF (R116) -/
  | handOff (channel : ChannelId)
  /-- FLUSH_DISPOSAL (R74) -/
  | flushDisposal (ring : RingId)
  /-- COMPLETION_WRITE (R151): how the access ended -/
  | completionWrite (result : WriteEnd)
  /-- HOLDOFF_EXPIRY (R157) -/
  | holdoffExpiry (cq : CqId)
  deriving DecidableEq, Repr

end Sys2Proof
end

