-- ==== Sys2Proof/Config.lean ====
section
/-! DEFINITION. What is fixed for every 3224 (capacities), and the free values: constants without a body that stand for what the
spec leaves open, so that nothing proved can rest on them. -/

namespace Sys2Proof.Config

/-- Capacity in words of a bank (R2). -/
def bankCapacity : BankId → Nat
  | .d0 | .d1 | .d2 | .d3 => 32768
  | .p0 | .p1 => 16384

/-- Width in bits of a bank's words (R2). -/
def bankBits : BankId → Nat
  | .d0 | .d1 | .d2 | .d3 => 16
  | .p0 | .p1 => 24

/-- Entries of the post queue (R149). -/
def postQueueCapacity : Nat := 8

/-- Records a prefetch queue holds (R61). -/
def prefetchCapacity : Nat := 4

/-- The value at which a conflict-beat count stays (R50, R135). -/
def conflictLimit : Nat := 65535

/-- FREE VALUE (log entry 4): the value of a bank word that nothing has written. -/
opaque unwrittenWord : BankId → Nat → W24

/-- FREE VALUE (log entry 4): whether the parity of a bank word that nothing has written is good. R138: "a matter of the board and
of the host". -/
opaque unwrittenParityGood : BankId → Nat → Bool

/-- FREE VALUE (log entry 8): whether a bank write in service at a reset completes (R115, R137). The first argument is the model's
free-value counter. -/
opaque resetWriteLands : Nat → BankId → Bool

/-- FREE VALUE (log entry 9): whether word w1, w2 or w3 of a completion write abandoned by a reset holds its new value, and whether
w0 would (R162). -/
opaque abandonedWordLands : Nat → Fin 4 → Bool

/-- FREE VALUE (log entry 7): what mailbox memory keeps of the word at which a completion write failed (R153). -/
opaque failedWord : Nat → Word32

end Sys2Proof.Config
end

