-- ==== Sys2Proof/Machine/State.lean ====
section
/-! DEFINITION. Every piece of state the spec gives the part, block by block (00_scope, "Blocks and how they work together"), and
the part right after power-on reset (R176). -/

namespace Sys2Proof.Machine

/-! ## Families of like things -/

/-- One value for each submission ring. -/
structure PerRing (α : Type) where
  sq0 : α
  sq1 : α
  sq2 : α
  sq3 : α
  deriving DecidableEq, Repr

def PerRing.all {α : Type} (a : α) : PerRing α := ⟨a, a, a, a⟩

def PerRing.get {α : Type} (p : PerRing α) : RingId → α
  | .sq0 => p.sq0
  | .sq1 => p.sq1
  | .sq2 => p.sq2
  | .sq3 => p.sq3

def PerRing.set {α : Type} (p : PerRing α) (r : RingId) (a : α) : PerRing α :=
  match r with
  | .sq0 => { p with sq0 := a }
  | .sq1 => { p with sq1 := a }
  | .sq2 => { p with sq2 := a }
  | .sq3 => { p with sq3 := a }

/-- One value for each completion ring. -/
structure PerCq (α : Type) where
  cq0 : α
  cq1 : α
  deriving DecidableEq, Repr

def PerCq.all {α : Type} (a : α) : PerCq α := ⟨a, a⟩

def PerCq.get {α : Type} (p : PerCq α) : CqId → α
  | .cq0 => p.cq0
  | .cq1 => p.cq1

def PerCq.set {α : Type} (p : PerCq α) (c : CqId) (a : α) : PerCq α :=
  match c with
  | .cq0 => { p with cq0 := a }
  | .cq1 => { p with cq1 := a }

/-- One value for each channel. -/
structure PerChannel (α : Type) where
  c0 : α
  c1 : α
  deriving DecidableEq, Repr

def PerChannel.all {α : Type} (a : α) : PerChannel α := ⟨a, a⟩

def PerChannel.get {α : Type} (p : PerChannel α) : ChannelId → α
  | .c0 => p.c0
  | .c1 => p.c1

def PerChannel.set {α : Type} (p : PerChannel α) (c : ChannelId) (a : α) : PerChannel α :=
  match c with
  | .c0 => { p with c0 := a }
  | .c1 => { p with c1 := a }

/-- One value for each bank. -/
structure PerBank (α : Type) where
  d0 : α
  d1 : α
  d2 : α
  d3 : α
  p0 : α
  p1 : α
  deriving DecidableEq, Repr

def PerBank.all {α : Type} (a : α) : PerBank α := ⟨a, a, a, a, a, a⟩

def PerBank.get {α : Type} (p : PerBank α) : BankId → α
  | .d0 => p.d0
  | .d1 => p.d1
  | .d2 => p.d2
  | .d3 => p.d3
  | .p0 => p.p0
  | .p1 => p.p1

def PerBank.set {α : Type} (p : PerBank α) (b : BankId) (a : α) : PerBank α :=
  match b with
  | .d0 => { p with d0 := a }
  | .d1 => { p with d1 := a }
  | .d2 => { p with d2 := a }
  | .d3 => { p with d3 := a }
  | .p0 => { p with p0 := a }
  | .p1 => { p with p1 := a }

/-- One value for each external device. -/
structure PerDevice (α : Type) where
  x0 : α
  x1 : α
  x2 : α
  deriving DecidableEq, Repr

def PerDevice.all {α : Type} (a : α) : PerDevice α := ⟨a, a, a⟩

def PerDevice.get {α : Type} (p : PerDevice α) : DeviceId → α
  | .x0 => p.x0
  | .x1 => p.x1
  | .x2 => p.x2

/-- One value for each arbiter: one per bank, and one for the X-port (R132). -/
structure PerArbiter (α : Type) where
  bank : PerBank α
  xPort : α
  deriving DecidableEq, Repr

def PerArbiter.all {α : Type} (a : α) : PerArbiter α := ⟨PerBank.all a, a⟩

def PerArbiter.get {α : Type} (p : PerArbiter α) : ArbiterId → α
  | .bank b => p.bank.get b
  | .xPort => p.xPort

def PerArbiter.set {α : Type} (p : PerArbiter α) (i : ArbiterId) (a : α) : PerArbiter α :=
  match i with
  | .bank b => { p with bank := p.bank.set b a }
  | .xPort => { p with xPort := a }

/-! ## The Control Unit -/

/-- The seven part states (R163). -/
inductive PartState where
  | off | loading | running | quiescing | quiesced | aborting | halted
  deriving DecidableEq, Repr

/-- The setup errors (R163, R166, R167). -/
inductive SetupError where
  | none | badFormat | badPlacement | ringOverlap | badDepth | cqMissing | badCoalesce | badDevice | mapConflict
  deriving DecidableEq, Repr

/-- The kinds of mailbox fault (R172). -/
inductive FaultKind where
  | none | fetchRead | postWrite | setupRead
  deriving DecidableEq, Repr

/-- The kind and address of a failed mailbox access: the fault record (R163), and an error handed to the Control Unit (R172). -/
structure FaultRecord where
  kind : FaultKind
  addr : MailboxAddr
  deriving DecidableEq, Repr

/-- What the Control Unit holds (R163). -/
structure ControlUnit where
  part : PartState
  setupAddr : MailboxAddr
  mask : Sources
  setupError : SetupError
  faultRecord : FaultRecord
  moreFaults : Bool
  refused : Bool
  deriving DecidableEq, Repr

/-! ## Windows and targets -/

/-- Word widths (R2). -/
inductive Width where
  | w16 | w24
  deriving DecidableEq, Repr

/-- The nine physical targets (R2). -/
inductive Target where
  | bank (b : BankId)
  | device (d : DeviceId)
  deriving DecidableEq, Repr

/-- A window entry (R5). A table entry always holds a valid target code, so the target is held by name. -/
structure WindowEntry where
  enabled : Bool
  logicalBase : LogicalAddr
  sizeCode : BitVec 4
  target : Target
  targetBase : BitVec 24
  wp : Bool
  lock : Bool
  deriving DecidableEq, Repr

/-- A window table: sixteen entries (R5). -/
abbrev WindowTable := Vector WindowEntry 16

/-- A physical extent: a target, a first and a last word offset (R10). -/
structure PhysExtent where
  target : Target
  first : Nat
  last : Nat
  deriving DecidableEq, Repr

/-- A resolved extent as the channel context holds it (R102). -/
structure Extent where
  start : LogicalAddr
  phys : PhysExtent
  width : Width
  deriving DecidableEq, Repr

/-- The device profile of a present device (R140). -/
structure Profile where
  width : Width
  sizeCode : BitVec 5
  writable : Bool
  timeout : BitVec 8
  deriving DecidableEq, Repr

/-! ## Records and completions -/

/-- The twelve known request kinds (section 3.2). -/
inductive Kind where
  | copy | fill | compare | pack | unpack | split | join | fence | mark | mapset | maprevert | mapswitch
  deriving DecidableEq, Repr

/-- The fields of a request record (section 3.2). The ignored bits are not held: their value changes no outcome (R41). -/
structure Record where
  kind : BitVec 8
  flags : BitVec 8
  tag : BitVec 16
  count : BitVec 17
  pad : Byte
  a : LogicalAddr
  b : LogicalAddr
  c : LogicalAddr
  pattern : W24
  index : BitVec 4
  enabled : Bool
  sizeCode : BitVec 4
  targetCode : BitVec 4
  wp : Bool
  lock : Bool
  deriving DecidableEq, Repr

/-- The status codes (R52). -/
inductive Status where
  | ok | different | flushed | aborted
  | badKind | badFlags | badCount | mapMiss | rangeSplit | widthMismatch | writeProtect | deviceReadonly | overlap
  | windowInvalid | windowOverlap | windowLocked
  | dataError | deviceTimeout | loss
  deriving DecidableEq, Repr

/-- The detail of a completion (R50). -/
inductive Detail where
  | none
  | address (a : LogicalAddr)
  | index (i : BitVec 16)
  deriving DecidableEq, Repr

/-- The direction of a transfer (R95). -/
inductive Direction where
  | ascending | descending
  deriving DecidableEq, Repr

/-- A completion entry in the post queue (R149): the fields of the completion record but the phase, and the completion ring.
`transferKey` is the model's: the key of the transfer's hazard list entry, absent when the record was no transfer (log entry 14). -/
structure Completion where
  tag : BitVec 16
  status : Status
  ring : RingId
  slot : Nat
  elementsDone : Nat
  generation : BitVec 8
  detail : Detail
  direction : Direction
  conflictBeats : Nat
  cq : CqId
  transferKey : Option Nat
  deriving DecidableEq, Repr

/-! ## The Ring Manager -/

/-- Ring classes (R55). -/
inductive RingClass where
  | urgent | normal
  deriving DecidableEq, Repr

/-- A submission ring's directory entry (R55). -/
structure RingDirectory where
  base : MailboxAddr
  depthCode : BitVec 4
  enabled : Bool
  cls : RingClass
  cq : CqId
  ordered : Bool
  stopOnError : Bool
  deriving DecidableEq, Repr

/-- The seven ring states (R65). -/
inductive RingPhase where
  | disabled | idle | active | stopping | stopped | flushing | faulted
  deriving DecidableEq, Repr

/-- Wait reasons (R83). -/
inductive WaitReason where
  | none | part | order | completion | channel | hazard | mapDrain
  deriving DecidableEq, Repr

/-- Fault causes of a ring (R58, R59). -/
inductive FaultCause where
  | none | overrun | retract
  deriving DecidableEq, Repr

/-- A record in a prefetch queue (R61). -/
structure Prefetched where
  record : Record
  slot : Nat
  fetchCount : Count
  deriving DecidableEq, Repr

/-- What the Ring Manager holds for one ring (R55 to R78). `disposalReserved`: a waiting FLUSHED disposal has taken its reservation
(R74, R76). -/
structure Ring where
  dir : RingDirectory
  tail : Count
  fetch : Count
  queue : List Prefetched
  phase : RingPhase
  wait : WaitReason
  inFlight : Nat
  cause : FaultCause
  flushTarget : Count
  disposalReserved : Bool
  deriving DecidableEq, Repr

/-- What the Ring Manager holds. -/
structure RingManager where
  rings : PerRing Ring
  selected : RingId
  postRejected : Bool
  ringctlRefused : Bool
  ringsChanged : PerRing Bool
  deriving DecidableEq, Repr

/-! ## The Issue Arbiter -/

/-- One entry of a hazard list (R97), with the model's key, which names its transfer (log entry 14). -/
structure Hazard where
  key : Nat
  reads : List PhysExtent
  writes : List PhysExtent
  deriving DecidableEq, Repr

/-- What the Issue Arbiter holds (R80). `due`: a change of R81 has led to an examination that is not yet made (log entry 12).
`nextKey` is the model's: the key of the next transfer taken (log entry 14). -/
structure IssueArbiter where
  urgentPtr : RingId
  normalPtr : RingId
  hazards : PerRing (List Hazard)
  due : Bool
  nextKey : Nat
  deriving DecidableEq, Repr

/-! ## The Map Unit -/

/-- The retiring record (R22). -/
structure Retiring where
  generation : BitVec 8
  bound : Nat
  deriving DecidableEq, Repr

/-- The pending switch (R22). -/
structure PendingSwitch where
  ring : RingId
  slot : Nat
  tag : BitVec 16
  deriving DecidableEq, Repr

/-- What the Map Unit holds (R5, R22). -/
structure MapUnit where
  current : WindowTable
  staged : WindowTable
  generation : BitVec 8
  bound : Nat
  retiring : Option Retiring
  pendingSwitch : Option PendingSwitch
  deriving DecidableEq, Repr

/-! ## Beats, arbiters and ports -/

/-- The extents a record may name (R48). -/
inductive ExtentName where
  | a | b | c
  deriving DecidableEq, Repr

/-- A beat (R133). `ext` and `pos` say which word of the record's extents it touches; `counted` says that its conflict beat has been
counted (R135). -/
structure Beat where
  channel : ChannelId
  isWrite : Bool
  ext : ExtentName
  pos : Nat
  target : Target
  offset : Nat
  width : Width
  value : W24
  counted : Bool
  deriving DecidableEq, Repr

/-- What an arbiter holds (R134). -/
structure Arbiter where
  inService : Option Beat
  waitC0 : List Beat
  waitC1 : List Beat
  lastGranted : ChannelId
  deriving DecidableEq, Repr

/-- What the bank and device ports hold (R134, R140, R142). `measuring`: the ready timeout of the X-port beat in service runs. -/
structure Ports where
  arbiters : PerArbiter Arbiter
  profiles : PerDevice (Option Profile)
  measuring : Bool
  deriving DecidableEq, Repr

/-- A stored word of a bank, and whether its stored parity agrees with it (R138). -/
structure BankWord where
  value : W24
  parityGood : Bool
  deriving DecidableEq, Repr

/-- The words of a bank: offsets strictly rising; a word nothing has written has no entry (log entry 4). -/
abbrev BankMemory := List (Nat × BankWord)

/-- Mailbox memory: addresses strictly rising, no entry 00h; an unlisted address reads 00h (log entry 3). -/
abbrev MailboxMemory := List Host.Cell

/-! ## The transfer channels -/

/-- How one beat of a step ended (R110). -/
inductive BeatOutcome where
  | value (v : W24)
  | stored
  | parityError
  | timedOut
  deriving DecidableEq, Repr

/-- The result of one beat of the step in progress. -/
structure BeatResult where
  ext : ExtentName
  pos : Nat
  outcome : BeatOutcome
  deriving DecidableEq, Repr

/-- What the channel's beats in progress are for: the step's reads, the step's writes (R105), or the early-end write (R111). -/
inductive StepPhase where
  | reads | writes | earlyEnd
  deriving DecidableEq, Repr

/-- The step in progress: the beats not yet requested, how many are requested and not ended, and the results so far (R105). -/
structure StepRun where
  phase : StepPhase
  later : List Beat
  outstanding : Nat
  results : List BeatResult
  deriving DecidableEq, Repr

/-- The status and detail with which a transfer has ended (R102). -/
structure Ending where
  status : Status
  detail : Detail
  deriving DecidableEq, Repr

/-- The channel context (R102), with the step in progress and the model's key (log entry 14). -/
structure Context where
  ring : RingId
  slot : Nat
  tag : BitVec 16
  key : Nat
  kind : Kind
  pad : Byte
  pattern : W24
  strict : Bool
  highonly : Bool
  generation : BitVec 8
  extA : Option Extent
  extB : Option Extent
  extC : Option Extent
  count : Nat
  direction : Direction
  nextStep : Nat
  elementsDone : Nat
  residue : Option W16
  conflictBeats : Nat
  pendingAbort : Bool
  ending : Option Ending
  step : Option StepRun
  deriving DecidableEq, Repr

/-- The three channel states (R103). The context is empty in IDLE. -/
inductive Channel where
  | idle
  | running (ctx : Context)
  | ending (ctx : Context)
  deriving DecidableEq, Repr

/-! ## The Completion Writer and the Interrupt Coalescer -/

/-- A completion ring: directory entry (R146) and counts (R147). -/
structure CompletionRing where
  base : MailboxAddr
  depthCode : BitVec 4
  enabled : Bool
  threshold : BitVec 6
  holdoff : BitVec 11
  tail : Count
  head : Count
  phase : Bool
  reservations : Nat
  deriving DecidableEq, Repr

/-- What the Completion Writer holds (R146 to R155). -/
structure CompletionWriter where
  cqs : PerCq CompletionRing
  postQueue : List Completion
  ackInvalid : Bool
  deriving DecidableEq, Repr

/-- The coalescing state of one completion ring (R156, R157). -/
structure Coalescing where
  count : Nat
  timer : Bool
  deriving DecidableEq, Repr

/-- What the Interrupt Coalescer holds (R156 to R159). -/
structure Coalescer where
  cqs : PerCq Coalescing
  intstat : Sources
  deriving DecidableEq, Repr

/-! ## The M-port -/

/-- A requested fetch: the slot it was requested with, the fetch count, and the slot's address (R56, R62). -/
structure FetchRequest where
  slot : Nat
  fetchCount : Count
  addr : MailboxAddr
  deriving DecidableEq, Repr

/-- The three kinds of access (R64). -/
inductive AccessKind where
  | completionWrite
  | fetch (ring : RingId) (req : FetchRequest)
  | setupLoad (addr : MailboxAddr)
  deriving DecidableEq, Repr

/-- What becomes of an access in service when it ends: it counts, its record is discarded after a ring RESET (R71), or it has been
abandoned by a reset (R64, R173). -/
inductive AccessFate where
  | live | discarded | abandoned
  deriving DecidableEq, Repr

/-- An access in service at the M-port (R64). -/
structure Access where
  kind : AccessKind
  fate : AccessFate
  deriving DecidableEq, Repr

/-- What the M-port holds (R64), and the errors it has handed to the Control Unit that are not yet taken (R172). A waiting
completion write is a function of the post queue (R150) and has no field. -/
structure MPort where
  inService : Option Access
  fetchWaiting : PerRing (Option FetchRequest)
  setupWaiting : Option MailboxAddr
  lastFetch : RingId
  errors : List FaultRecord
  deriving DecidableEq, Repr

/-! ## The state -/

/-- The state of the part. -/
structure State where
  control : ControlUnit
  ringManager : RingManager
  issue : IssueArbiter
  map : MapUnit
  channels : PerChannel Channel
  ports : Ports
  banks : PerBank BankMemory
  writer : CompletionWriter
  coalescer : Coalescer
  mport : MPort
  mailbox : MailboxMemory
  /-- The MODEL's: which free value comes next (log entry 19). -/
  freeIndex : Nat
  /-- The MODEL's: the commands that wait, first in, first out (log entry 20). -/
  pending : List Instr
  deriving DecidableEq, Repr

/-- Why a step of the model stops with a fault. -/
inductive Fault where
  /-- Raised by BEAT_GRANT and BEAT_END when a word is named beyond the capacity of its bank (R2): no such word exists. SAFE: every
  beat the part makes lies below the capacity (R7 condition 6, R11), so the model stops only where the hardware cannot be. -/
  | noSuchWord
  deriving DecidableEq, Repr

/-- Why a step of the model is refused. -/
inductive Refusal where
  /-- A row of the table that has no meaning in the model. SAFE: nothing can be proved of it. No command of this model answers it. -/
  | notModelled (mnemonic : String)
  deriving DecidableEq, Repr

/-! ## The values after reset -/

def Sources.clear : Sources := ⟨false, false, false⟩

/-- A window entry after power-on reset (R19). -/
def WindowEntry.cleared : WindowEntry := ⟨false, 0, 0, .bank .d0, 0, false, false⟩

/-- The tables after power-on reset (R19, R40). -/
def WindowTable.cleared : WindowTable := Vector.replicate 16 WindowEntry.cleared

/-- R163. -/
def ControlUnit.reset : ControlUnit := ⟨.off, 0, Sources.clear, .none, ⟨.none, 0⟩, false, false⟩

/-- R55. -/
def RingDirectory.reset : RingDirectory := ⟨0, 2, false, .urgent, .cq0, false, false⟩

/-- R79. -/
def Ring.reset : Ring := ⟨RingDirectory.reset, 0, 0, [], .disabled, .none, 0, .none, 0, false⟩

/-- R79. -/
def RingManager.reset : RingManager := ⟨PerRing.all Ring.reset, .sq0, false, false, PerRing.all false⟩

/-- R80. -/
def IssueArbiter.reset : IssueArbiter := ⟨.sq0, .sq0, PerRing.all [], false, 0⟩

/-- R19, R40. -/
def MapUnit.reset : MapUnit := ⟨WindowTable.cleared, WindowTable.cleared, 0, 0, .none, .none⟩

/-- R137: last granted C1, so that C0 goes first. -/
def Arbiter.reset : Arbiter := ⟨.none, [], [], .c1⟩

/-- R137, R140. -/
def Ports.reset : Ports := ⟨PerArbiter.all Arbiter.reset, PerDevice.all .none, false⟩

/-- R146, R147, R162. -/
def CompletionRing.reset : CompletionRing := ⟨0, 2, false, 1, 0, 0, 0, true, 0⟩

/-- R162. -/
def CompletionWriter.reset : CompletionWriter := ⟨PerCq.all CompletionRing.reset, [], false⟩

/-- R156, R157, R162. -/
def Coalescer.reset : Coalescer := ⟨PerCq.all ⟨0, false⟩, Sources.clear⟩

/-- R64: no access waits, and the last-granted ring is SQ3. -/
def MPort.reset : MPort := ⟨.none, PerRing.all .none, .none, .sq3, []⟩

/-- The part right after power-on reset (R176). Nothing is listed in mailbox memory or in the banks (log entries 3 and 4), and no
command waits. -/
def State.reset : State where
  control := ControlUnit.reset
  ringManager := RingManager.reset
  issue := IssueArbiter.reset
  map := MapUnit.reset
  channels := PerChannel.all .idle
  ports := Ports.reset
  banks := PerBank.all []
  writer := CompletionWriter.reset
  coalescer := Coalescer.reset
  mport := MPort.reset
  mailbox := []
  freeIndex := 0
  pending := []

end Sys2Proof.Machine
end

