-- ==== Sys2Proof/Machine/Memory.lean ====
section
/-! DEFINITION. Memory as a list of (address, contents) pairs with addresses strictly rising: mailbox memory (R41) and the banks'
words (R138). -/

namespace Sys2Proof.Machine

/-- The contents listed at an address. -/
def lookupAt {α : Type} : List (Nat × α) → Nat → Option α
  | [], _ => none
  | (k, v) :: rest, a => if k = a then some v else lookupAt rest a

/-- Store at an address, keeping the addresses rising. -/
def insertAt {α : Type} : List (Nat × α) → Nat → α → List (Nat × α)
  | [], a, v => [(a, v)]
  | (k, w) :: rest, a, v =>
    if k = a then (a, v) :: rest
    else if a < k then (a, v) :: (k, w) :: rest
    else (k, w) :: insertAt rest a v

/-- Unlist an address. -/
def eraseAt {α : Type} : List (Nat × α) → Nat → List (Nat × α)
  | [], _ => []
  | (k, w) :: rest, a => if k = a then rest else (k, w) :: eraseAt rest a

/-- Every listed address is above `lo`, and they rise strictly. -/
def risingFrom {α : Type} (lo : Nat) : List (Nat × α) → Bool
  | [] => true
  | (k, _) :: rest => decide (lo ≤ k) && risingFrom (k + 1) rest

/-- Addresses strictly rising. -/
def rising {α : Type} (m : List (Nat × α)) : Bool := risingFrom 0 m

/-! ## Mailbox memory (R41) -/

/-- The byte an address reads as: 00h where nothing is listed (log entry 3). -/
def mailboxByte (m : MailboxMemory) (a : MailboxAddr) : Byte := (lookupAt m a.toNat).getD 0

/-- Write a byte. Writing 00h, which an unlisted address reads as, unlists the address. -/
def mailboxSetByte (m : MailboxMemory) (a : MailboxAddr) (v : Byte) : MailboxMemory :=
  if v = 0 then eraseAt m a.toNat else insertAt m a.toNat v

/-- The canonical form of mailbox memory: addresses rising and below 65,536, no entry 00h. -/
def Memory.wf (m : MailboxMemory) : Bool :=
  rising m && m.all fun c => decide (c.1 < 65536) && decide (c.2 ≠ 0)

/-- The word whose first byte is at `a`: bits 7-0 at the lowest address (R41). -/
def mailboxWord (m : MailboxMemory) (a : MailboxAddr) : Word32 :=
  mailboxByte m (a + 3) ++ mailboxByte m (a + 2) ++ mailboxByte m (a + 1) ++ mailboxByte m a

/-- Write a word, bits 7-0 at the lowest address (R41). -/
def mailboxSetWord (m : MailboxMemory) (a : MailboxAddr) (w : Word32) : MailboxMemory :=
  mailboxSetByte (mailboxSetByte (mailboxSetByte (mailboxSetByte m a (w.extractLsb' 0 8)) (a + 1) (w.extractLsb' 8 8))
    (a + 2) (w.extractLsb' 16 8)) (a + 3) (w.extractLsb' 24 8)

/-- `n` words from `a` on: word i at byte offset 4 × i (R41). -/
def mailboxWords (m : MailboxMemory) (a : MailboxAddr) : Nat → List Word32
  | 0 => []
  | n + 1 => mailboxWord m a :: mailboxWords m (a + 4) n

/-- The host's writes, in order (log entry 5). -/
def mailboxHost (m : MailboxMemory) (ws : List HostWrite) : MailboxMemory :=
  ws.foldl (fun m w => mailboxSetByte m w.addr w.value) m

/-! ## Bank words (R138) -/

/-- What a bank holds at an offset: nothing until something has been written there (log entry 4). -/
def bankWord (m : BankMemory) (offset : Nat) : Option BankWord := lookupAt m offset

/-- The canonical form of a bank's words: offsets rising and below the capacity. -/
def bankWf (b : BankId) (m : BankMemory) : Bool :=
  rising m && m.all fun c => decide (c.1 < Config.bankCapacity b)

/-- Store a word and its parity (R138). -/
def bankSet (m : BankMemory) (offset : Nat) (w : BankWord) : BankMemory := insertAt m offset w

/-- A read beat at a bank: the stored value, or a parity error (R138). Of a word nothing has written both are free (log entry 4). -/
def bankRead (b : BankId) (m : BankMemory) (offset : Nat) : BeatOutcome :=
  match bankWord m offset with
  | some w => if w.parityGood then .value w.value else .parityError
  | none =>
    if Config.unwrittenParityGood b offset then
      .value (BitVec.ofNat 24 ((Config.unwrittenWord b offset).toNat % 2 ^ Config.bankBits b))
    else .parityError

end Sys2Proof.Machine
end

