-- ==== Sys2Proof/Machine/Formats.lean ====
section
/-! DEFINITION. The layouts software sees (chapter 3): codes, request records, the setup block, completion records and the
registers as the host reads them. -/

namespace Sys2Proof.Machine

/-! ## Codes -/

def RingId.code : RingId → Nat
  | .sq0 => 0
  | .sq1 => 1
  | .sq2 => 2
  | .sq3 => 3

def RingId.ofCode (c : BitVec 2) : RingId :=
  match c.toNat with
  | 0 => .sq0
  | 1 => .sq1
  | 2 => .sq2
  | _ => .sq3

def CqId.ofBit (b : Bool) : CqId := if b then .cq1 else .cq0

/-- Part state codes (section 3.7, STATUS). -/
def PartState.code : PartState → Nat
  | .off => 0
  | .loading => 1
  | .running => 2
  | .quiescing => 3
  | .quiesced => 4
  | .aborting => 5
  | .halted => 6

/-- Setup error codes (section 3.7, STATUS). -/
def SetupError.code : SetupError → Nat
  | .none => 0
  | .badFormat => 1
  | .badPlacement => 2
  | .ringOverlap => 3
  | .badDepth => 4
  | .cqMissing => 5
  | .badCoalesce => 6
  | .badDevice => 7
  | .mapConflict => 8

/-- Fault kind codes (section 3.7, STATUS). -/
def FaultKind.code : FaultKind → Nat
  | .none => 0
  | .fetchRead => 1
  | .postWrite => 2
  | .setupRead => 3

/-- Ring state codes (section 3.7, RINGCTL). -/
def RingPhase.code : RingPhase → Nat
  | .disabled => 0
  | .idle => 1
  | .active => 2
  | .stopping => 3
  | .stopped => 4
  | .flushing => 5
  | .faulted => 6

/-- Wait reason codes (section 3.7, RINGCTL). -/
def WaitReason.code : WaitReason → Nat
  | .none => 0
  | .part => 1
  | .order => 2
  | .completion => 3
  | .channel => 4
  | .hazard => 5
  | .mapDrain => 6

/-- Fault cause codes (section 3.7, RINGCTL). -/
def FaultCause.code : FaultCause → Nat
  | .none => 0
  | .overrun => 1
  | .retract => 2

/-- Status codes (R52). -/
def Status.code : Status → Nat
  | .ok => 0
  | .different => 1
  | .flushed => 2
  | .aborted => 3
  | .badKind => 8
  | .badFlags => 9
  | .badCount => 10
  | .mapMiss => 11
  | .rangeSplit => 12
  | .widthMismatch => 13
  | .writeProtect => 14
  | .deviceReadonly => 16
  | .overlap => 17
  | .windowInvalid => 18
  | .windowOverlap => 19
  | .windowLocked => 20
  | .dataError => 24
  | .deviceTimeout => 25
  | .loss => 26

/-- The kind a kind field names; none for an unknown kind (section 3.2, R43). -/
def Kind.ofCode (c : BitVec 8) : Option Kind :=
  match c.toNat with
  | 0x01 => some .copy
  | 0x02 => some .fill
  | 0x03 => some .compare
  | 0x04 => some .pack
  | 0x05 => some .unpack
  | 0x06 => some .split
  | 0x07 => some .join
  | 0x10 => some .fence
  | 0x11 => some .mark
  | 0x20 => some .mapset
  | 0x21 => some .maprevert
  | 0x22 => some .mapswitch
  | _ => none

/-- The code of a kind (section 3.2). -/
def Kind.code : Kind → BitVec 8
  | .copy => 0x01
  | .fill => 0x02
  | .compare => 0x03
  | .pack => 0x04
  | .unpack => 0x05
  | .split => 0x06
  | .join => 0x07
  | .fence => 0x10
  | .mark => 0x11
  | .mapset => 0x20
  | .maprevert => 0x21
  | .mapswitch => 0x22

/-- The target a target code names; none for codes 9 to 15 (R2). -/
def Target.ofCode (c : BitVec 4) : Option Target :=
  match c.toNat with
  | 0 => some (.bank .d0)
  | 1 => some (.bank .d1)
  | 2 => some (.bank .d2)
  | 3 => some (.bank .d3)
  | 4 => some (.bank .p0)
  | 5 => some (.bank .p1)
  | 6 => some (.device .x0)
  | 7 => some (.device .x1)
  | 8 => some (.device .x2)
  | _ => none

/-! ## Request records (section 3.2) -/

/-- The record whose eight words are given. -/
def Record.ofWords (w : List Word32) : Record :=
  let w0 := w.getD 0 0
  let w1 := w.getD 1 0
  let w6 := w.getD 6 0
  { kind := w0.extractLsb' 0 8
    flags := w0.extractLsb' 8 8
    tag := w0.extractLsb' 16 16
    count := w1.extractLsb' 0 17
    pad := w1.extractLsb' 24 8
    a := (w.getD 2 0).extractLsb' 0 24
    b := (w.getD 3 0).extractLsb' 0 24
    c := (w.getD 4 0).extractLsb' 0 24
    pattern := (w.getD 5 0).extractLsb' 0 24
    index := w6.extractLsb' 0 4
    enabled := w6.getLsbD 4
    sizeCode := w6.extractLsb' 8 4
    targetCode := w6.extractLsb' 12 4
    wp := w6.getLsbD 16
    lock := w6.getLsbD 17 }

/-- The eight words of a record, every ignored bit 0. -/
def Record.toWords (r : Record) : List Word32 :=
  [ r.tag ++ r.flags ++ r.kind,
    r.pad ++ (0 : BitVec 7) ++ r.count,
    (0 : BitVec 8) ++ r.a,
    (0 : BitVec 8) ++ r.b,
    (0 : BitVec 8) ++ r.c,
    (0 : BitVec 8) ++ r.pattern,
    (0 : BitVec 14) ++ BitVec.ofBool r.lock ++ BitVec.ofBool r.wp ++ r.targetCode ++ r.sizeCode ++ (0 : BitVec 3) ++
      BitVec.ofBool r.enabled ++ r.index,
    0 ]

/-! ## The setup block (section 3.6) -/

/-- A completion ring's two words of the setup block. -/
structure CqSetup where
  base : MailboxAddr
  depthCode : BitVec 4
  enabled : Bool
  threshold : BitVec 6
  holdoff : BitVec 11
  deriving DecidableEq, Repr

/-- A device's word of the setup block. -/
structure DeviceSetup where
  present : Bool
  profile : Profile
  deriving DecidableEq, Repr

/-- The twelve words of the setup block, as fields. -/
structure SetupBlock where
  format : Word32
  rings : PerRing RingDirectory
  cqs : PerCq CqSetup
  devices : PerDevice DeviceSetup
  deriving DecidableEq, Repr

def ringDirectoryOfWord (w : Word32) : RingDirectory where
  base := w.extractLsb' 0 16
  depthCode := w.extractLsb' 16 4
  enabled := w.getLsbD 20
  cls := if w.getLsbD 21 then .normal else .urgent
  cq := CqId.ofBit (w.getLsbD 22)
  ordered := w.getLsbD 23
  stopOnError := w.getLsbD 24

def cqSetupOfWords (first second : Word32) : CqSetup where
  base := first.extractLsb' 0 16
  depthCode := first.extractLsb' 16 4
  enabled := first.getLsbD 20
  threshold := second.extractLsb' 0 6
  holdoff := second.extractLsb' 16 11

def deviceSetupOfWord (w : Word32) : DeviceSetup where
  present := w.getLsbD 0
  profile :=
    { width := if w.getLsbD 1 then .w24 else .w16
      sizeCode := w.extractLsb' 4 5
      writable := w.getLsbD 9
      timeout := w.extractLsb' 16 8 }

/-- The setup block whose twelve words are given (R53). -/
def SetupBlock.ofWords (w : List Word32) : SetupBlock where
  format := w.getD 0 0
  rings :=
    ⟨ringDirectoryOfWord (w.getD 1 0), ringDirectoryOfWord (w.getD 2 0), ringDirectoryOfWord (w.getD 3 0),
     ringDirectoryOfWord (w.getD 4 0)⟩
  cqs := ⟨cqSetupOfWords (w.getD 5 0) (w.getD 6 0), cqSetupOfWords (w.getD 7 0) (w.getD 8 0)⟩
  devices := ⟨deviceSetupOfWord (w.getD 9 0), deviceSetupOfWord (w.getD 10 0), deviceSetupOfWord (w.getD 11 0)⟩

/-! ## Completion records (section 3.4) -/

/-- The detail field: NONE is FFFFFFFFh (R50). -/
def Detail.bits : Detail → Word32
  | .none => 0xFFFFFFFF
  | .address a => (0 : BitVec 8) ++ a
  | .index i => (0 : BitVec 16) ++ i

def Direction.bit : Direction → Bool
  | .ascending => false
  | .descending => true

/-- The four words of a completion record, w0 first (section 3.4), with the phase of the completion ring (R50). -/
def Completion.words (e : Completion) (phase : Bool) : Vector Word32 4 :=
  #v[ (0 : BitVec 6) ++ BitVec.ofNat 2 (RingId.code e.ring) ++ BitVec.ofBool e.direction.bit ++ BitVec.ofBool phase ++
        BitVec.ofNat 6 e.status.code ++ e.tag,
      e.generation ++ (0 : BitVec 7) ++ BitVec.ofNat 17 e.elementsDone,
      e.detail.bits,
      BitVec.ofNat 16 e.conflictBeats ++ (0 : BitVec 8) ++ BitVec.ofNat 8 e.slot ]

/-! ## The registers as the host reads them (section 3.7) -/

/-- The seven registers (section 3.7). -/
inductive Register where
  | control | status | setup | post | ack | ringctl | intstat
  deriving DecidableEq, Repr

def Sources.bits (m : Sources) : BitVec 3 := BitVec.ofBool m.event ++ BitVec.ofBool m.cq1 ++ BitVec.ofBool m.cq0

/-- STATUS (R163). -/
def readStatus (s : State) : Word32 :=
  let c := s.control
  let m := s.ringManager
  (c.faultRecord.addr.extractLsb' 4 12 ++ (0 : BitVec 1) ++ BitVec.ofBool c.moreFaults ++
    BitVec.ofNat 2 c.faultRecord.kind.code) ++
  (BitVec.ofBool m.ringsChanged.sq3 ++ BitVec.ofBool m.ringsChanged.sq2 ++ BitVec.ofBool m.ringsChanged.sq1 ++
    BitVec.ofBool m.ringsChanged.sq0) ++
  (BitVec.ofBool c.refused ++ BitVec.ofBool s.writer.ackInvalid ++ BitVec.ofBool m.ringctlRefused ++
    BitVec.ofBool m.postRejected) ++
  (BitVec.ofNat 4 c.setupError.code ++ (0 : BitVec 1) ++ BitVec.ofNat 3 c.part.code)

/-- RINGCTL, for one ring (R54, R67). -/
def readRing (g : Ring) : Word32 :=
  (0 : BitVec 1) ++ BitVec.ofNat 4 g.inFlight ++ BitVec.ofNat 3 g.queue.length ++ BitVec.ofNat 2 g.cause.code ++
    BitVec.ofNat 3 g.wait.code ++ BitVec.ofNat 3 g.phase.code ++ g.fetch

/-- A read of a register: it returns the register as it stands and changes nothing (R54; log entry 22). -/
def readRegister (s : State) : Register → Word32
  | .control => (0 : BitVec 21) ++ Sources.bits s.control.mask ++ (0 : BitVec 8)
  | .status => readStatus s
  | .setup => (0 : BitVec 16) ++ s.control.setupAddr
  | .post => 0
  | .ack => 0
  | .ringctl => readRing (s.ringManager.rings.get s.ringManager.selected)
  | .intstat => (0 : BitVec 29) ++ Sources.bits s.coalescer.intstat

end Sys2Proof.Machine
end

