-- ==== Sys2Proof/Decode.lean ====
section
/-! DEFINITION. Which command a host write to a register is (section 3.7, R54), and the word that writes a command. The rows of
spec/opcode_table.json have no bits, so `decodeTableWord` reads none (log entry 21). -/

namespace Sys2Proof

open Machine (Register)

/-- The command that a word spells by the table's bits. No row of the table gives any. -/
def decodeTableWord (_nbits _w : Nat) : Option Instr := none

/-- The mask bits of a CONTROL write: bits 8 to 10 (section 3.7). -/
def maskOfControl (w : Word32) : Sources := ⟨w.getLsbD 8, w.getLsbD 9, w.getLsbD 10⟩

/-- A write to CONTROL (R54, R164). -/
def decodeControl (w : Word32) : Instr :=
  match (w.extractLsb' 0 3).toNat with
  | 0 => .controlMaskWrite (maskOfControl w)
  | 1 => .enable (maskOfControl w)
  | 2 => .quiesce (maskOfControl w)
  | 3 => .resume (maskOfControl w)
  | 4 => .abort (maskOfControl w)
  | 5 => .softReset (maskOfControl w)
  | _ => .controlUnknownCommand (w.extractLsb' 0 3) (maskOfControl w)

/-- The ring of a RINGCTL or POST write: bits 1 to 0 (section 3.7). -/
def ringOfWord (w : Word32) : RingId := Machine.RingId.ofCode (w.extractLsb' 0 2)

/-- A write to RINGCTL (R54, R67). -/
def decodeRingctl (w : Word32) : Instr :=
  match (w.extractLsb' 4 3).toNat with
  | 0 => .select (ringOfWord w)
  | 1 => .stop (ringOfWord w)
  | 2 => .ringResume (ringOfWord w)
  | 3 => .flush (ringOfWord w)
  | 4 => .ringReset (ringOfWord w)
  | _ => .ringctlUnknownCommand (w.extractLsb' 4 3) (ringOfWord w)

/-- The command that a host write of a word to a register is (section 3.7). Bits the layout marks zero have no effect (R41). -/
def decodeRegisterWrite (r : Register) (w : Word32) : Instr :=
  match r with
  | .control => decodeControl w
  | .status => .statusWrite w
  | .setup => .setupWrite (w.extractLsb' 0 16)
  | .post => .post (ringOfWord w) (w.extractLsb' 16 16)
  | .ack => .ack (Machine.CqId.ofBit (w.getLsbD 0)) (w.extractLsb' 16 16)
  | .ringctl => decodeRingctl w
  | .intstat => .intstatWrite w

/-- A CONTROL word with a command code and mask bits. -/
def controlWord (code : BitVec 3) (m : Sources) : Word32 :=
  (0 : BitVec 21) ++ Machine.Sources.bits m ++ (0 : BitVec 5) ++ code

/-- A RINGCTL word with a command code and a ring. -/
def ringctlWord (code : BitVec 3) (r : RingId) : Word32 :=
  (0 : BitVec 25) ++ code ++ (0 : BitVec 2) ++ BitVec.ofNat 2 (Machine.RingId.code r)

/-- The register write that gives a command, for the commands the host gives by one. -/
def encodeRegisterWrite : Instr → Option (Register × Word32)
  | .controlMaskWrite m => some (.control, controlWord 0 m)
  | .enable m => some (.control, controlWord 1 m)
  | .quiesce m => some (.control, controlWord 2 m)
  | .resume m => some (.control, controlWord 3 m)
  | .abort m => some (.control, controlWord 4 m)
  | .softReset m => some (.control, controlWord 5 m)
  | .controlUnknownCommand code m => some (.control, controlWord code m)
  | .select r => some (.ringctl, ringctlWord 0 r)
  | .stop r => some (.ringctl, ringctlWord 1 r)
  | .ringResume r => some (.ringctl, ringctlWord 2 r)
  | .flush r => some (.ringctl, ringctlWord 3 r)
  | .ringReset r => some (.ringctl, ringctlWord 4 r)
  | .ringctlUnknownCommand code r => some (.ringctl, ringctlWord code r)
  | .post r t => some (.post, t ++ (0 : BitVec 14) ++ BitVec.ofNat 2 (Machine.RingId.code r))
  | .ack c h => some (.ack, h ++ (0 : BitVec 15) ++ BitVec.ofBool (decide (c = .cq1)))
  | .setupWrite a => some (.setup, (0 : BitVec 16) ++ a)
  | .statusWrite w => some (.status, w)
  | .intstatWrite w => some (.intstat, w)
  | .powerOnReset | .fetchRequest _ | .mPortGrant | .fetchComplete _ _ | .setupLoadEnd _ _ | .mailboxFault | .examination
  | .beatGrant _ _ | .beatEnd _ | .ready _ _ | .readyTimeout | .handOff _ | .flushDisposal _ | .completionWrite _
  | .holdoffExpiry _ => none

end Sys2Proof
end

