-- ==== Sys2Proof/Machine/Operands.lean ====
section
/-! DEFINITION. The operands of records: what each kind reads and writes (R47, R48), windows and resolution (chapter 1), overlap of
physical extents (R14), and depths and slots of rings (R56, R146). -/

namespace Sys2Proof.Machine

/-! ## Widths and capacities (R2, R3) -/

/-- The width of a target; an absent device has none (R3). -/
def targetWidth (profiles : PerDevice (Option Profile)) : Target → Option Width
  | .bank .d0 | .bank .d1 | .bank .d2 | .bank .d3 => some .w16
  | .bank .p0 | .bank .p1 => some .w24
  | .device d => (profiles.get d).map (·.width)

/-- The capacity of a target in words; an absent device has none (R2, R3). -/
def targetCapacity (profiles : PerDevice (Option Profile)) : Target → Option Nat
  | .bank b => some (Config.bankCapacity b)
  | .device d => (profiles.get d).map fun p => 2 ^ p.sizeCode.toNat

/-- The arbiter of a target (R132). -/
def arbiterOf : Target → ArbiterId
  | .bank b => .bank b
  | .device _ => .xPort

/-! ## Windows (R6 to R9) -/

/-- Window size in words: 256 × 2^k (R6). -/
def windowSize (e : WindowEntry) : Nat := 256 * 2 ^ e.sizeCode.toNat

/-- An enabled entry contains the addresses from its base to base + size - 1; a disabled one contains none (R8). -/
def windowContains (e : WindowEntry) (a : Nat) : Bool :=
  e.enabled && decide (e.logicalBase.toNat ≤ a) && decide (a < e.logicalBase.toNat + windowSize e)

/-- Two enabled entries overlap when some logical address is contained in both (R9). -/
def windowsOverlap (e f : WindowEntry) : Bool :=
  e.enabled && f.enabled && decide (e.logicalBase.toNat < f.logicalBase.toNat + windowSize f) &&
    decide (f.logicalBase.toNat < e.logicalBase.toNat + windowSize e)

/-- Conditions 3 to 6 of R7, for an enabled entry. -/
def windowFits (profiles : PerDevice (Option Profile)) (e : WindowEntry) : Bool :=
  decide (e.logicalBase.toNat % windowSize e = 0) && decide (e.targetBase.toNat % 256 = 0) &&
    match targetCapacity profiles e.target with
    | some c => decide (e.targetBase.toNat + windowSize e ≤ c)
    | none => false

/-- A valid entry (R7). The target code of an entry that names a target is valid. -/
def windowValid (profiles : PerDevice (Option Profile)) (e : WindowEntry) : Bool :=
  decide (e.sizeCode.toNat ≤ 8) && (!e.enabled || windowFits profiles e)

/-! ## Resolution (R10, R11) -/

/-- What resolving an extent gives (R11): the extent, with the WP of its window, or a failure. -/
inductive Resolution where
  | found (e : Extent) (wp : Bool)
  | miss
  | split
  deriving DecidableEq, Repr

/-- The enabled entry that contains an address: at most one does (R5, R9). -/
def windowAt (table : WindowTable) (a : Nat) : Option WindowEntry := table.toList.find? (windowContains · a)

/-- Resolution of the extent of `n` words from `start` (R11). A window on an absent device, which no table of a running part holds
(R3), names no word: it resolves as a miss (log entry 15). -/
def resolve (table : WindowTable) (profiles : PerDevice (Option Profile)) (start : LogicalAddr) (n : Nat) : Resolution :=
  match windowAt table start.toNat with
  | none => .miss
  | some e =>
    if windowContains e (start.toNat + n - 1) then
      match targetWidth profiles e.target with
      | none => .miss
      | some w =>
        let first := e.targetBase.toNat + (start.toNat - e.logicalBase.toNat)
        .found ⟨start, ⟨e.target, first, first + n - 1⟩, w⟩ e.wp
    else .split

/-- Two physical extents overlap (R14). -/
def physOverlap (x y : PhysExtent) : Bool :=
  decide (x.target = y.target) && decide (x.first ≤ y.last) && decide (y.first ≤ x.last)

/-! ## Kinds and their extents (R45, R47, R48) -/

/-- A transfer kind runs on a channel (section 3.2). -/
def Kind.isTransfer : Kind → Bool
  | .copy | .fill | .compare | .pack | .unpack | .split | .join => true
  | .fence | .mark | .mapset | .maprevert | .mapswitch => false

/-- The length in words of an extent a kind names, for `n` elements (R48). -/
def extentLength (k : Kind) (n : Nat) (x : ExtentName) : Option Nat :=
  match k, x with
  | .copy, .a => some n
  | .copy, .b => some n
  | .fill, .b => some n
  | .compare, .a => some n
  | .compare, .b => some n
  | .pack, .a => some n
  | .pack, .b => some (3 * n / 2)
  | .unpack, .a => some (3 * n / 2)
  | .unpack, .b => some n
  | .split, .a => some n
  | .split, .b => some n
  | .split, .c => some ((n + 1) / 2)
  | .join, .a => some n
  | .join, .b => some n
  | .join, .c => some ((n + 1) / 2)
  | _, _ => none

/-- Whether a kind writes an extent it names; it reads the others (R48). -/
def extentWritten (k : Kind) (x : ExtentName) : Bool :=
  match k, x with
  | .copy, .b => true
  | .fill, .b => true
  | .pack, .b => true
  | .unpack, .b => true
  | .split, .b => true
  | .split, .c => true
  | .join, .b => true
  | _, _ => false

/-- The address field of an extent (section 3.2). -/
def recordAddress (r : Record) : ExtentName → LogicalAddr
  | .a => r.a
  | .b => r.b
  | .c => r.c

/-- The elements one step carries out: a pair for PACK and UNPACK (R104). -/
def stepElements : Kind → Nat
  | .pack | .unpack => 2
  | _ => 1

/-! ## Rings: depths, slots, counts (R55, R56, R146) -/

/-- Slots of a ring with depth code d: 2^d. -/
def depthOf (code : BitVec 4) : Nat := 2 ^ code.toNat

/-- The number of posted records not yet fetched (R56). -/
def ringPending (g : Ring) : Nat := g.tail.since g.fetch

/-- The slot that the fetch count names (R56). -/
def fetchSlot (g : Ring) : Nat := g.fetch.toNat % depthOf g.dir.depthCode

/-- The mailbox address of a slot of a submission ring (R41). -/
def slotAddr (g : Ring) (slot : Nat) : MailboxAddr := g.dir.base + BitVec.ofNat 16 (32 * slot)

/-- The records written into a completion ring and not handed back (R147). -/
def cqUsed (q : CompletionRing) : Nat := q.tail.since q.head

/-- A completion ring has room for a reservation (R83 step 4, R148). -/
def cqHasRoom (q : CompletionRing) : Bool := decide (q.reservations + cqUsed q < depthOf q.depthCode)

/-- The mailbox address of the slot the next record is written into (R147, R151). -/
def cqSlotAddr (q : CompletionRing) : MailboxAddr :=
  q.base + BitVec.ofNat 16 (16 * (q.tail.toNat % depthOf q.depthCode))

/-- The ring after a ring, modulo 4 (R82). -/
def RingId.next : RingId → RingId
  | .sq0 => .sq1
  | .sq1 => .sq2
  | .sq2 => .sq3
  | .sq3 => .sq0

/-- The four rings in order from a ring (R64, R82). -/
def ringsFrom (r : RingId) : List RingId :=
  [r, RingId.next r, RingId.next (RingId.next r), RingId.next (RingId.next (RingId.next r))]

end Sys2Proof.Machine
end

