-- ==== Sys2Proof/Machine/Flags.lean ====
section
/-! DEFINITION. The flags: a record's flag bits (R43, R44), the classes of status (R52), the STATUS flags and their clearing (R54), the
INTSTAT sources and the interrupt line (R158 to R160). -/

namespace Sys2Proof.Machine

/-! ## The flags field of a record -/

/-- STRICT is bit 8 of w0, bit 0 of the flags field (section 3.2). -/
def Record.strict (r : Record) : Bool := r.flags.getLsbD 0

/-- HIGHONLY is bit 9 of w0, bit 1 of the flags field (section 3.2). -/
def Record.highonly (r : Record) : Bool := r.flags.getLsbD 1

/-- The record-level check of the flag bits: a transfer kind may carry STRICT and HIGHONLY, a control kind none (R43, R44). -/
def flagBitsAllowed (k : Kind) (flags : BitVec 8) : Bool :=
  if k.isTransfer then decide (flags.extractLsb' 2 6 = 0) else decide (flags = 0)

/-- The flag-validity check after resolution (R44, R92): STRICT on a COPY from W24 to W16, HIGHONLY on a COMPARE of two W24. -/
def flagsFit (k : Kind) (strict highonly : Bool) (wa wb : Option Width) : Bool :=
  (!strict || (decide (k = .copy) && decide (wa = some .w24) && decide (wb = some .w16))) &&
    (!highonly || (decide (k = .compare) && decide (wa = some .w24) && decide (wb = some .w24)))

/-- The valid counts of a transfer kind (R45). -/
def countAllowed (k : Kind) (n : Nat) : Bool :=
  decide (n ≤ 65536) && (decide (stepElements k = 1) || decide (n % 2 = 0))

/-! ## Status classes (R52) -/

/-- The statuses of the refusal and transfer-error classes trigger stop-on-error; results and disposals do not (R52). -/
def Status.triggersStop : Status → Bool
  | .ok | .different | .flushed | .aborted => false
  | .badKind | .badFlags | .badCount | .mapMiss | .rangeSplit | .widthMismatch | .writeProtect | .deviceReadonly | .overlap
  | .windowInvalid | .windowOverlap | .windowLocked | .dataError | .deviceTimeout | .loss => true

/-! ## STATUS (R54) -/

/-- A write of `w` to STATUS: each flag bit and rings-changed bit written as 1 is cleared. -/
def clearStatus (s : State) (w : Word32) : State :=
  let m := s.ringManager
  let keep := fun (bit : Nat) (b : Bool) => b && !w.getLsbD bit
  { s with
    control := { s.control with refused := keep 11 s.control.refused }
    ringManager :=
      { m with
        postRejected := keep 8 m.postRejected
        ringctlRefused := keep 9 m.ringctlRefused
        ringsChanged :=
          ⟨keep 12 m.ringsChanged.sq0, keep 13 m.ringsChanged.sq1, keep 14 m.ringsChanged.sq2, keep 15 m.ringsChanged.sq3⟩ }
    writer := { s.writer with ackInvalid := keep 10 s.writer.ackInvalid } }

/-! ## INTSTAT and the interrupt line (R158 to R160) -/

/-- A write of `w` to INTSTAT: each source written as 1 is cleared (R158). -/
def clearSources (i : Sources) (w : Word32) : Sources :=
  ⟨i.cq0 && !w.getLsbD 0, i.cq1 && !w.getLsbD 1, i.event && !w.getLsbD 2⟩

/-- The source of a completion ring is set (R156, R157). -/
def setCqSource (i : Sources) (c : CqId) : Sources :=
  match c with
  | .cq0 => { i with cq0 := true }
  | .cq1 => { i with cq1 := true }

/-- The interrupt line: asserted while a source is set and its mask bit is set (R160). -/
def interruptLine (s : State) : Bool :=
  let i := s.coalescer.intstat
  let m := s.control.mask
  (i.cq0 && m.cq0) || (i.cq1 && m.cq1) || (i.event && m.event)

end Sys2Proof.Machine
end

