-- ==== Sys2Proof/Machine/Conversions.lean ====
section
/-! DEFINITION. The element conversions of chapter 7: which bits of the source words make which bits of the destination words. -/

namespace Sys2Proof.Machine

/-! ## Parts of words (R118) -/

/-- Bits 23 to 8 of a W24 word. -/
def upper16 (v : W24) : W16 := v.extractLsb' 8 16

/-- Bits 7 to 0 of a W24 word. -/
def lowByte (v : W24) : Byte := v.extractLsb' 0 8

/-- Bits 15 to 8 of a W16 word. -/
def upperByte (v : W16) : Byte := v.extractLsb' 8 8

/-- Bits 7 to 0 of a W16 word. -/
def lowerByte (v : W16) : Byte := v.extractLsb' 0 8

/-- A W16 value as it travels in a beat. -/
def ofW16 (v : W16) : W24 := (0 : BitVec 8) ++ v

/-- The W16 value of a beat at a W16 target. -/
def toW16 (v : W24) : W16 := v.extractLsb' 0 16

/-- A value as a word of a width: a W16 word keeps the low 16 bits. -/
def fitWidth (w : Width) (v : W24) : W24 :=
  match w with
  | .w16 => ofW16 (toW16 v)
  | .w24 => v

/-! ## COPY and FILL (R120 to R123) -/

/-- Bits 23-8 take the 16 bits of the source, bits 7-0 the pad byte (R121). -/
def widen (v : W16) (pad : Byte) : W24 := v ++ pad

/-- What a COPY writes for the value it read (R119 to R122). -/
def copyValue (wa wb : Width) (pad : Byte) (v : W24) : W24 :=
  match wa, wb with
  | .w16, .w16 => v
  | .w24, .w24 => v
  | .w16, .w24 => widen (toW16 v) pad
  | .w24, .w16 => ofW16 (upper16 v)

/-- What a FILL writes: the whole pattern, or its upper 16 bits (R123). -/
def fillValue (wb : Width) (pattern : W24) : W24 :=
  match wb with
  | .w16 => ofW16 (upper16 pattern)
  | .w24 => pattern

/-! ## COMPARE (R124) -/

/-- Whether a COMPARE finds two values equal: whole words, or the upper 16 bits with HIGHONLY. -/
def compareEqual (highonly : Bool) (x y : W24) : Bool :=
  if highonly then decide (upper16 x = upper16 y) else decide (x = y)

/-! ## PACK and UNPACK (R125, R126) -/

/-- The three words of a pair (R125). -/
def packPair (x y : W24) : W16 × W16 × W16 :=
  (x.extractLsb' 8 16, x.extractLsb' 0 8 ++ y.extractLsb' 16 8, y.extractLsb' 0 16)

/-- The two elements of three words (R126). -/
def unpackTriple (u v w : W16) : W24 × W24 :=
  (u ++ upperByte v, lowerByte v ++ w)

/-! ## SPLIT and JOIN (R128, R130) -/

/-- A half-filled residue word: the low byte of the even element as its upper byte (R104, R128). -/
def halfResidue (v : W24) : W16 := lowByte v ++ (0 : Byte)

/-- The half-filled word completed with a lower byte (R128). -/
def completeResidue (half : W16) (low : Byte) : W16 := upperByte half ++ low

/-- A joined element: bits 23-8 from the main stream, bits 7-0 from the residue word's upper byte for an even element and its lower
byte for an odd one (R130). -/
def joinValue (i : Nat) (main residue : W16) : W24 :=
  main ++ (if i % 2 = 0 then upperByte residue else lowerByte residue)

end Sys2Proof.Machine
end

