-- ==== Sys2Proof/Machine/Ops.lean ====
section
/-! DEFINITION. The named operations on State that the meanings share. -/

namespace Sys2Proof.Machine

/-! ## Control Unit -/

def State.setPart (s : State) (p : PartState) : State := { s with control := { s.control with part := p } }

/-- A write to CONTROL first replaces the interrupt mask (R54, R164). -/
def State.setMask (s : State) (m : Sources) : State := { s with control := { s.control with mask := m } }

/-- A CONTROL command that is dropped sets CONTROL_REFUSED (R164). -/
def State.refuseControl (s : State) : State := { s with control := { s.control with refused := true } }

/-- The EVENT source is set (R159). -/
def State.setEvent (s : State) : State :=
  { s with coalescer := { s.coalescer with intstat := { s.coalescer.intstat with event := true } } }

/-! ## Rings -/

def State.ring (s : State) (r : RingId) : Ring := s.ringManager.rings.get r

def State.setRing (s : State) (r : RingId) (g : Ring) : State :=
  { s with ringManager := { s.ringManager with rings := s.ringManager.rings.set r g } }

/-- The ring read back through RINGCTL becomes the selected ring (R67). -/
def State.selectRing (s : State) (r : RingId) : State := { s with ringManager := { s.ringManager with selected := r } }

/-- A RINGCTL command that is dropped sets RINGCTL_REFUSED (R72). -/
def State.refuseRingctl (s : State) : State := { s with ringManager := { s.ringManager with ringctlRefused := true } }

/-- A POST that is dropped sets POST_REJECTED (R57). -/
def State.rejectPost (s : State) : State := { s with ringManager := { s.ringManager with postRejected := true } }

/-- An entry into STOPPED or FAULTED sets the ring's rings-changed bit and the EVENT source (R78). -/
def State.reportRing (s : State) (r : RingId) : State :=
  { s with
    ringManager := { s.ringManager with ringsChanged := s.ringManager.ringsChanged.set r true }
    coalescer := { s.coalescer with intstat := { s.coalescer.intstat with event := true } } }

/-- A ring outside ACTIVE and FLUSHING reads wait reason NONE (R67, R84; log entry 27). -/
def Ring.enter (g : Ring) (p : RingPhase) : Ring := { g with phase := p, wait := .none }

/-- The ring enters STOPPED, which is reported (R78). -/
def State.enterStopped (s : State) (r : RingId) : State := (s.setRing r ((s.ring r).enter .stopped)).reportRing r

/-! ## Issue Arbiter -/

/-- A change of R81 leads to an examination. -/
def State.examineDue (s : State) : State := { s with issue := { s.issue with due := true } }

def State.setHazards (s : State) (r : RingId) (h : List Hazard) : State :=
  { s with issue := { s.issue with hazards := s.issue.hazards.set r h } }

/-- A taken transfer of a ring adds an entry with its extents to the ring's hazard list (R97), under a key that no transfer had
before it (log entry 14). -/
def State.listTransfer (s : State) (r : RingId) (reads writes : List PhysExtent) : State :=
  { s with
    issue :=
      { s.issue with
        hazards := s.issue.hazards.set r (s.issue.hazards.get r ++ [⟨s.issue.nextKey, reads, writes⟩])
        nextKey := s.issue.nextKey + 1 } }

/-! ## Map Unit -/

def State.setMap (s : State) (m : MapUnit) : State := { s with map := m }

/-! ## Channels and arbiters -/

def State.channel (s : State) (c : ChannelId) : Channel := s.channels.get c

def State.setChannel (s : State) (c : ChannelId) (ch : Channel) : State := { s with channels := s.channels.set c ch }

def Channel.isIdle : Channel → Bool
  | .idle => true
  | .running _ | .ending _ => false

/-- No channel is RUNNING or ENDING. -/
def channelsIdle (s : State) : Bool := s.channels.c0.isIdle && s.channels.c1.isIdle

def State.arbiter (s : State) (i : ArbiterId) : Arbiter := s.ports.arbiters.get i

def State.setArbiter (s : State) (i : ArbiterId) (a : Arbiter) : State :=
  { s with ports := { s.ports with arbiters := s.ports.arbiters.set i a } }

/-- The beats of a channel that wait at an arbiter (R134). -/
def waitingOf (a : Arbiter) : ChannelId → List Beat
  | .c0 => a.waitC0
  | .c1 => a.waitC1

def setWaiting (a : Arbiter) (c : ChannelId) (bs : List Beat) : Arbiter :=
  match c with
  | .c0 => { a with waitC0 := bs }
  | .c1 => { a with waitC1 := bs }

/-- One conflict beat is counted to a channel; the count stays at 65,535 (R135). -/
def Context.addConflict (x : Context) : Context := { x with conflictBeats := min (x.conflictBeats + 1) Config.conflictLimit }

def State.countConflict (s : State) (c : ChannelId) : State :=
  match s.channel c with
  | .idle => s
  | .running x => s.setChannel c (.running x.addConflict)
  | .ending x => s.setChannel c (.ending x.addConflict)

/-- A channel requests a beat: it waits at the arbiter of its target, and counts a conflict beat when the arbiter has a beat in
service (R133, R135). -/
def State.requestBeat (s : State) (b : Beat) : State :=
  let i := arbiterOf b.target
  let a := s.arbiter i
  let busy := a.inService.isSome
  let s := s.setArbiter i (setWaiting a b.channel (waitingOf a b.channel ++ [{ b with counted := busy }]))
  if busy then s.countConflict b.channel else s

/-- Beats requested together, in extent order (R105, R134). -/
def State.requestBeats (s : State) (bs : List Beat) : State := bs.foldl State.requestBeat s

/-! ## Banks -/

def State.setBank (s : State) (b : BankId) (m : BankMemory) : State := { s with banks := s.banks.set b m }

/-- What agents outside the part have written to a bank (log entry 6); none when a word does not exist (R2). -/
def outsideWrites (b : BankId) (m : BankMemory) : List OutsideWrite → Option BankMemory
  | [] => some m
  | w :: rest =>
    if w.offset < Config.bankCapacity b then
      outsideWrites b
        (bankSet m w.offset ⟨BitVec.ofNat 24 (w.value.toNat % 2 ^ Config.bankBits b), w.parityGood⟩)
        rest
    else none

/-! ## Completion rings and the post queue -/

def State.cq (s : State) (c : CqId) : CompletionRing := s.writer.cqs.get c

def State.setCq (s : State) (c : CqId) (q : CompletionRing) : State :=
  { s with writer := { s.writer with cqs := s.writer.cqs.set c q } }

def State.setPostQueue (s : State) (q : List Completion) : State := { s with writer := { s.writer with postQueue := q } }

/-- The post queue has `n` free entries (R149). -/
def postRoom (s : State) (n : Nat) : Bool := decide (s.writer.postQueue.length + n ≤ Config.postQueueCapacity)

/-- A reservation is taken on a completion ring (R148). -/
def State.reserve (s : State) (c : CqId) : State :=
  s.setCq c { s.cq c with reservations := (s.cq c).reservations + 1 }

/-- A reservation is given back or passes into the tail (R148). -/
def State.release (s : State) (c : CqId) : State :=
  s.setCq c { s.cq c with reservations := (s.cq c).reservations - 1 }

/-- Stop-on-error: an error entry of a stop-on-error ring takes an IDLE or ACTIVE ring to STOPPING at its hand-off (R77). -/
def State.stopOnError (s : State) (r : RingId) (status : Status) : State :=
  let g := s.ring r
  if g.dir.stopOnError && status.triggersStop && (decide (g.phase = .idle) || decide (g.phase = .active)) then
    s.setRing r (g.enter .stopping)
  else s

/-- A completion entry is handed to the tail of the post queue (R149), and stop-on-error acts (R77). -/
def State.handEntry (s : State) (e : Completion) : State :=
  (s.setPostQueue (s.writer.postQueue ++ [e])).stopOnError e.ring e.status

/-- A completion not made by a channel: no elements, ASCENDING, no conflict beats (R51). -/
def plainCompletion (s : State) (r : RingId) (slot : Nat) (tag : BitVec 16) (status : Status) (detail : Detail) : Completion where
  tag := tag
  status := status
  ring := r
  slot := slot
  elementsDone := 0
  generation := s.map.generation
  detail := detail
  direction := .ascending
  conflictBeats := 0
  cq := (s.ring r).dir.cq
  transferKey := none

/-! ## M-port -/

def State.setMPort (s : State) (m : MPort) : State := { s with mport := m }

/-- An access that ended with an error frees the port and hands the error to the Control Unit (R172). -/
def State.reportFault (s : State) (kind : FaultKind) (addr : MailboxAddr) : State :=
  s.setMPort { s.mport with errors := s.mport.errors ++ [⟨kind, addr⟩] }

/-- The access in service ends and the port is free (R64). -/
def State.freePort (s : State) : State := s.setMPort { s.mport with inService := none }

/-- An access in service can end: outside HALTED, one that is in service while an error waits to be taken was granted before the taking
of the fault, and is still in service when the part enters HALTED (R172, R173; log entry 16). -/
def accessCanEnd (s : State) : Bool := decide (s.control.part = .halted) || s.mport.errors.isEmpty

/-- The number of completion writes that have failed and whose faults are not yet taken: their entries still hold their places, in
order, at the head of the post queue (R153; log entry 31). -/
def failedWrites (s : State) : Nat := (s.mport.errors.filter fun f => decide (f.kind = .postWrite)).length

/-- The entry the Completion Writer writes: entries are written in queue order, each once (R150, R154), so it is the first one whose
write has not failed (log entry 31). -/
def writerEntry (s : State) : Option Completion := s.writer.postQueue[failedWrites s]?

/-- The entry the Completion Writer has written leaves the post queue (R149, R151). -/
def State.writerEntryLeaves (s : State) : State := s.setPostQueue (s.writer.postQueue.eraseIdx (failedWrites s))

/-- The Completion Writer requests the M-port while the post queue holds an entry to write and the part is not HALTED; it has at most
one write in progress, which is the access in service (R150). The entry behind one whose write has failed is requested in its turn
(R150, R172). -/
def completionWriteWaiting (s : State) : Bool := (writerEntry s).isSome && decide (s.control.part ≠ .halted)

/-- A fetch of a ring is in progress from its request to its completion (R62), unless a ring RESET has abandoned it (R71). -/
def fetchInProgress (s : State) (r : RingId) : Bool :=
  (s.mport.fetchWaiting.get r).isSome ||
    match s.mport.inService with
    | some ⟨.fetch r' _, .live⟩ => decide (r' = r)
    | _ => false

/-- A read of a ring is in service, abandoned by a ring RESET: no new fetch is requested until it has ended (R71). -/
def discardedRead (s : State) (r : RingId) : Bool :=
  match s.mport.inService with
  | some ⟨.fetch r' _, .discarded⟩ => decide (r' = r)
  | _ => false

/-! ## Flushes (R74, R75) -/

/-- The wait reason of a FLUSHING ring: COMPLETION while the disposal of its head waits for a reservation (R67, R74; log entry 13). -/
def flushWait (s : State) (r : RingId) : WaitReason :=
  let g := s.ring r
  if !g.queue.isEmpty && !g.disposalReserved && !cqHasRoom (s.cq g.dir.cq) then .completion else .none

/-- The wait reason of a FLUSHING ring is set anew. -/
def State.refreshFlush (s : State) (r : RingId) : State :=
  if (s.ring r).phase = .flushing then s.setRing r { s.ring r with wait := flushWait s r } else s

/-- Every end condition of a flush (R75). -/
def flushDone (s : State) (r : RingId) : Bool :=
  let g := s.ring r
  g.queue.isEmpty && decide (g.fetch = g.flushTarget) && !fetchInProgress s r && decide (g.inFlight = 0)

/-- The end of a flush: STOPPED, fault cause NONE, reported (R75). -/
def State.endFlush (s : State) (r : RingId) : State :=
  (s.setRing r { (s.ring r).enter .stopped with cause := .none }).reportRing r

/-- A FLUSHED disposal that waits is withdrawn: a reservation it had taken is given back, which leads to an examination (R76). -/
def State.withdrawDisposal (s : State) (r : RingId) : State :=
  let g := s.ring r
  if g.disposalReserved then
    ((s.setRing r { g with disposalReserved := false }).release g.dir.cq).examineDue
  else s

/-- The part enters QUIESCED from QUIESCING or ABORTING when no channel is busy and no switch is pending, and EVENT is set (R169,
R171). -/
def State.drainPart (s : State) : State :=
  if (s.control.part = .quiescing ∨ s.control.part = .aborting) ∧ channelsIdle s = true ∧ s.map.pendingSwitch = none then
    (s.setPart .quiesced).setEvent
  else s

/-! ## The two resets (R175, R176) -/

/-- A bank after a reset: a write beat in service completes or does not (R115, R137); which is a free value (log entry 8). -/
def bankAfterReset (s : State) (b : BankId) : BankMemory :=
  match (s.arbiter (.bank b)).inService with
  | some beat =>
    if beat.isWrite && Config.resetWriteLands s.freeIndex b && decide (beat.offset < Config.bankCapacity b) then
      bankSet (s.banks.get b) beat.offset ⟨beat.value, true⟩
    else s.banks.get b
  | none => s.banks.get b

/-- Mailbox memory after a reset: each word of a completion write in service holds its old or its new value, w0 its new value only
if w1 to w3 do (R162); which is a free value (log entry 9). -/
def mailboxAfterReset (s : State) : MailboxMemory :=
  match s.mport.inService, writerEntry s with
  | some ⟨.completionWrite, .live⟩, some e =>
    let q := s.cq e.cq
    let at_ := cqSlotAddr q
    let w := e.words q.phase
    let lands := Config.abandonedWordLands s.freeIndex
    let put := fun (m : MailboxMemory) (i : Fin 4) (yes : Bool) =>
      if yes then mailboxSetWord m (at_ + BitVec.ofNat 16 (4 * i.val)) w[i] else m
    put (put (put (put s.mailbox 1 (lands 1)) 2 (lands 2)) 3 (lands 3)) 0 (lands 1 && lands 2 && lands 3 && lands 0)
  | _, _ => s.mailbox

/-- The M-port after a reset: no access waits, an access in service is abandoned and runs to its end (R64, R173), errors not yet
taken are dropped (R173). -/
def mportAfterReset (s : State) : MPort :=
  { MPort.reset with inService := s.mport.inService.map fun a => { a with fate := .abandoned } }

/-- What both resets do, given the Control Unit and the Map Unit they leave (R79, R80, R115, R137, R162, R175). -/
def State.resetBlocks (s : State) (control : ControlUnit) (map : MapUnit) : State where
  control := control
  ringManager := RingManager.reset
  issue := IssueArbiter.reset
  map := map
  channels := PerChannel.all .idle
  ports := Ports.reset
  banks :=
    ⟨bankAfterReset s .d0, bankAfterReset s .d1, bankAfterReset s .d2, bankAfterReset s .d3, bankAfterReset s .p0,
     bankAfterReset s .p1⟩
  writer := CompletionWriter.reset
  coalescer := Coalescer.reset
  mport := mportAfterReset s
  mailbox := mailboxAfterReset s
  freeIndex := s.freeIndex + 1
  pending := s.pending

/-- The Map Unit after a soft reset (R39). -/
def mapAfterSoftReset (m : MapUnit) : MapUnit :=
  { current := m.current, staged := m.current, generation := m.generation, bound := 0, retiring := none, pendingSwitch := none }

/-- The Control Unit after a soft reset, with the mask bits of the RESET write applied (R163, R164). -/
def controlAfterSoftReset (c : ControlUnit) (mask : Sources) : ControlUnit :=
  { ControlUnit.reset with setupAddr := c.setupAddr, mask := mask }

end Sys2Proof.Machine
end

