-- ==== Sys2Proof/Machine/Validation.lean ====
section
/-! DEFINITION. Validation of a ring head (R43 to R46, R91 to R95) and of a MAPSET (R28): what the taking of a record will do. -/

namespace Sys2Proof.Machine

/-- What validation finds: a refusal with its status and detail, or what carrying the record out means. -/
inductive Plan where
  /-- A refusal (R96). -/
  | refuse (status : Status) (detail : Detail)
  /-- FENCE, MARK or a transfer kind with count 0: completed OK at the taking (R46, R87, R88). -/
  | complete
  /-- A MAPSET that writes the staged entry at an index (R29). -/
  | mapset (index : BitVec 4) (entry : WindowEntry)
  | maprevert
  | mapswitch
  /-- A valid transfer with count above 0, with its extents resolved and its direction (R95, R99). -/
  | transfer (kind : Kind) (a b c : Option Extent) (direction : Direction)
  deriving DecidableEq, Repr

/-- The resolved extents of a record, each with the WP of its window. -/
structure ResolvedExtents where
  a : Option (Extent × Bool)
  b : Option (Extent × Bool)
  c : Option (Extent × Bool)
  deriving DecidableEq, Repr

def resolvedOf (x : ResolvedExtents) : ExtentName → Option (Extent × Bool)
  | .a => x.a
  | .b => x.b
  | .c => x.c

/-- The extent a name stands for, without the WP of its window. -/
def extentOf (x : ResolvedExtents) (n : ExtentName) : Option Extent := (resolvedOf x n).map (·.1)

/-- The width an extent resolved to. -/
def widthOf (x : ResolvedExtents) (n : ExtentName) : Option Width := (extentOf x n).map (·.width)

/-- Check 4 for one extent (R11, R12): an extent the kind does not name is not resolved. -/
def resolveOne (table : WindowTable) (profiles : PerDevice (Option Profile)) (k : Kind) (r : Record) (n : ExtentName) :
    Except (Status × Detail) (Option (Extent × Bool)) :=
  match extentLength k r.count.toNat n with
  | none => .ok none
  | some len =>
    match resolve table profiles (recordAddress r n) len with
    | .found e wp => .ok (some (e, wp))
    | .miss => .error (.mapMiss, .address (recordAddress r n))
    | .split => .error (.rangeSplit, .address (recordAddress r n))

/-- Check 4: the extents resolve in the order A, B, C, and the first failure decides (R12). -/
def resolveAll (table : WindowTable) (profiles : PerDevice (Option Profile)) (k : Kind) (r : Record) :
    Except (Status × Detail) ResolvedExtents :=
  match resolveOne table profiles k r .a with
  | .error e => .error e
  | .ok a =>
    match resolveOne table profiles k r .b with
    | .error e => .error e
    | .ok b =>
      match resolveOne table profiles k r .c with
      | .error e => .error e
      | .ok c => .ok ⟨a, b, c⟩

/-- The widths a kind requires of its extents (R92). -/
def widthRequired (k : Kind) (n : ExtentName) : Option Width :=
  match k, n with
  | .pack, .a => some .w24
  | .pack, .b => some .w16
  | .unpack, .a => some .w16
  | .unpack, .b => some .w24
  | .split, .a => some .w24
  | .split, .b => some .w16
  | .split, .c => some .w16
  | .join, .a => some .w16
  | .join, .b => some .w24
  | .join, .c => some .w16
  | _, _ => none

def allExtents : List ExtentName := [.a, .b, .c]

/-- The extents a kind writes, in the order B, C (R93, R94). -/
def writtenExtents (k : Kind) : List ExtentName := allExtents.filter (extentWritten k)

/-- Check 5: the extent whose width does not meet the kind's requirement, in the order A, B, C (R92). -/
def widthFailure (k : Kind) (x : ResolvedExtents) : Option ExtentName :=
  if k = .compare then (if widthOf x .a = widthOf x .b then none else some .b)
  else allExtents.find? fun n => (widthRequired k n).isSome && decide (widthOf x n ≠ widthRequired k n)

/-- Check 7: the first written extent that lies in a window with WP (R16). -/
def protectFailure (k : Kind) (x : ResolvedExtents) : Option ExtentName :=
  (writtenExtents k).find? fun n => match resolvedOf x n with
    | some (_, wp) => wp
    | none => false

/-- An extent on an X target whose profile is not writable (R93). -/
def onReadOnlyDevice (profiles : PerDevice (Option Profile)) (e : Extent) : Bool :=
  match e.phys.target with
  | .bank _ => false
  | .device d => match profiles.get d with
    | some p => !p.writable
    | none => false

/-- Check 8: the first written extent on a device that is not writable (R93). -/
def readOnlyFailure (profiles : PerDevice (Option Profile)) (k : Kind) (x : ResolvedExtents) : Option ExtentName :=
  (writtenExtents k).find? fun n => match extentOf x n with
    | some e => onReadOnlyDevice profiles e
    | none => false

/-- Two extents of one record overlap (R14, R94). -/
def extentsOverlap (x : ResolvedExtents) (m n : ExtentName) : Bool :=
  match extentOf x m, extentOf x n with
  | some e, some f => physOverlap e.phys f.phys
  | _, _ => false

/-- Check 9: the first written extent that overlaps another extent of the record, a COPY apart (R94). -/
def overlapFailure (k : Kind) (x : ResolvedExtents) : Option ExtentName :=
  if k = .copy then none
  else (writtenExtents k).find? fun m => allExtents.any fun n => decide (n ≠ m) && extentsOverlap x m n

/-- DESCENDING for a COPY whose B overlaps its A with B's first word above A's; ASCENDING in every other case (R95). -/
def directionOf (k : Kind) (x : ResolvedExtents) : Direction :=
  match extentOf x .a, extentOf x .b with
  | some a, some b =>
    if k = .copy ∧ physOverlap a.phys b.phys = true ∧ a.phys.first < b.phys.first then .descending else .ascending
  | _, _ => .ascending

/-- A refusal whose detail is the logical start of an extent (R91). -/
def refuseAt (r : Record) (status : Status) (n : ExtentName) : Plan := .refuse status (.address (recordAddress r n))

/-- Checks 4 to 9 of a transfer with count above 0 (R91). -/
def validateTransfer (table : WindowTable) (profiles : PerDevice (Option Profile)) (k : Kind) (r : Record) : Plan :=
  match resolveAll table profiles k r with
  | .error (st, d) => .refuse st d
  | .ok x =>
    match widthFailure k x with
    | some n => refuseAt r .widthMismatch n
    | none =>
      if !flagsFit k r.strict r.highonly (widthOf x .a) (widthOf x .b) then .refuse .badFlags .none
      else
        match protectFailure k x with
        | some n => refuseAt r .writeProtect n
        | none =>
          match readOnlyFailure profiles k x with
          | some n => refuseAt r .deviceReadonly n
          | none =>
            match overlapFailure k x with
            | some n => refuseAt r .overlap n
            | none => .transfer k (extentOf x .a) (extentOf x .b) (extentOf x .c) (directionOf k x)

/-- The entry of a table at a window index. -/
def entryAt (t : WindowTable) (i : BitVec 4) : WindowEntry := t[i.toNat]'i.isLt

/-- The table with the entry at a window index replaced. -/
def setEntry (t : WindowTable) (i : BitVec 4) (e : WindowEntry) : WindowTable := t.set i.toNat e i.isLt

/-- The sixteen window indices. -/
def windowIndices : List (BitVec 4) := (List.range 16).map (BitVec.ofNat 4)

/-- The staged entry a MAPSET record names, when its target code is valid (R29, R49). -/
def mapsetEntry (r : Record) : Option WindowEntry :=
  (Target.ofCode r.targetCode).map fun t => ⟨r.enabled, r.a, r.sizeCode, t, r.b, r.wp, r.lock⟩

/-- An entry overlaps an enabled entry of the table at another index (R9, R28). -/
def overlapsOther (t : WindowTable) (i : BitVec 4) (e : WindowEntry) : Bool :=
  windowIndices.any fun j => decide (j ≠ i) && windowsOverlap e (entryAt t j)

/-- Checks 2 to 4 of a MAPSET (R28): descriptor validity, lock in the current table, overlap in the staged one. -/
def validateMapset (m : MapUnit) (profiles : PerDevice (Option Profile)) (r : Record) : Plan :=
  match mapsetEntry r with
  | none => refuseAt r .windowInvalid .a
  | some e =>
    if !windowValid profiles e then refuseAt r .windowInvalid .a
    else if (entryAt m.current r.index).lock then refuseAt r .windowLocked .a
    else if overlapsOther m.staged r.index e then refuseAt r .windowOverlap .a
    else .mapset r.index e

/-- Validation of a record against the current table, the staged table and the profiles (R91, R28). -/
def validate (m : MapUnit) (profiles : PerDevice (Option Profile)) (r : Record) : Plan :=
  match Kind.ofCode r.kind with
  | none => .refuse .badKind .none
  | some k =>
    if !flagBitsAllowed k r.flags then
      .refuse .badFlags (if k = .mapset then .address r.a else .none)
    else
      match k with
      | .fence | .mark => .complete
      | .mapset => validateMapset m profiles r
      | .maprevert => .maprevert
      | .mapswitch => .mapswitch
      | .copy | .fill | .compare | .pack | .unpack | .split | .join =>
        if !countAllowed k r.count.toNat then .refuse .badCount .none
        else if r.count = 0 then .complete
        else validateTransfer m.current profiles k r

end Sys2Proof.Machine
end

