-- ==== Sys2Proof/Machine/Steps.lean ====
section
/-! DEFINITION. How a channel carries a transfer out (chapter 6): the beats of each step, what happens when they have ended, and the
ways a transfer ends. -/

namespace Sys2Proof.Machine

/-! ## The beats of a step (R104) -/

def contextExtent (x : Context) : ExtentName → Option Extent
  | .a => x.extA
  | .b => x.extB
  | .c => x.extC

/-- A beat of the context at word `pos` of an extent; none for an extent the transfer does not have (R133). -/
def contextBeat (c : ChannelId) (x : Context) (isWrite : Bool) (n : ExtentName) (pos : Nat) (v : W24) : Option Beat :=
  (contextExtent x n).map fun e =>
    { channel := c, isWrite := isWrite, ext := n, pos := pos, target := e.phys.target, offset := e.phys.first + pos,
      width := e.width, value := v, counted := false }

/-- The words a step reads, in extent and word order (R104). `i` is the element index, or the pair index for PACK and UNPACK. -/
def stepReads (k : Kind) (i : Nat) : List (ExtentName × Nat) :=
  match k with
  | .copy => [(.a, i)]
  | .fill => []
  | .compare => [(.a, i), (.b, i)]
  | .pack => [(.a, 2 * i), (.a, 2 * i + 1)]
  | .unpack => [(.a, 3 * i), (.a, 3 * i + 1), (.a, 3 * i + 2)]
  | .split => [(.a, i)]
  | .join => if i % 2 = 0 then [(.a, i), (.c, i / 2)] else [(.a, i)]
  | .fence | .mark | .mapset | .maprevert | .mapswitch => []

/-- The value a step read at a word. -/
def readValue (results : List BeatResult) (n : ExtentName) (pos : Nat) : W24 :=
  match results.find? fun r => decide (r.ext = n) && decide (r.pos = pos) with
  | some ⟨_, _, .value v⟩ => v
  | _ => 0

/-- The width an extent of the context has. -/
def contextWidth (x : Context) (n : ExtentName) : Width :=
  match contextExtent x n with
  | some e => e.width
  | none => .w24

/-- The words a step writes, with their values, in extent and word order (R104, R119 to R130). -/
def stepWrites (x : Context) (results : List BeatResult) : List (ExtentName × Nat × W24) :=
  let i := x.nextStep
  let rd := readValue results
  match x.kind with
  | .copy => [(.b, i, copyValue (contextWidth x .a) (contextWidth x .b) x.pad (rd .a i))]
  | .fill => [(.b, i, fillValue (contextWidth x .b) x.pattern)]
  | .compare => []
  | .pack =>
    let p := packPair (rd .a (2 * i)) (rd .a (2 * i + 1))
    [(.b, 3 * i, ofW16 p.1), (.b, 3 * i + 1, ofW16 p.2.1), (.b, 3 * i + 2, ofW16 p.2.2)]
  | .unpack =>
    let p := unpackTriple (toW16 (rd .a (3 * i))) (toW16 (rd .a (3 * i + 1))) (toW16 (rd .a (3 * i + 2)))
    [(.b, 2 * i, p.1), (.b, 2 * i + 1, p.2)]
  | .split =>
    let v := rd .a i
    let main := (ExtentName.b, i, ofW16 (upper16 v))
    if i % 2 = 1 then [main, (.c, i / 2, ofW16 (completeResidue (x.residue.getD 0) (lowByte v)))]
    else if i + 1 = x.count then [main, (.c, i / 2, ofW16 (completeResidue (halfResidue v) x.pad))]
    else [main]
  | .join =>
    let residue := if i % 2 = 0 then toW16 (rd .c (i / 2)) else x.residue.getD 0
    [(.b, i, joinValue i (toW16 (rd .a i)) residue)]
  | .fence | .mark | .mapset | .maprevert | .mapswitch => []

/-- The residue word the context holds after a finished step (R104): SPLIT keeps a half-filled word after an even step, JOIN the word
read; the odd step clears it, and so does the last step of a SPLIT, which has written it. -/
def residueAfter (x : Context) (results : List BeatResult) : Option W16 :=
  let i := x.nextStep
  match x.kind with
  | .split => if i % 2 = 0 ∧ i + 1 ≠ x.count then some (halfResidue (readValue results .a i)) else none
  | .join => if i % 2 = 0 then some (toW16 (readValue results .c (i / 2))) else none
  | _ => none

/-! ## Requesting the beats of a phase (R105) -/

/-- The first beat of each extent in a list in extent order: these are requested together. -/
def firstBeats : List ExtentName → List Beat → List Beat
  | _, [] => []
  | seen, b :: rest => if b.ext ∈ seen then firstBeats seen rest else b :: firstBeats (b.ext :: seen) rest

/-- The beats that follow the first of their extent: requested one after another. -/
def laterBeats : List ExtentName → List Beat → List Beat
  | _, [] => []
  | seen, b :: rest => if b.ext ∈ seen then b :: laterBeats seen rest else laterBeats (b.ext :: seen) rest

/-- The channel begins a phase of its step: it requests the first beat of each extent (R105). The results of the step's reads are
kept beside those of its writes. -/
def State.beginPhase (s : State) (c : ChannelId) (x : Context) (phase : StepPhase) (results : List BeatResult)
    (beats : List Beat) : State :=
  let now := firstBeats [] beats
  let run : StepRun := { phase := phase, later := laterBeats [] beats, outstanding := now.length, results := results }
  (s.setChannel c (.running { x with step := some run })).requestBeats now

/-- The read beats of the step the context stands at. -/
def readBeats (c : ChannelId) (x : Context) : List Beat :=
  (stepReads x.kind x.nextStep).filterMap fun p => contextBeat c x false p.1 p.2 0

/-- The write beats of the step the context stands at, from the results of its reads. -/
def writeBeats (c : ChannelId) (x : Context) (results : List BeatResult) : List Beat :=
  (stepWrites x results).filterMap fun p => contextBeat c x true p.1 p.2.1 p.2.2

/-- The next step begins: its reads are requested, or its writes when it has no reads (R105). -/
def State.beginStep (s : State) (c : ChannelId) (x : Context) : State :=
  match readBeats c x with
  | [] => s.beginPhase c x .writes [] (writeBeats c x [])
  | bs => s.beginPhase c x .reads [] bs

/-! ## The ways a transfer ends (R107 to R112) -/

/-- A SPLIT that ends early with a half-filled residue word makes one more write beat (R111). -/
def needsEarlyEnd (x : Context) : Bool :=
  decide (x.kind = .split) && decide (x.elementsDone % 2 = 1) && x.residue.isSome

/-- The early-end write: the half-filled word with the pad byte as its lower byte (R111). -/
def earlyEndBeats (c : ChannelId) (x : Context) : List Beat :=
  (contextBeat c x true .c (x.elementsDone / 2) (ofW16 (completeResidue (x.residue.getD 0) x.pad))).toList

/-- The transfer ends with a status and a detail. In HALTED the ending is recorded and the channel stays RUNNING (R114,
log entry 30); else a
SPLIT first makes its early-end write, and the channel enters ENDING (R111, R103). -/
def State.endTransfer (s : State) (c : ChannelId) (x : Context) (status : Status) (detail : Detail) : State :=
  let x := { x with ending := some ⟨status, detail⟩, step := none }
  if s.control.part = .halted then s.setChannel c (.running x)
  else if needsEarlyEnd x then s.beginPhase c x .earlyEnd [] (earlyEndBeats c x)
  else s.setChannel c (.ending x)

/-- A step boundary (R106): HALTED, then the last step, then the pending abort flag, then the next step. -/
def State.stepBoundary (s : State) (c : ChannelId) (x : Context) : State :=
  if s.control.part = .halted then s.setChannel c (.running { x with step := none })
  else if x.count ≤ x.elementsDone then s.endTransfer c x .ok .none
  else if x.pendingAbort then s.endTransfer c x .aborted .none
  else s.beginStep c x

/-- The step after a step in the direction of the run (R106). -/
def stepAfter (x : Context) : Nat :=
  match x.direction with
  | .ascending => x.nextStep + 1
  | .descending => x.nextStep - 1

/-- A step finishes: elements_done rises, the residue word is kept or cleared, and the channel stands at a step boundary (R106). -/
def State.finishStep (s : State) (c : ChannelId) (x : Context) (residue : Option W16) : State :=
  s.stepBoundary c
    { x with elementsDone := x.elementsDone + stepElements x.kind, nextStep := stepAfter x, residue := residue, step := none }

def BeatOutcome.failed : BeatOutcome → Bool
  | .value _ | .stored => false
  | .parityError | .timedOut => true

/-- The first beat of a step that failed, in the order A, B, C and within one extent in word order (R105, R110). Within one extent
the results stand in word order, since its beats are made one after another. -/
def firstFailure (results : List BeatResult) : Option BeatResult :=
  (allExtents.flatMap fun n => results.filter fun r => decide (r.ext = n)).find? fun r => r.outcome.failed

/-- The status a failed beat gives (R110). -/
def failureStatus : BeatOutcome → Status
  | .parityError => .dataError
  | _ => .deviceTimeout

/-- The logical address of word `pos` of an extent (R110). -/
def wordAddress (x : Context) (n : ExtentName) (pos : Nat) : LogicalAddr :=
  match contextExtent x n with
  | some e => e.start + BitVec.ofNat 24 pos
  | none => 0

/-- The transfer ends in the step that a beat failed (R110). -/
def State.failStep (s : State) (c : ChannelId) (x : Context) (f : BeatResult) : State :=
  s.endTransfer c x (failureStatus f.outcome) (.address (wordAddress x f.ext f.pos))

/-- The write of an extent failed. -/
def writeFailed (results : List BeatResult) (n : ExtentName) : Bool :=
  results.any fun r => decide (r.ext = n) && r.outcome.failed

/-- What a failed write leaves of a SPLIT's residue (R111): in an odd step whose residue write timed out, the element before is not
counted either; the residue word has been tried, so no early-end write follows. -/
def contextAfterFailedWrite (x : Context) (results : List BeatResult) : Context :=
  if x.kind = .split then
    if x.nextStep % 2 = 1 ∧ writeFailed results .c = true then { x with elementsDone := x.elementsDone - 1, residue := none }
    else { x with residue := none }
  else x

/-- Every read of the step has ended (R105): a failed read ends the transfer; a COMPARE compares (R108); a strict COPY tests the low
byte (R109); otherwise the writes are requested. -/
def State.readsEnded (s : State) (c : ChannelId) (x : Context) (results : List BeatResult) : State :=
  let i := x.nextStep
  match firstFailure results with
  | some f => s.failStep c x f
  | none =>
    match x.kind with
    | .compare =>
      if compareEqual x.highonly (readValue results .a i) (readValue results .b i) then s.finishStep c x none
      else s.endTransfer c { x with elementsDone := i + 1 } .different (.index (BitVec.ofNat 16 i))
    | .copy =>
      if x.strict && decide (lowByte (readValue results .a i) ≠ 0) then
        s.endTransfer c x .loss (.address (wordAddress x .a i))
      else s.beginPhase c x .writes results (writeBeats c x results)
    | .fill | .pack | .unpack | .split | .join | .fence | .mark | .mapset | .maprevert | .mapswitch =>
      s.beginPhase c x .writes results (writeBeats c x results)

/-- Every write of the step has ended (R105): a timed-out write ends the transfer (R110, and R111 outside HALTED: R129, log entry 30); else
the step finishes. -/
def State.writesEnded (s : State) (c : ChannelId) (x : Context) (results : List BeatResult) : State :=
  match firstFailure results with
  | some f => s.failStep c (if s.control.part = .halted then x else contextAfterFailedWrite x results) f
  | none => s.finishStep c x (residueAfter x results)

/-- The early-end write has ended (R111): when it timed out, elements_done is lowered by one. The channel enters ENDING, or in HALTED
stays RUNNING with its ending recorded (R114; log entry 28). -/
def State.earlyEnded (s : State) (c : ChannelId) (x : Context) (results : List BeatResult) : State :=
  let x := if writeFailed results .c then { x with elementsDone := x.elementsDone - 1 } else x
  let x := { x with residue := none, step := none }
  s.setChannel c (if s.control.part = .halted then .running x else .ending x)

/-- Every beat of the phase in progress has ended. -/
def State.phaseEnded (s : State) (c : ChannelId) (x : Context) (run : StepRun) : State :=
  match run.phase with
  | .reads => s.readsEnded c x run.results
  | .writes => s.writesEnded c x run.results
  | .earlyEnd => s.earlyEnded c x run.results

/-- The result of a beat returns to the channel that made it (R133): the next beat of the same extent is requested, or, when no
beat is left, the phase ends (R105). A result that no step waits for is lost; no run has one (DESIGN CHOICE; log entry 32). -/
def State.beatReturns (s : State) (b : Beat) (o : BeatOutcome) : State :=
  match s.channel b.channel with
  | .running x =>
    match x.step with
    | some run =>
      let results := run.results ++ [⟨b.ext, b.pos, o⟩]
      match run.later.find? fun n => decide (n.ext = b.ext) with
      | some n =>
        (s.setChannel b.channel
          (.running { x with step := some { run with later := run.later.erase n, results := results } })).requestBeat n
      | none =>
        if run.outstanding ≤ 1 then s.phaseEnded b.channel x { run with outstanding := 0, results := results }
        else
          s.setChannel b.channel
            (.running { x with step := some { run with outstanding := run.outstanding - 1, results := results } })
    | none => s
  | .idle | .ending _ => s

end Sys2Proof.Machine
end

