-- ==== Sys2Proof/Machine/Beats.lean ====
section
/-! DEFINITION. The beats at the ports (chapter 8): BEAT_GRANT, BEAT_END, READY, READY_TIMEOUT. -/

namespace Sys2Proof.Machine

/-- The channel whose beat is granted (R134): with both waiting, the one not last granted; with one, that one. -/
def grantedChannel (a : Arbiter) : Option ChannelId :=
  match a.waitC0, a.waitC1 with
  | [], [] => none
  | _ :: _, [] => some .c0
  | [], _ :: _ => some .c1
  | _ :: _, _ :: _ => match a.lastGranted with
    | .c0 => some .c1
    | .c1 => some .c0

/-- How many of a list of waiting beats have not counted their conflict beat (R135). -/
def uncounted (bs : List Beat) : Nat := (bs.filter fun b => !b.counted).length

def countAll (bs : List Beat) : List Beat := bs.map fun b => { b with counted := true }

/-- `n` conflict beats are counted to a channel. -/
def State.countConflicts (s : State) (c : ChannelId) : Nat → State
  | 0 => s
  | n + 1 => (s.countConflict c).countConflicts c n

/-- The grant (R134): the first waiting beat of the granted channel goes into service. Every beat that reached the free arbiter with
it and still waits counts one conflict beat (R135; log entry 17). The X-port starts the beat's ready timeout (R142). -/
def State.grantBeat (s : State) (i : ArbiterId) : State :=
  let a := s.arbiter i
  match grantedChannel a with
  | none => s
  | some c =>
    let rest := setWaiting a c (waitingOf a c).tail
    let a' : Arbiter :=
      { inService := (waitingOf a c).head?
        waitC0 := countAll rest.waitC0
        waitC1 := countAll rest.waitC1
        lastGranted := c }
    let s := ((s.setArbiter i a').countConflicts .c0 (uncounted rest.waitC0)).countConflicts .c1 (uncounted rest.waitC1)
    if i = .xPort then { s with ports := { s.ports with measuring := true } } else s

/-- BEAT_GRANT (R134): a free arbiter grants a waiting beat; with none waiting it stays free. What agents outside the part wrote to
the arbiter's bank before the grant is in the bank (R136, log entry 6); a write to a word that does not exist is a fault of the model
(R2). While a beat is in service nothing is granted (log entry 2). -/
def execBeatGrant (i : ArbiterId) (outside : List OutsideWrite) (s : State) : Host.Outcome State Fault Refusal :=
  match (s.arbiter i).inService with
  | some _ => .next s
  | none =>
    match i with
    | .xPort => .next (s.grantBeat .xPort)
    | .bank b =>
      match outsideWrites b (s.banks.get b) outside with
      | none => .fault .noSuchWord
      | some m => .next ((s.setBank b m).grantBeat (.bank b))

/-- The beat in service ends: its arbiter is free (R133). -/
def State.freeArbiter (s : State) (i : ArbiterId) : State := s.setArbiter i { s.arbiter i with inService := none }

/-- BEAT_END (R133, R138): the beat in service at a bank ends. A write stores the value with its parity; a read returns the value or a
parity error. With no beat in service nothing ends (log entry 2). -/
def execBeatEnd (b : BankId) (s : State) : Host.Outcome State Fault Refusal :=
  match (s.arbiter (.bank b)).inService with
  | none => .next s
  | some beat =>
    if beat.offset < Config.bankCapacity b then
      let t := s.freeArbiter (.bank b)
      .next
        (if beat.isWrite then
           (t.setBank b (bankSet (s.banks.get b) beat.offset ⟨beat.value, true⟩)).beatReturns beat .stored
         else t.beatReturns beat (bankRead b (s.banks.get b) beat.offset))
    else .fault .noSuchWord

/-- The X-port beat in service ends: the port is free and the measure of its ready timeout stops (R141, R142). -/
def State.freeXPort (s : State) : State :=
  let s := s.freeArbiter .xPort
  { s with ports := { s.ports with measuring := false } }

/-- READY (R141): the answer to the X-port beat in service when that beat names the device, and otherwise ignored. A read takes the
value the device presents, in the width of the profile (log entry 29). -/
def execReady (d : DeviceId) (value : W24) (s : State) : Host.Outcome State Fault Refusal :=
  match (s.arbiter .xPort).inService with
  | none => .next s
  | some beat =>
    .next
      (if beat.target = .device d then
         s.freeXPort.beatReturns beat (if beat.isWrite then .stored else .value (fitWidth beat.width value))
       else s)

/-- READY_TIMEOUT (R142): the ready timeout of the X-port beat in service expires. The beat fails; a write is withdrawn. With no beat in
service no measure runs (log entries 2 and 11). -/
def execReadyTimeout (s : State) : Host.Outcome State Fault Refusal :=
  match (s.arbiter .xPort).inService with
  | none => .next s
  | some beat => .next (s.freeXPort.beatReturns beat .timedOut)

end Sys2Proof.Machine
end

