-- ==== Sys2Proof/Machine/Completion.lean ====
section
/-! DEFINITION. How entries reach the post queue from the channels and the flushes, and the holdoff timers: HAND_OFF (R116, R117),
FLUSH_DISPOSAL (R74), HOLDOFF_EXPIRY (R157). -/

namespace Sys2Proof.Machine

/-- The hand-off would be the last release of the retiring generation (R27, R116). -/
def lastRelease (m : MapUnit) (x : Context) : Bool :=
  match m.retiring with
  | some rt => decide (x.generation = rt.generation) && decide (rt.bound = 1)
  | none => false

/-- The completion entry a channel hands off (R116). -/
def channelCompletion (s : State) (x : Context) (e : Ending) : Completion where
  tag := x.tag
  status := e.status
  ring := x.ring
  slot := x.slot
  elementsDone := x.elementsDone
  generation := x.generation
  detail := e.detail
  direction := x.direction
  conflictBeats := x.conflictBeats
  cq := (s.ring x.ring).dir.cq
  transferKey := some x.key

/-- The release of a transfer (R27): the bound count of its generation falls; a retiring generation with none left drains (R34). -/
def mapAfterRelease (m : MapUnit) (generation : BitVec 8) : MapUnit :=
  if generation = m.generation then { m with bound := m.bound - 1 }
  else
    match m.retiring with
    | some rt =>
      if generation = rt.generation then
        (if rt.bound ≤ 1 then { m with retiring := none, pendingSwitch := none }
         else { m with retiring := some { rt with bound := rt.bound - 1 } })
      else m
    | none => m

/-- The pending switch's entry goes directly behind the transfer's: OK, with the generation the switch installed, which is G (R34). -/
def State.drainSwitch (s : State) (sw : Option PendingSwitch) : State :=
  match sw with
  | some w => s.handEntry (plainCompletion s w.ring w.slot w.tag .ok .none)
  | none => s

/-- The hand-off, one step in the order of R117. The channel's return to IDLE leads to an examination (R81), and may complete the
drain of the part (R169). -/
def State.handOff (s : State) (c : ChannelId) (x : Context) (e : Ending) : State :=
  let last := lastRelease s.map x
  let sw := if last then s.map.pendingSwitch else none
  let t := s.handEntry (channelCompletion s x e)
  let t := (t.setMap (mapAfterRelease s.map x.generation)).drainSwitch sw
  ((t.setChannel c .idle).examineDue).drainPart

/-- HAND_OFF (R116): a channel in ENDING hands its entry off when the post queue has room for it, two entries for the last release of a
retiring generation. In HALTED no hand-off takes place (R114). Where it cannot, the channel stays as it is (log entry 2). -/
def execHandOff (c : ChannelId) (s : State) : Host.Outcome State Fault Refusal :=
  match s.channel c with
  | .ending x =>
    match x.ending with
    | some e =>
      .next
        (if s.control.part ≠ .halted ∧ postRoom s (if lastRelease s.map x then 2 else 1) = true then s.handOff c x e else s)
    | none => .next s
  | .idle | .running _ => .next s

/-- A disposal takes its reservation, if it does not hold it (R74). -/
def State.reserveDisposal (s : State) (r : RingId) : State :=
  let g := s.ring r
  if g.disposalReserved then s else (s.setRing r { g with disposalReserved := true }).reserve g.dir.cq

/-- The head of a FLUSHING ring leaves with a FLUSHED entry (R74). -/
def State.disposeHead (s : State) (r : RingId) (p : Prefetched) : State :=
  let g := s.ring r
  let t := s.setRing r { g with queue := g.queue.tail, inFlight := g.inFlight + 1, disposalReserved := false }
  t.handEntry (plainCompletion t r p.slot p.record.tag .flushed .none)

/-- FLUSH_DISPOSAL (R74): the disposal of a FLUSHING ring's head is tried. It takes a reservation when the completion ring has room, and
disposes of the head when the post queue has a free entry too; otherwise it waits (log entry 13). Not in HALTED (R76). -/
def execFlushDisposal (r : RingId) (s : State) : Host.Outcome State Fault Refusal :=
  let g := s.ring r
  .next
    (match g.queue with
     | [] => s
     | p :: _ =>
       if s.control.part = .halted ∨ g.phase ≠ .flushing then s
       else if g.disposalReserved || cqHasRoom (s.cq g.dir.cq) then
         let t := s.reserveDisposal r
         (if postRoom t 1 then t.disposeHead r p else t).refreshFlush r
       else s.refreshFlush r)

/-- HOLDOFF_EXPIRY (R157): the running holdoff timer of a completion ring expires: its source is set, the count becomes 0 and the timer
stops. A timer that does not run does not expire (log entry 2); in HALTED it is stopped. -/
def execHoldoffExpiry (c : CqId) (s : State) : Host.Outcome State Fault Refusal :=
  .next
    (if (s.coalescer.cqs.get c).timer then
       { s with
         coalescer := { cqs := s.coalescer.cqs.set c ⟨0, false⟩, intstat := setCqSource s.coalescer.intstat c } }
     else s)

end Sys2Proof.Machine
end

