-- ==== Sys2Proof/Machine/Issue.lean ====
section
/-! DEFINITION. EXAMINATION: eligibility and wait reasons (R81 to R84), the choice among heads (R82), and the taking (R96, R99,
R100). -/

namespace Sys2Proof.Machine

/-- What an examination finds for a ring (R83). -/
inductive Verdict where
  /-- No head to examine: the ring is not ACTIVE or its queue is empty. -/
  | noHead
  /-- The head is held back, with the reason the ring reads; NONE for a full post queue. -/
  | wait (w : WaitReason)
  | eligible (p : Prefetched) (plan : Plan)
  deriving DecidableEq, Repr

/-- Step 3 applies to every head of an ordered ring, and to a FENCE whose flags field is zero in any ring (R83, R86, R87). -/
def needsOrder (g : Ring) (p : Prefetched) : Bool :=
  g.dir.ordered || (decide (p.record.kind = Kind.fence.code) && decide (p.record.flags = 0))

/-- The physical extents a transfer writes, or those it reads (R48). -/
def planExtents (k : Kind) (a b c : Option Extent) (written : Bool) : List PhysExtent :=
  ([(ExtentName.a, a), (.b, b), (.c, c)].filter fun p => decide (extentWritten k p.1 = written)).filterMap fun p =>
    p.2.map (·.phys)

/-- A candidate meets a hazard with an entry of its ring's list (R98). -/
def hazardWith (reads writes : List PhysExtent) (h : Hazard) : Bool :=
  writes.any (fun w => (h.reads ++ h.writes).any (physOverlap w)) || reads.any (fun r => h.writes.any (physOverlap r))

/-- Step 5b (R98): the candidate meets a hazard with its own ring's list. -/
def hasHazard (s : State) (r : RingId) (k : Kind) (a b c : Option Extent) : Bool :=
  (s.issue.hazards.get r).any (hazardWith (planExtents k a b c false) (planExtents k a b c true))

/-- Steps 5 and 6 (R83): what holds a validated head back; NONE when nothing does. -/
def planWait (s : State) (r : RingId) : Plan → WaitReason
  | .transfer k a b c _ =>
    if !s.channels.c0.isIdle && !s.channels.c1.isIdle then .channel
    else if hasHazard s r k a b c then .hazard
    else .none
  | .mapswitch => if s.map.retiring.isSome then .mapDrain else .none
  | .refuse _ _ | .complete | .mapset _ _ | .maprevert => .none

/-- The conditions of R83 in order, for the head of a ring. -/
def verdict (s : State) (r : RingId) : Verdict :=
  let g := s.ring r
  match g.queue with
  | [] => .noHead
  | p :: _ =>
    if g.phase ≠ .active then .noHead
    else if s.control.part ≠ .running then .wait .part
    else if needsOrder g p && decide (g.inFlight ≠ 0) then .wait .order
    else if !cqHasRoom (s.cq g.dir.cq) then .wait .completion
    else
      let plan := validate s.map s.ports.profiles p.record
      match planWait s r plan with
      | .none => if postRoom s 1 then .eligible p plan else .wait .none
      | w => .wait w

/-- The wait reason a verdict gives (R84). -/
def Verdict.reason : Verdict → WaitReason
  | .wait w => w
  | .noHead | .eligible _ _ => .none

/-- An examination sets the wait reason of an ACTIVE ring, and of no other (R84). -/
def examinedRing (s : State) (r : RingId) : Ring :=
  let g := s.ring r
  if g.phase = .active then { g with wait := (verdict s r).reason } else g

/-- Every ACTIVE ring's wait reason as the examination finds it (R84). -/
def State.setWaits (s : State) : State :=
  { s with
    ringManager :=
      { s.ringManager with rings := ⟨examinedRing s .sq0, examinedRing s .sq1, examinedRing s .sq2, examinedRing s .sq3⟩ } }

/-- The head is eligible. -/
def Verdict.isEligible : Verdict → Bool
  | .eligible _ _ => true
  | .noHead | .wait _ => false

/-- The first eligible head of a class from its pointer on (R82). -/
def searchClass (s : State) (cls : RingClass) (ptr : RingId) : Option RingId :=
  (ringsFrom ptr).find? fun r => decide ((s.ring r).dir.cls = cls) && (verdict s r).isEligible

/-- The ring whose head is taken: an eligible URGENT head before any NORMAL head (R82). -/
def chosenRing (s : State) : Option RingId :=
  match searchClass s .urgent s.issue.urgentPtr with
  | some r => some r
  | none => searchClass s .normal s.issue.normalPtr

/-- The pointer of the class of a taken ring moves to the ring after it (R82). -/
def State.movePointer (s : State) (r : RingId) : State :=
  match (s.ring r).dir.cls with
  | .urgent => { s with issue := { s.issue with urgentPtr := RingId.next r } }
  | .normal => { s with issue := { s.issue with normalPtr := RingId.next r } }

/-- A ring whose head leaves: its in-flight count rises, it reads NONE, and it becomes IDLE when its queue is empty and nothing is
pending (R61, R66, R84, R99). -/
def ringAfterTaking (g : Ring) : Ring :=
  { g with
    queue := g.queue.tail
    wait := .none
    inFlight := g.inFlight + 1
    phase := if g.queue.tail = [] ∧ ringPending g = 0 then .idle else g.phase }

/-- What every taking does (R96, R99, R100): the head leaves, a reservation is taken, the class's pointer moves. -/
def State.takeHead (s : State) (r : RingId) : State :=
  ((s.setRing r (ringAfterTaking (s.ring r))).reserve (s.ring r).dir.cq).movePointer r

/-- The Map Unit after a MAPSWITCH (R32): the staged table is installed, G advances, a retiring record is formed from a bound count
above 0, and the switch is pending (R33). -/
def mapAfterSwitch (m : MapUnit) (sw : PendingSwitch) : MapUnit where
  current := m.staged
  staged := m.staged
  generation := m.generation + 1
  bound := 0
  retiring := if 0 < m.bound then some ⟨m.generation, m.bound⟩ else m.retiring
  pendingSwitch := if 0 < m.bound then some sw else m.pendingSwitch

/-- The lowest-numbered IDLE channel (R99). -/
def freeChannel (s : State) : ChannelId := if s.channels.c0.isIdle then .c0 else .c1

/-- The first step in the direction of the run (R104). -/
def firstStep (k : Kind) (n : Nat) : Direction → Nat
  | .ascending => 0
  | .descending => n / stepElements k - 1

/-- The channel context at the taking (R99, R102). -/
def contextAtTaking (s : State) (r : RingId) (p : Prefetched) (k : Kind) (a b c : Option Extent) (d : Direction) : Context where
  ring := r
  slot := p.slot
  tag := p.record.tag
  key := s.issue.nextKey
  kind := k
  pad := p.record.pad
  pattern := p.record.pattern
  strict := p.record.strict
  highonly := p.record.highonly
  generation := s.map.generation
  extA := a
  extB := b
  extC := c
  count := p.record.count.toNat
  direction := d
  nextStep := firstStep k p.record.count.toNat d
  elementsDone := 0
  residue := none
  conflictBeats := 0
  pendingAbort := false
  ending := none
  step := none

/-- A valid transfer goes to a channel (R99 steps 4 to 6), which begins its first step at once (R103). -/
def State.issueTransfer (s : State) (r : RingId) (p : Prefetched) (k : Kind) (a b c : Option Extent) (d : Direction) : State :=
  let x := contextAtTaking s r p k a b c d
  let t := (s.setMap { s.map with bound := s.map.bound + 1 }).listTransfer r (planExtents k a b c false) (planExtents k a b c true)
  t.beginStep (freeChannel s) x

/-- A record is completed at its taking: its entry is handed to the post queue (R96, R100). -/
def State.completeHead (s : State) (r : RingId) (p : Prefetched) (status : Status) (detail : Detail) : State :=
  s.handEntry (plainCompletion s r p.slot p.record.tag status detail)

/-- What becomes of the record that has left its queue (R96, R99, R100). -/
def State.carryOut (s : State) (r : RingId) (p : Prefetched) : Plan → State
  | .refuse st d => s.completeHead r p st d
  | .complete => s.completeHead r p .ok .none
  | .mapset i e => (s.setMap { s.map with staged := setEntry s.map.staged i e }).completeHead r p .ok .none
  | .maprevert => (s.setMap { s.map with staged := s.map.current }).completeHead r p .ok .none
  | .mapswitch =>
    let t := s.setMap (mapAfterSwitch s.map ⟨r, p.slot, p.record.tag⟩)
    if 0 < s.map.bound then t else t.completeHead r p .ok .none
  | .transfer k a b c d => s.issueTransfer r p k a b c d

/-- The examination and the taking it ends in, one step (R81). After a taking another examination follows. -/
def State.examine (s : State) : State :=
  let t := s.setWaits
  match chosenRing s with
  | none => { t with issue := { t.issue with due := false } }
  | some r =>
    match verdict s r with
    | .eligible p plan => ((t.takeHead r).carryOut r p plan).examineDue
    | .noHead | .wait _ => t

/-- EXAMINATION (R81): in HALTED, OFF and LOADING none is made. -/
def execExamination (s : State) : Host.Outcome State Fault Refusal :=
  .next
    (if s.control.part = .halted ∨ s.control.part = .off ∨ s.control.part = .loading then s else s.examine)

end Sys2Proof.Machine
end

