-- ==== Sys2Proof/Machine/Mailbox.lean ====
section
/-! DEFINITION. The M-port and what goes through it: FETCH_REQUEST, M_PORT_GRANT, FETCH_COMPLETE, COMPLETION_WRITE, MAILBOX_FAULT. -/

namespace Sys2Proof.Machine

/-- The conditions of R62 for requesting a fetch of a ring; a discarded read of the ring must have ended first (R71). -/
def fetchReady (s : State) (r : RingId) : Bool :=
  let g := s.ring r
  decide (s.control.part ≠ .halted) &&
    (decide (g.phase = .active) || (decide (g.phase = .flushing) && decide (g.fetch ≠ g.flushTarget))) &&
    decide (0 < ringPending g) && decide (g.queue.length < Config.prefetchCapacity) && !fetchInProgress s r &&
    !discardedRead s r

/-- FETCH_REQUEST (R62): the fetch of the slot the fetch count names waits for the M-port (R56). Where a condition does not hold
nothing is requested (log entry 2). -/
def execFetchRequest (r : RingId) (s : State) : Host.Outcome State Fault Refusal :=
  let g := s.ring r
  let slot := fetchSlot g
  .next
    (if fetchReady s r then
       s.setMPort { s.mport with fetchWaiting := s.mport.fetchWaiting.set r (some ⟨slot, g.fetch, slotAddr g slot⟩) }
     else s)

/-- The ring whose waiting fetch is granted: round robin from the ring after the one last granted (R64). -/
def nextFetch (m : MPort) : Option RingId :=
  (ringsFrom (RingId.next m.lastFetch)).find? fun r => (m.fetchWaiting.get r).isSome

/-- The M-port with the access that R64 grants in service: a completion write, else a fetch, else the setup load. -/
def grantAccess (s : State) : MPort :=
  let m := s.mport
  if completionWriteWaiting s then { m with inService := some ⟨.completionWrite, .live⟩ }
  else
    match nextFetch m with
    | some r =>
      match m.fetchWaiting.get r with
      | some req =>
        { m with inService := some ⟨.fetch r req, .live⟩, fetchWaiting := m.fetchWaiting.set r none, lastFetch := r }
      | none => m
    | none =>
      match m.setupWaiting with
      | some a => { m with inService := some ⟨.setupLoad a, .live⟩, setupWaiting := none }
      | none => m

/-- M_PORT_GRANT (R64): when the port is free and the part is not HALTED. -/
def execMPortGrant (s : State) : Host.Outcome State Fault Refusal :=
  .next (if s.mport.inService = none ∧ s.control.part ≠ .halted then s.setMPort (grantAccess s) else s)

/-- A fetched record joins the tail of its ring's prefetch queue and the fetch count rises (R63). A record that joins an empty queue
leads to an examination (R81). In HALTED the ring's other state stays frozen (R63). -/
def State.joinRecord (s : State) (r : RingId) (req : FetchRequest) : State :=
  let g := s.ring r
  let p : Prefetched := ⟨Record.ofWords (mailboxWords s.mailbox req.addr 8), req.slot, req.fetchCount⟩
  let t := s.setRing r { g with queue := g.queue ++ [p], fetch := g.fetch + 1 }
  if s.control.part = .halted then t
  else
    let t := t.refreshFlush r
    if g.queue.isEmpty then t.examineDue else t

/-- FETCH_COMPLETE (R63): the fetch in service ends. What the host wrote before the read is in mailbox memory (log entry 5). A read
abandoned by a reset ends without effect (R79); one that failed is a FETCH_READ fault with the slot's address; the record of one
discarded by a ring RESET does not join (R71). With no fetch in service, or before a fault that waits is taken (R172), nothing ends
(log entry 2). -/
def execFetchComplete (host : List HostWrite) (ok : Bool) (s : State) : Host.Outcome State Fault Refusal :=
  match s.mport.inService, accessCanEnd s with
  | some ⟨.fetch r req, fate⟩, true =>
    let s := { s with mailbox := mailboxHost s.mailbox host }.freePort
    .next
      (match fate with
       | .abandoned => s
       | .discarded => if ok then s else s.reportFault .fetchRead req.addr
       | .live => if ok then s.joinRecord r req else s.reportFault .fetchRead req.addr)
  | _, _ => .next s

/-! ## Completion writes (R151 to R153) -/

/-- The order in which the words of a completion record are written: w1, w2, w3, then w0 (R151; log entry 26). -/
def writeOrder : List (Fin 4) := [1, 2, 3, 0]

/-- Word i of a completion record lands at byte offset 4 × i (R41). -/
def putWord (m : MailboxMemory) (a : MailboxAddr) (i : Fin 4) (w : Word32) : MailboxMemory :=
  mailboxSetWord m (a + BitVec.ofNat 16 (4 * i.val)) w

/-- Mailbox memory after the words of a list have been written. -/
def putWords (m : MailboxMemory) (a : MailboxAddr) (w : Vector Word32 4) (is : List (Fin 4)) : MailboxMemory :=
  is.foldl (fun m i => putWord m a i w[i]) m

/-- The tail rises, the reservation passes into it, and the phase flips when the new tail is a multiple of the depth (R151, R152). -/
def cqAfterWrite (q : CompletionRing) : CompletionRing :=
  let tail := q.tail + 1
  { q with
    tail := tail
    reservations := q.reservations - 1
    phase := if tail.toNat % depthOf q.depthCode = 0 then !q.phase else q.phase }

/-- The in-flight count of the record's ring falls; STOPPING with none left enters STOPPED, and a complete flush ends (R151 step 4,
R69, R75). -/
def State.recordWritten (s : State) (r : RingId) : State :=
  let g := s.ring r
  let s := s.setRing r { g with inFlight := g.inFlight - 1 }
  let g := s.ring r
  if g.phase = .stopping ∧ g.inFlight = 0 then s.enterStopped r
  else if g.phase = .flushing ∧ flushDone s r = true then s.endFlush r
  else s

/-- The hazard list entry of a written transfer leaves its ring's list (R97, R151 step 5): the one with its key (log entry 14). -/
def State.dropHazard (s : State) (r : RingId) (key : Option Nat) : State :=
  match key with
  | some k => s.setHazards r ((s.issue.hazards.get r).filter fun h => decide (h.key ≠ k))
  | none => s

/-- A record written into a completion ring is counted (R156): the first one starts the holdoff timer, and the threshold, or holdoff
0, signals. -/
def coalesceWrite (threshold : Nat) (holdoff : Nat) (k : Coalescing) : Coalescing × Bool :=
  let n := k.count + 1
  if threshold ≤ n ∨ holdoff = 0 then (⟨0, false⟩, true)
  else (⟨n, if k.count = 0 then true else k.timer⟩, false)

def State.coalesce (s : State) (c : CqId) : State :=
  let q := s.cq c
  let k := coalesceWrite q.threshold.toNat q.holdoff.toNat (s.coalescer.cqs.get c)
  { s with
    coalescer :=
      { cqs := s.coalescer.cqs.set c k.1
        intstat := if k.2 then setCqSource s.coalescer.intstat c else s.coalescer.intstat } }

/-- The end of a successful completion write, in one step (R151); it leads to an examination (R81). -/
def State.entryWritten (s : State) (e : Completion) : State :=
  let s := s.setCq e.cq (cqAfterWrite (s.cq e.cq))
  let s := (s.recordWritten e.ring).dropHazard e.ring e.transferKey
  (s.coalesce e.cq).examineDue

/-- COMPLETION_WRITE (R151, R153): the completion write in service ends. On success the record stands in mailbox memory with its
phase, and, outside HALTED, the counts follow (R153). On an error at one word, the words before it are written, that word holds
whatever the memory kept (a free value, log entry 7), and a POST_WRITE fault is handed over; its taking loses the entry, which keeps
its place until then (log entry 31). A write abandoned by a reset ends without effect (R162, R173). With no completion write in service, or
before a fault that waits is taken (R172, so that R34 holds), nothing ends (log entry 2). -/
def execCompletionWrite (result : WriteEnd) (s : State) : Host.Outcome State Fault Refusal :=
  match s.mport.inService, accessCanEnd s with
  | some ⟨.completionWrite, fate⟩, true =>
    if fate = .abandoned then .next s.freePort
    else
      match writerEntry s with
      | none => .next s.freePort
      | some e =>
        let q := s.cq e.cq
        let addr := cqSlotAddr q
        let w := e.words q.phase
        match result with
        | .done =>
          let t := { s.freePort.writerEntryLeaves with mailbox := putWords s.mailbox addr w writeOrder }
          .next (if s.control.part = .halted then t else t.entryWritten e)
        | .failedAt i =>
          let before := putWords s.mailbox addr w (writeOrder.takeWhile fun j => decide (j ≠ i))
          .next
            ({ s.freePort with
               mailbox := putWord before addr i (Config.failedWord s.freeIndex)
               freeIndex := s.freeIndex + 1 }.reportFault .postWrite addr)
  | _, _ => .next s

/-! ## Mailbox faults (R172 to R174) -/

/-- The part enters HALTED with the fault record written; EVENT is set and the holdoff timers stop (R172, R157). -/
def State.halt (s : State) (f : FaultRecord) : State :=
  let s := { s with control := { s.control with part := .halted, faultRecord := f } }.setEvent
  { s with
    coalescer :=
      { s.coalescer with
        cqs := ⟨{ s.coalescer.cqs.cq0 with timer := false }, { s.coalescer.cqs.cq1 with timer := false }⟩ } }

/-- The entry whose completion write failed is lost when its fault is taken (R153; log entry 31): it heads the post queue, since
faults are taken in the order of the failures. -/
def State.loseEntry (s : State) (kind : FaultKind) : State :=
  if kind = .postWrite then s.setPostQueue s.writer.postQueue.tail else s

/-- MAILBOX_FAULT (R172, R173): the Control Unit takes the oldest error handed to it, and a POST_WRITE fault loses its entry (R153).
In HALTED it sets more-faults and keeps the fault record. With no error nothing is taken (log entry 2). Errors wait first in, first
out (log entry 16). -/
def execMailboxFault (s : State) : Host.Outcome State Fault Refusal :=
  match s.mport.errors with
  | [] => .next s
  | f :: rest =>
    let t := (s.setMPort { s.mport with errors := rest }).loseEntry f.kind
    .next (if s.control.part = .halted then { t with control := { t.control with moreFaults := true } } else t.halt f)

end Sys2Proof.Machine
end

