-- ==== Sys2Proof/Machine/PartControl.lean ====
section
/-! DEFINITION. The resets and the CONTROL commands: POWER_ON_RESET, ENABLE, QUIESCE, ABORT, RESUME, SOFT_RESET,
CONTROL_MASK_WRITE, CONTROL_UNKNOWN_COMMAND (chapter 10). -/

namespace Sys2Proof.Machine

/-- A load that a check fails: OFF, with its code, and EVENT (R168, R159). -/
def State.failLoad (s : State) (e : SetupError) : State :=
  { s with control := { s.control with part := .off, setupError := e } }.setEvent

/-- The setup block's 48 bytes fit in the mailbox: the address is FFD0h or less (R165). -/
def setupFits (a : MailboxAddr) : Bool := decide (a.toNat + 48 ≤ 65536)

/-- ENABLE taken in OFF: LOADING, setup error NONE, and the 48-byte read is requested, or the load ends at once (R165). -/
def State.beginLoad (s : State) : State :=
  let s := { s with control := { s.control with part := .loading, setupError := .none } }
  if setupFits s.control.setupAddr then s.setMPort { s.mport with setupWaiting := some s.control.setupAddr }
  else s.failLoad .badPlacement

/-- The pending abort flag of a RUNNING channel is set; ENDING and IDLE channels are not touched (R112). -/
def Channel.flagAbort : Channel → Channel
  | .running x => .running { x with pendingAbort := true }
  | .ending x => .ending x
  | .idle => .idle

def State.flagAborts (s : State) : State := { s with channels := ⟨s.channels.c0.flagAbort, s.channels.c1.flagAbort⟩ }

/-- POWER_ON_RESET (R176): every block in its power-on state. The banks' words and mailbox memory are not blocks of the part and keep
their contents, apart from a write in service (R115, R162; log entry 10). -/
def execPowerOnReset (s : State) : Host.Outcome State Fault Refusal := .next (s.resetBlocks ControlUnit.reset MapUnit.reset)

/-- ENABLE (R165), taken in OFF (R164). -/
def execEnable (mask : Sources) (s : State) : Host.Outcome State Fault Refusal :=
  let s := s.setMask mask
  .next (if s.control.part = .off then s.beginLoad else s.refuseControl)

/-- QUIESCE (R169), taken in RUNNING (R164). -/
def execQuiesce (mask : Sources) (s : State) : Host.Outcome State Fault Refusal :=
  let s := s.setMask mask
  .next (if s.control.part = .running then (s.setPart .quiescing).drainPart else s.refuseControl)

/-- ABORT (R170), taken in RUNNING and QUIESCING (R164). -/
def execAbort (mask : Sources) (s : State) : Host.Outcome State Fault Refusal :=
  let s := s.setMask mask
  .next
    (if s.control.part = .running ∨ s.control.part = .quiescing then ((s.setPart .aborting).flagAborts).drainPart
     else s.refuseControl)

/-- RESUME (R171), taken in QUIESCED (R164). Entering RUNNING leads to an examination (R81). -/
def execResume (mask : Sources) (s : State) : Host.Outcome State Fault Refusal :=
  let s := s.setMask mask
  .next (if s.control.part = .quiesced then (s.setPart .running).examineDue else s.refuseControl)

/-- RESET written to CONTROL (R175), taken in every part state (R164). -/
def execSoftReset (mask : Sources) (s : State) : Host.Outcome State Fault Refusal :=
  .next (s.resetBlocks (controlAfterSoftReset s.control mask) (mapAfterSoftReset s.map))

/-- A write to CONTROL with command 0 (R54). -/
def execControlMaskWrite (mask : Sources) (s : State) : Host.Outcome State Fault Refusal := .next (s.setMask mask)

/-- A write to CONTROL with an unknown command code (R54): dropped, its mask bits applied. -/
def execControlUnknownCommand (mask : Sources) (s : State) : Host.Outcome State Fault Refusal :=
  .next (s.setMask mask).refuseControl

end Sys2Proof.Machine
end

