-- ==== Sys2Proof/Machine/RingControl.lean ====
section
/-! DEFINITION. What the host writes to the rings and to the other registers: SELECT, STOP, RING_RESUME, FLUSH, RING_RESET,
RINGCTL_UNKNOWN_COMMAND, POST (chapter 4), ACK (R155), SETUP_WRITE, STATUS_WRITE (R54), INTSTAT_WRITE (R158). -/

namespace Sys2Proof.Machine

/-- A ring enters ACTIVE, which leads to an examination (R81). -/
def State.activate (s : State) (r : RingId) : State := (s.setRing r ((s.ring r).enter .active)).examineDue

/-- SELECT (R67): taken in every part state and every ring state. -/
def execSelect (r : RingId) (s : State) : Host.Outcome State Fault Refusal := .next (s.selectRing r)

/-- STOP (R68), taken from IDLE and ACTIVE (R72), not in HALTED. -/
def execStop (r : RingId) (s : State) : Host.Outcome State Fault Refusal :=
  let s := s.selectRing r
  let g := s.ring r
  .next
    (if s.control.part ≠ .halted ∧ (g.phase = .idle ∨ g.phase = .active) then
       (if g.inFlight = 0 then s.enterStopped r else s.setRing r (g.enter .stopping))
     else s.refuseRingctl)

/-- RINGCTL RESUME (R70), taken from STOPPED (R72), not in HALTED. -/
def execRingResume (r : RingId) (s : State) : Host.Outcome State Fault Refusal :=
  let s := s.selectRing r
  let g := s.ring r
  .next
    (if s.control.part ≠ .halted ∧ g.phase = .stopped then
       (if g.queue ≠ [] ∨ 0 < ringPending g then s.activate r else s.setRing r (g.enter .idle))
     else s.refuseRingctl)

/-- FLUSH (R73), taken from STOPPED, and from FAULTED with in-flight 0 (R72), not in HALTED. A flush with nothing to dispose of ends
at once (R75; log entry 18). -/
def execFlush (r : RingId) (s : State) : Host.Outcome State Fault Refusal :=
  let s := s.selectRing r
  let g := s.ring r
  .next
    (if s.control.part ≠ .halted ∧ (g.phase = .stopped ∨ (g.phase = .faulted ∧ g.inFlight = 0)) then
       let s := s.setRing r { g.enter .flushing with flushTarget := g.tail }
       (if g.queue = [] ∧ g.fetch = g.tail then s.endFlush r else s.refreshFlush r)
     else s.refuseRingctl)

/-- The M-port after a ring RESET (R71): a fetch not yet granted is withdrawn; one in service runs to its end and its record is
discarded. -/
def abandonFetch (m : MPort) (r : RingId) : MPort :=
  { m with
    fetchWaiting := m.fetchWaiting.set r none
    inService := match m.inService with
      | some ⟨.fetch r' req, .live⟩ => if r' = r then some ⟨.fetch r' req, .discarded⟩ else m.inService
      | other => other }

/-- RINGCTL RESET (R71), taken from STOPPED and FAULTED with in-flight 0 (R72), not in HALTED. -/
def execRingReset (r : RingId) (s : State) : Host.Outcome State Fault Refusal :=
  let s := s.selectRing r
  let g := s.ring r
  .next
    (if s.control.part ≠ .halted ∧ (g.phase = .stopped ∨ g.phase = .faulted) ∧ g.inFlight = 0 then
       (s.setRing r { g.enter .idle with tail := 0, fetch := 0, queue := [], cause := .none }).setMPort (abandonFetch s.mport r)
     else s.refuseRingctl)

/-- A write to RINGCTL with an unknown command code (R54): dropped; the ring it names is not selected. -/
def execRingctlUnknownCommand (s : State) : Host.Outcome State Fault Refusal := .next s.refuseRingctl

/-- A POST that overruns or retracts (R58, R59): a ring not FAULTED enters FAULTED with the cause, which is reported; a waiting
disposal is withdrawn (R76). A FAULTED ring keeps its state and first cause. -/
def State.postFault (s : State) (r : RingId) (cause : FaultCause) : State :=
  if (s.ring r).phase = .faulted then s
  else
    let s := s.withdrawDisposal r
    (s.setRing r { (s.ring r).enter .faulted with cause := cause }).reportRing r

/-- A POST that passes both checks (R60). -/
def State.postApply (s : State) (r : RingId) (tail : Count) : State :=
  let g := { s.ring r with tail := tail }
  let s := s.setRing r g
  if g.phase = .idle ∧ 0 < ringPending g then s.activate r else s

/-- POST (R57): dropped with POST_REJECTED, or checked for overrun (R58) and retraction (R59), and applied (R60). -/
def execPost (r : RingId) (tail : Count) (s : State) : Host.Outcome State Fault Refusal :=
  let g := s.ring r
  .next
    (if s.control.part = .off ∨ s.control.part = .loading ∨ s.control.part = .halted ∨ g.phase = .disabled then s.rejectPost
     else if depthOf g.dir.depthCode < tail.since g.fetch then s.postFault r .overrun
     else if tail.since g.fetch < ringPending g then s.postFault r .retract
     else s.postApply r tail)

/-- ACK (R155): dropped with ACK_INVALID, or the head count becomes `head`, which leads to an examination (R81). -/
def execAck (c : CqId) (head : Count) (s : State) : Host.Outcome State Fault Refusal :=
  let q := s.cq c
  .next
    (if s.control.part = .off ∨ s.control.part = .loading ∨ s.control.part = .halted ∨ q.enabled = false ∨
        cqUsed q < head.since q.head then
       { s with writer := { s.writer with ackInvalid := true } }
     else (s.setCq c { q with head := head }).examineDue)

/-- A write to SETUP (R54): bits 3 to 0 are not stored. -/
def execSetupWrite (addr : MailboxAddr) (s : State) : Host.Outcome State Fault Refusal :=
  .next { s with control := { s.control with setupAddr := addr &&& 0xFFF0#16 } }

/-- A write to STATUS (R54). -/
def execStatusWrite (value : Word32) (s : State) : Host.Outcome State Fault Refusal := .next (clearStatus s value)

/-- A write to INTSTAT (R158). -/
def execIntstatWrite (value : Word32) (s : State) : Host.Outcome State Fault Refusal :=
  .next { s with coalescer := { s.coalescer with intstat := clearSources s.coalescer.intstat value } }

end Sys2Proof.Machine
end

