-- ==== Sys2Proof/Machine/Setup.lean ====
section
/-! DEFINITION. The setup load: the checks of R166 and R167 and what a load leaves (R168): SETUP_LOAD_END. -/

namespace Sys2Proof.Machine

/-- A byte range of an enabled ring in mailbox memory: first byte and size, and whether its depth code is valid. -/
structure RingPlace where
  base : Nat
  slotBytes : Nat
  depthCode : BitVec 4
  deriving DecidableEq, Repr

def allRings : List RingId := [.sq0, .sq1, .sq2, .sq3]
def allCqs : List CqId := [.cq0, .cq1]
def allDevices : List DeviceId := [.x0, .x1, .x2]

/-- The enabled rings of a block, submission and completion together, with their record sizes (R166). -/
def ringPlaces (b : SetupBlock) : List RingPlace :=
  (allRings.filterMap fun r =>
    let d := b.rings.get r
    if d.enabled then some ⟨d.base.toNat, 32, d.depthCode⟩ else none) ++
  allCqs.filterMap fun c =>
    let d := b.cqs.get c
    if d.enabled then some ⟨d.base.toNat, 16, d.depthCode⟩ else none

/-- Depth codes 2 to 8 (R166). -/
def depthCodeValid (d : BitVec 4) : Bool := decide (2 ≤ d.toNat) && decide (d.toNat ≤ 8)

def placeBytes (p : RingPlace) : Nat := p.slotBytes * depthOf p.depthCode

/-- Check 2 for one ring: aligned to its record size, and, when its depth code is valid, inside the mailbox (R166). -/
def placeValid (p : RingPlace) : Bool :=
  decide (p.base % p.slotBytes = 0) && (!depthCodeValid p.depthCode || decide (p.base + placeBytes p ≤ 65536))

/-- Two byte ranges share a byte (R166 check 4). -/
def placesOverlap (p q : RingPlace) : Bool :=
  decide (p.base < q.base + placeBytes q) && decide (q.base < p.base + placeBytes p)

/-- Some two ranges of the list share a byte. -/
def anyOverlap : List RingPlace → Bool
  | [] => false
  | p :: rest => rest.any (placesOverlap p) || anyOverlap rest

/-- Check 5 (R167): an enabled submission ring names an enabled completion ring. -/
def cqNamed (b : SetupBlock) (r : RingId) : Bool :=
  let d := b.rings.get r
  !d.enabled || (b.cqs.get d.cq).enabled

/-- Check 6 (R167): threshold 1 to 32, holdoff 0 to 1,023. -/
def coalesceValid (b : SetupBlock) (c : CqId) : Bool :=
  let d := b.cqs.get c
  !d.enabled || (decide (1 ≤ d.threshold.toNat) && decide (d.threshold.toNat ≤ 32) && decide (d.holdoff.toNat ≤ 1023))

/-- Check 7 (R167): size code 12 to 20, ready timeout 1 to 255. -/
def deviceValid (b : SetupBlock) (d : DeviceId) : Bool :=
  let v := b.devices.get d
  !v.present ||
    (decide (12 ≤ v.profile.sizeCode.toNat) && decide (v.profile.sizeCode.toNat ≤ 20) && decide (1 ≤ v.profile.timeout.toNat))

/-- The profiles a block gives: absent for a device that is not present (R140). -/
def blockProfiles (b : SetupBlock) : PerDevice (Option Profile) :=
  let p := fun (v : DeviceSetup) => if v.present then some v.profile else none
  ⟨p b.devices.x0, p b.devices.x1, p b.devices.x2⟩

/-- Check 8 for one entry (R20, R167): an enabled entry on an X target finds its device present and large enough. -/
def keptEntryFits (profiles : PerDevice (Option Profile)) (e : WindowEntry) : Bool :=
  match e.target with
  | .bank _ => true
  | .device d =>
    !e.enabled ||
      match profiles.get d with
      | some p => decide (e.targetBase.toNat + windowSize e ≤ 2 ^ p.sizeCode.toNat)
      | none => false

/-- The setup checks in order (R166, R167): the code of the first that fails, or NONE. -/
def setupCheck (b : SetupBlock) (current : WindowTable) : SetupError :=
  let places := ringPlaces b
  if b.format ≠ 1 then .badFormat
  else if !places.all placeValid then .badPlacement
  else if !places.all (fun p => depthCodeValid p.depthCode) then .badDepth
  else if anyOverlap places then .ringOverlap
  else if !allRings.all (cqNamed b) then .cqMissing
  else if !allCqs.all (coalesceValid b) then .badCoalesce
  else if !allDevices.all (deviceValid b) then .badDevice
  else if !current.toList.all (keptEntryFits (blockProfiles b)) then .mapConflict
  else .none

/-- A submission ring after a load that passes: IDLE if enabled, with its counts, queue, in-flight count and fault cause at their
reset values (R168); DISABLED otherwise (R55). -/
def loadedRing (d : RingDirectory) : Ring :=
  { Ring.reset with dir := d, phase := if d.enabled then .idle else .disabled }

/-- A completion ring after a load that passes (R146, R147). -/
def loadedCq (d : CqSetup) : CompletionRing :=
  { CompletionRing.reset with
    base := d.base, depthCode := d.depthCode, enabled := d.enabled, threshold := d.threshold, holdoff := d.holdoff }

/-- A load whose checks all pass, in one step (R168). Entering RUNNING leads to an examination (R81). The
fields of a disabled ring are the block's too (log entry 25). -/
def State.finishLoad (s : State) (b : SetupBlock) : State :=
  let s :=
    { s with
      ringManager :=
        { s.ringManager with
          rings := ⟨loadedRing b.rings.sq0, loadedRing b.rings.sq1, loadedRing b.rings.sq2, loadedRing b.rings.sq3⟩ }
      ports := { s.ports with profiles := blockProfiles b }
      writer := { s.writer with cqs := ⟨loadedCq b.cqs.cq0, loadedCq b.cqs.cq1⟩ }
      coalescer := { s.coalescer with cqs := PerCq.all ⟨0, false⟩ } }
  (s.setPart .running).examineDue

/-- The twelve words of the block have been read (R165, R168). -/
def State.loadBlock (s : State) (b : SetupBlock) : State :=
  match setupCheck b s.map.current with
  | .none => s.finishLoad b
  | e => s.failLoad e

/-- SETUP_LOAD_END (R168): the setup read in service ends. What the host wrote before the read is in mailbox memory (log entry 5). A
read that failed is a SETUP_READ fault with the block address (R165); one abandoned by a reset ends without effect (R173). With no
setup read in service, or before a fault that waits is taken (R172), nothing ends (log entry 2). -/
def execSetupLoadEnd (host : List HostWrite) (ok : Bool) (s : State) : Host.Outcome State Fault Refusal :=
  match s.mport.inService, accessCanEnd s with
  | some ⟨.setupLoad addr, fate⟩, true =>
    let s := { s with mailbox := mailboxHost s.mailbox host }.freePort
    .next
      (if fate = .abandoned then s
       else if !ok then s.reportFault .setupRead addr
       else if s.control.part = .loading then s.loadBlock (SetupBlock.ofWords (mailboxWords s.mailbox addr 12))
       else s)
  | _, _ => .next s

end Sys2Proof.Machine
end

