-- ==== Sys2Proof/Machine/Dispatch.lean ====
section
/-! DEFINITION. The command's effect on everything but the queue: one arm for each row of the table. -/

namespace Sys2Proof.Machine

def exec (i : Instr) (s : State) : Host.Outcome State Fault Refusal :=
  match i with
  | .powerOnReset => Sys2Proof.Machine.execPowerOnReset s
  | .enable mask => Sys2Proof.Machine.execEnable mask s
  | .quiesce mask => Sys2Proof.Machine.execQuiesce mask s
  | .abort mask => Sys2Proof.Machine.execAbort mask s
  | .resume mask => Sys2Proof.Machine.execResume mask s
  | .softReset mask => Sys2Proof.Machine.execSoftReset mask s
  | .controlMaskWrite mask => Sys2Proof.Machine.execControlMaskWrite mask s
  | .controlUnknownCommand _ mask => Sys2Proof.Machine.execControlUnknownCommand mask s
  | .select ring => Sys2Proof.Machine.execSelect ring s
  | .stop ring => Sys2Proof.Machine.execStop ring s
  | .ringResume ring => Sys2Proof.Machine.execRingResume ring s
  | .flush ring => Sys2Proof.Machine.execFlush ring s
  | .ringReset ring => Sys2Proof.Machine.execRingReset ring s
  | .ringctlUnknownCommand _ _ => Sys2Proof.Machine.execRingctlUnknownCommand s
  | .post ring tail => Sys2Proof.Machine.execPost ring tail s
  | .ack cq head => Sys2Proof.Machine.execAck cq head s
  | .setupWrite addr => Sys2Proof.Machine.execSetupWrite addr s
  | .statusWrite value => Sys2Proof.Machine.execStatusWrite value s
  | .intstatWrite value => Sys2Proof.Machine.execIntstatWrite value s
  | .fetchRequest ring => Sys2Proof.Machine.execFetchRequest ring s
  | .mPortGrant => Sys2Proof.Machine.execMPortGrant s
  | .fetchComplete host ok => Sys2Proof.Machine.execFetchComplete host ok s
  | .setupLoadEnd host ok => Sys2Proof.Machine.execSetupLoadEnd host ok s
  | .mailboxFault => Sys2Proof.Machine.execMailboxFault s
  | .examination => Sys2Proof.Machine.execExamination s
  | .beatGrant arbiter outside => Sys2Proof.Machine.execBeatGrant arbiter outside s
  | .beatEnd bank => Sys2Proof.Machine.execBeatEnd bank s
  | .ready device value => Sys2Proof.Machine.execReady device value s
  | .readyTimeout => Sys2Proof.Machine.execReadyTimeout s
  | .handOff channel => Sys2Proof.Machine.execHandOff channel s
  | .flushDisposal ring => Sys2Proof.Machine.execFlushDisposal ring s
  | .completionWrite result => Sys2Proof.Machine.execCompletionWrite result s
  | .holdoffExpiry cq => Sys2Proof.Machine.execHoldoffExpiry cq s

end Sys2Proof.Machine
end

