-- ==== Sys2Proof/Safety.lean ====
section
/-! DEFINITION. What claims about the part are stated in: where the records of a ring stand, and the laws that the spec's prose states of
every state of the part. -/

namespace Sys2Proof.Machine

/-! ## Memory (R41, R138) -/

/-- Both memories are in their canonical form. -/
def memoriesWf (s : State) : Bool :=
  Memory.wf s.mailbox && bankWf .d0 s.banks.d0 && bankWf .d1 s.banks.d1 && bankWf .d2 s.banks.d2 && bankWf .d3 s.banks.d3 &&
    bankWf .p0 s.banks.p0 && bankWf .p1 s.banks.p1

/-! ## The window map (R9, R17) -/

/-- No two enabled entries of a table overlap (R9). -/
def tableDisjoint (t : WindowTable) : Prop := ∀ i j : BitVec 4, i ≠ j → windowsOverlap (entryAt t i) (entryAt t j) = false

/-- Both tables obey the law of R9. -/
def mapDisjoint (s : State) : Prop := tableDisjoint s.map.current ∧ tableDisjoint s.map.staged

/-- The staged entry at the index of a locked current entry equals the current one (R17). -/
def locksHold (s : State) : Prop :=
  ∀ i : BitVec 4, (entryAt s.map.current i).lock = true → entryAt s.map.staged i = entryAt s.map.current i

/-- What every entry of a table satisfies whatever the device profiles: a valid size code; and, when enabled, an aligned base, an
aligned target base, and on a bank no word beyond its capacity (R7). -/
def entryPlaced (e : WindowEntry) : Prop :=
  e.sizeCode.toNat ≤ 8 ∧
  (e.enabled = true → e.logicalBase.toNat % windowSize e = 0 ∧ e.targetBase.toNat % 256 = 0 ∧
    ∀ b, e.target = .bank b → e.targetBase.toNat + windowSize e ≤ Config.bankCapacity b)

/-- Every entry of both tables is valid (R5, R7) while the part takes records, with the profiles as they are; in OFF and LOADING, where
no profile is present, what R7 says apart from the devices holds, and the tables are equal (R20, R39, R40). -/
def tablesValid (s : State) : Prop :=
  (∀ i, entryPlaced (entryAt s.map.current i) ∧ entryPlaced (entryAt s.map.staged i)) ∧
  (s.control.part = .off ∨ s.control.part = .loading → s.map.staged = s.map.current) ∧
  (s.control.part ≠ .off → s.control.part ≠ .loading → s.control.part ≠ .halted →
    ∀ i, windowValid s.ports.profiles (entryAt s.map.current i) = true ∧
      windowValid s.ports.profiles (entryAt s.map.staged i) = true)

/-! ## Bound transfers (R22, R26, R27) -/

/-- The transfer a channel holds, in RUNNING or ENDING (R103). -/
def Channel.context : Channel → Option Context
  | .idle => none
  | .running x | .ending x => some x

/-- A channel is busy with a transfer bound to a generation. -/
def boundTo (g : BitVec 8) (ch : Channel) : Nat :=
  match ch.context with
  | some x => if x.generation = g then 1 else 0
  | none => 0

/-- How many transfers on the channels are bound to a generation. -/
def boundCount (s : State) (g : BitVec 8) : Nat := boundTo g s.channels.c0 + boundTo g s.channels.c1

/-- A busy channel's transfer is bound to the current generation, or to the retiring one. -/
def boundKnown (s : State) (ch : Channel) : Prop :=
  ∀ x, ch.context = some x → x.generation = s.map.generation ∨ ∃ rt, s.map.retiring = some rt ∧ x.generation = rt.generation

/-- The bound counts count the transfers on the channels; the pending switch is present exactly when the retiring record is, whose
generation is G - 1 and whose count is above 0 (R22). -/
def bindingLaw (s : State) : Prop :=
  s.map.bound = boundCount s s.map.generation ∧
  boundKnown s s.channels.c0 ∧ boundKnown s s.channels.c1 ∧
  (s.map.retiring.isSome = s.map.pendingSwitch.isSome) ∧
  ∀ rt, s.map.retiring = some rt →
    rt.generation = s.map.generation - 1 ∧ 1 ≤ rt.bound ∧ rt.bound = boundCount s rt.generation

/-! ## Part states (R169, R171) -/

/-- QUIESCED exactly when drained: in QUIESCED no channel is busy and no switch is pending, and in QUIESCING and ABORTING one of the two
still holds. -/
def drainLaw (s : State) : Prop :=
  (s.control.part = .quiesced → channelsIdle s = true ∧ s.map.pendingSwitch = none) ∧
  (s.control.part = .quiescing ∨ s.control.part = .aborting → ¬(channelsIdle s = true ∧ s.map.pendingSwitch = none))

/-- In OFF and LOADING every ring is DISABLED and nothing stands on a channel, in the post queue or as the pending switch (R103, R150,
R165). -/
def quietWhenOff (s : State) : Prop :=
  s.control.part = .off ∨ s.control.part = .loading →
    (∀ r, (s.ring r).phase = .disabled) ∧ s.writer.postQueue = [] ∧ channelsIdle s = true ∧ s.map.pendingSwitch = none

/-! ## Submission rings (R56 to R69) -/

/-- A read of a ring's slot that is in service at the M-port and will count when it ends. -/
def liveRead (s : State) (r : RingId) : Option FetchRequest :=
  match s.mport.inService with
  | some ⟨.fetch r' req, .live⟩ => if r' = r then some req else none
  | _ => none

/-- The queue's records stand in fetch order, the last one just before the fetch count, each with the slot its fetch count names
(R56, R61). -/
def queueOrdered (g : Ring) : Prop :=
  ∀ i p, g.queue[i]? = some p →
    p.fetchCount + BitVec.ofNat 16 (g.queue.length - i) = g.fetch ∧ p.slot = p.fetchCount.toNat % depthOf g.dir.depthCode

/-- The law of one ring's counts and queue: at most depth records are pending (R58); queue and fetch together hold at most four (R61,
R62); a fetch in progress names a pending record, by the fetch count (R56). -/
def ringLaw (s : State) (r : RingId) : Prop :=
  let g := s.ring r
  ringPending g ≤ depthOf g.dir.depthCode ∧
  queueOrdered g ∧
  g.queue.length + (if fetchInProgress s r then 1 else 0) ≤ Config.prefetchCapacity ∧
  (fetchInProgress s r = true → 0 < ringPending g) ∧
  ((s.mport.fetchWaiting.get r).isSome → liveRead s r = none) ∧
  (∀ req, s.mport.fetchWaiting.get r = some req ∨ liveRead s r = some req →
    req.fetchCount = g.fetch ∧ req.slot = g.fetch.toNat % depthOf g.dir.depthCode ∧ req.addr = slotAddr g req.slot) ∧
  (g.phase = .idle → g.queue = [] ∧ ringPending g = 0)

/-- The law of every ring; in OFF and LOADING no fetch is in progress (R165). -/
def ringsLaw (s : State) : Prop :=
  (∀ r, ringLaw s r) ∧
  (s.control.part = .off ∨ s.control.part = .loading →
    ∀ r, (s.ring r).phase = .disabled ∧ fetchInProgress s r = false)

/-- How many of a ring's records stand on a channel, in the post queue or as the pending switch (R54, R66). -/
def located (s : State) (r : RingId) : Nat :=
  let onChannel := fun (ch : Channel) => match ch.context with
    | some x => if x.ring = r then 1 else 0
    | none => 0
  onChannel s.channels.c0 + onChannel s.channels.c1 + (s.writer.postQueue.filter fun e => decide (e.ring = r)).length +
    match s.map.pendingSwitch with
    | some w => if w.ring = r then 1 else 0
    | none => 0

/-- The in-flight count of a ring never exceeds 11; outside HALTED it counts exactly the ring's records that stand on a channel, in the
post queue or as the pending switch, and in HALTED no fewer (R54, R66, R153); STOPPED has none in flight, STOPPING has one (R69). -/
def inFlightLaw (s : State) : Prop :=
  quietWhenOff s ∧ (s.map.retiring.isSome = s.map.pendingSwitch.isSome) ∧
  ∀ r, (s.ring r).inFlight ≤ 11 ∧ located s r ≤ (s.ring r).inFlight ∧
    (s.control.part ≠ .halted → (s.ring r).inFlight = located s r) ∧
    ((s.ring r).phase = .stopped → (s.ring r).inFlight = 0) ∧
    ((s.ring r).phase = .stopping → 0 < (s.ring r).inFlight)

/-- A ring outside ACTIVE and FLUSHING reads wait reason NONE (R67); a fault cause stands in FAULTED and FLUSHING alone, and always in
FAULTED (R58, R70, R75). -/
def ringReportsLaw (s : State) : Prop :=
  ∀ r, ((s.ring r).phase ≠ .active → (s.ring r).phase ≠ .flushing → (s.ring r).wait = .none) ∧
    ((s.ring r).phase ≠ .faulted → (s.ring r).phase ≠ .flushing → (s.ring r).cause = .none) ∧
    ((s.ring r).phase = .faulted → (s.ring r).cause ≠ .none)

/-! ## Completion rings (R147, R148, R152) -/

/-- How many records hold a reservation of a completion ring: on a channel, in the post queue, as the pending switch, and as a FLUSHED
disposal that waits (R148). -/
def reservationsHeld (s : State) (c : CqId) : Nat :=
  let onChannel := fun (ch : Channel) => match ch.context with
    | some x => if (s.ring x.ring).dir.cq = c then 1 else 0
    | none => 0
  let waiting := fun (r : RingId) => if (s.ring r).disposalReserved = true ∧ (s.ring r).dir.cq = c then 1 else 0
  onChannel s.channels.c0 + onChannel s.channels.c1 + (s.writer.postQueue.filter fun e => decide (e.cq = c)).length +
    (match s.map.pendingSwitch with
     | some w => if (s.ring w.ring).dir.cq = c then 1 else 0
     | none => 0) +
    (waiting .sq0 + waiting .sq1 + waiting .sq2 + waiting .sq3)

/-- A completion ring never promises more slots than it has (R148), and every record that holds a reservation is counted. -/
def reservationLaw (s : State) : Prop :=
  quietWhenOff s ∧ (s.map.retiring.isSome = s.map.pendingSwitch.isSome) ∧
  ∀ c, (s.cq c).reservations + cqUsed (s.cq c) ≤ depthOf (s.cq c).depthCode ∧ reservationsHeld s c ≤ (s.cq c).reservations

/-- The phase holds 1 exactly when ⌊tail / depth⌋ is even (R152). -/
def phaseLaw (s : State) : Prop :=
  ∀ c, (s.cq c).phase = decide ((s.cq c).tail.toNat / depthOf (s.cq c).depthCode % 2 = 0)

/-- The post queue never holds more than its eight entries (R149). -/
def postQueueLaw (s : State) : Prop := s.writer.postQueue.length ≤ Config.postQueueCapacity

/-- Coalescing (R156, R157): the count of an enabled ring stays below its threshold; a timer runs only while the count is above 0, and
outside HALTED a count above 0 has its timer running. -/
def coalescingLaw (s : State) : Prop :=
  ∀ c, ((s.cq c).enabled = true → 1 ≤ (s.cq c).threshold.toNat ∧ (s.coalescer.cqs.get c).count < (s.cq c).threshold.toNat) ∧
    ((s.coalescer.cqs.get c).timer = true → 0 < (s.coalescer.cqs.get c).count) ∧
    (0 < (s.coalescer.cqs.get c).count → s.control.part ≠ .halted → (s.coalescer.cqs.get c).timer = true)

/-- At most one error waits for the Control Unit; outside HALTED no access ends while it waits, and in HALTED it is that of the last
access (R172, R173). So a completion write that counts is never one behind a failed one (R34). -/
def faultsLaw (s : State) : Prop :=
  s.mport.errors.length ≤ 1 ∧ (s.control.part = .halted → s.mport.errors ≠ [] → s.mport.inService = none)

/-! ## Hazards and wake-ups (R97, R81) -/

/-- No two entries of a ring's hazard list have a written extent of one overlapping a read or written extent of the other (R97). -/
def hazardLaw (s : State) : Prop :=
  ∀ r, (s.issue.hazards.get r).Pairwise fun h k => hazardWith k.reads k.writes h = false

/-- The key of a channel's transfer, if it is one of a ring (log entry 14). -/
def channelKey (r : RingId) (ch : Channel) : List Nat :=
  match ch.context with
  | some x => if x.ring = r then [x.key] else []
  | none => []

/-- The keys of a ring's transfers in flight: on the channels, and in the post queue (R97). -/
def transferKeys (s : State) (r : RingId) : List Nat :=
  channelKey r s.channels.c0 ++ channelKey r s.channels.c1 ++
    (s.writer.postQueue.filter fun e => decide (e.ring = r)).filterMap (·.transferKey)

/-- A hazard list entry is that of a channel's transfer: it has its key and its extents (R97, R48). -/
def listsContext (h : Hazard) (x : Context) : Prop :=
  h.key = x.key ∧ h.reads = planExtents x.kind x.extA x.extB x.extC false ∧
    h.writes = planExtents x.kind x.extA x.extB x.extC true

/-- Each transfer of a ring on a channel or in the post queue has its own entry in the ring's hazard list, and outside HALTED the list
has no other; it holds at most ten (R97). -/
def transfersListed (s : State) : Prop :=
  ∀ r,
    ((s.issue.hazards.get r).map (·.key)).Nodup ∧ (transferKeys s r).Nodup ∧
    (∀ h ∈ s.issue.hazards.get r, h.key < s.issue.nextKey) ∧
    (∀ k ∈ transferKeys s r, k ∈ (s.issue.hazards.get r).map (·.key)) ∧
    (s.control.part ≠ .halted → ((s.issue.hazards.get r).map (·.key)).Perm (transferKeys s r)) ∧
    (s.issue.hazards.get r).length ≤ 10 ∧
    ∀ c x, (s.channel c).context = some x → x.ring = r → ∃ h ∈ s.issue.hazards.get r, listsContext h x

/-- While the part is RUNNING and no examination is due, no head is eligible (R81). -/
def wakeLaw (s : State) : Prop :=
  s.control.part = .running → s.issue.due = false → ∀ r, (verdict s r).isEligible = false

/-! ## Beats (R2, R11, R104) -/

/-- A beat at a bank names a word that the bank has (R2). -/
def beatInside (b : Beat) : Prop := ∀ k, b.target = .bank k → b.offset < Config.bankCapacity k

/-- The step a context stands at is one of its transfer (R104, R106): there are elements left for it, and its number follows from the
direction and the elements done. -/
def stepInside (x : Context) : Prop :=
  x.elementsDone + stepElements x.kind ≤ x.count ∧ (x.kind = .pack ∨ x.kind = .unpack → x.count % 2 = 0) ∧
  match x.direction with
  | .ascending => x.nextStep * stepElements x.kind = x.elementsDone
  | .descending => x.kind = .copy ∧ x.nextStep + 1 + x.elementsDone = x.count

/-- The extents of a context lie below the capacities of their banks, and so do the beats its step in progress will request. -/
def contextInside (x : Context) : Prop :=
  (∀ n e len b, contextExtent x n = some e → extentLength x.kind x.count n = some len → e.phys.target = .bank b →
    e.phys.first + len ≤ Config.bankCapacity b) ∧
  ∀ run, x.step = some run → (∀ m ∈ run.later, beatInside m) ∧ (run.phase ≠ .earlyEnd → stepInside x)

/-- Every beat that a bank's arbiter holds, waiting or in service, names a word the bank has, and every beat to come will (R2, R7
condition 6, R11; log entry 23). -/
def beatsInside (s : State) : Prop :=
  (∀ c x, s.channel c = .running x → contextInside x) ∧
  ∀ k b, (s.arbiter (.bank k)).inService = some b ∨ b ∈ (s.arbiter (.bank k)).waitC0 ∨ b ∈ (s.arbiter (.bank k)).waitC1 →
    b.offset < Config.bankCapacity k

/-! ## The blocks after a reset (R175, R176) -/

/-- A command that resets the part. -/
def isReset (c : Instr) : Prop := c = .powerOnReset ∨ ∃ m, c = .softReset m

/-- What both resets leave of the blocks other than the Control Unit, the Map Unit and the memories (R55, R79, R80, R115, R137, R140,
R146, R147, R162); `s` is the state before, whose access in service at the M-port is abandoned (R64, R173). `nextKey` is the
model's own (log entry 14). -/
def blocksReset (s t : State) : Prop :=
  (∀ r, t.ring r =
    { dir := { base := 0, depthCode := 2, enabled := false, cls := .urgent, cq := .cq0, ordered := false, stopOnError := false }
      tail := 0, fetch := 0, queue := [], phase := .disabled, wait := .none, inFlight := 0, cause := .none, flushTarget := 0
      disposalReserved := false }) ∧
  t.ringManager.selected = .sq0 ∧ t.ringManager.postRejected = false ∧ t.ringManager.ringctlRefused = false ∧
  (∀ r, t.ringManager.ringsChanged.get r = false) ∧
  t.issue.urgentPtr = .sq0 ∧ t.issue.normalPtr = .sq0 ∧ (∀ r, t.issue.hazards.get r = []) ∧ t.issue.nextKey = 0 ∧
  (∀ c, t.channel c = .idle) ∧
  (∀ i, t.arbiter i = { inService := none, waitC0 := [], waitC1 := [], lastGranted := .c1 }) ∧
  (∀ d, t.ports.profiles.get d = none) ∧ t.ports.measuring = false ∧
  (∀ c, t.cq c =
    { base := 0, depthCode := 2, enabled := false, threshold := 1, holdoff := 0, tail := 0, head := 0, phase := true
      reservations := 0 }) ∧
  t.writer.postQueue = [] ∧ t.writer.ackInvalid = false ∧
  (∀ c, t.coalescer.cqs.get c = { count := 0, timer := false }) ∧
  t.coalescer.intstat = { cq0 := false, cq1 := false, event := false } ∧
  t.mport.inService = s.mport.inService.map (fun a => { a with fate := .abandoned }) ∧
  (∀ r, t.mport.fetchWaiting.get r = none) ∧ t.mport.setupWaiting = none ∧ t.mport.lastFetch = .sq3 ∧ t.mport.errors = []

/-! ## Takings (R96, R99, R100) -/

/-- A ring whose head has been taken: the head has left its queue, it reads wait reason NONE, one more record is in flight, and it is
IDLE when its queue is empty and nothing is pending. -/
def takenRing (g : Ring) : Ring :=
  { g with
    queue := g.queue.tail
    wait := .none
    inFlight := g.inFlight + 1
    phase := if g.queue.tail = [] ∧ g.tail = g.fetch then .idle else g.phase }

/-- What every taking of ring `r`'s head does, and what it leaves: the other rings change in their wait reasons alone, as the
examination found them (R84); a reservation is taken; the pointer of the ring's class moves to the ring after it (R82); another
examination follows (R81). The Map Unit, the hazard lists with the next key, the post queue and the channels are not
named here. -/
def takingOf (s t : State) (r : RingId) : Prop :=
  let g := s.ring r
  let q := s.cq g.dir.cq
  (∀ r', r' ≠ r →
    t.ring r' = if (s.ring r').phase = .active then { s.ring r' with wait := (verdict s r').reason } else s.ring r') ∧
  t.ringManager = { s.ringManager with rings := t.ringManager.rings } ∧
  t.writer.cqs = s.writer.cqs.set g.dir.cq { q with reservations := q.reservations + 1 } ∧
  t.writer.ackInvalid = s.writer.ackInvalid ∧
  t.issue.due = true ∧
  t.issue.urgentPtr = (if g.dir.cls = .urgent then RingId.next r else s.issue.urgentPtr) ∧
  t.issue.normalPtr = (if g.dir.cls = .normal then RingId.next r else s.issue.normalPtr) ∧
  t.control = s.control ∧ t.ports = s.ports ∧ t.banks = s.banks ∧ t.coalescer = s.coalescer ∧ t.mport = s.mport ∧
  t.mailbox = s.mailbox ∧ t.freeIndex = s.freeIndex ∧ t.pending = s.pending

/-! ## Entries and channels -/

/-- The fields of a channel context that no event of the run changes (R102). -/
def sameTransfer (x y : Context) : Prop :=
  y.ring = x.ring ∧ y.slot = x.slot ∧ y.tag = x.tag ∧ y.kind = x.kind ∧ y.pad = x.pad ∧ y.pattern = x.pattern ∧
  y.strict = x.strict ∧ y.highonly = x.highonly ∧ y.generation = x.generation ∧ y.extA = x.extA ∧ y.extB = x.extB ∧
  y.extC = x.extC ∧ y.count = x.count ∧ y.direction = x.direction

end Sys2Proof.Machine
end

