-- ==== Sys2Proof/WellFormed.lean ====
section
/-! DEFINITION. Which terms of `Instr` are commands of the table: the codes an unknown-command row covers (R54), and outside writes
to words of the granting bank that exist (R2). -/

namespace Sys2Proof

/-- An outside write names a word of the bank, and fits the bank's width (R2). -/
def OutsideWrite.wf (b : BankId) (w : OutsideWrite) : Bool :=
  decide (w.offset < Config.bankCapacity b) && decide (w.value.toNat < 2 ^ Config.bankBits b)

/-- The command is one the table has. -/
def Instr.wf : Instr → Bool
  | .controlUnknownCommand code _ => decide (6 ≤ code.toNat)
  | .ringctlUnknownCommand code _ => decide (5 ≤ code.toNat)
  | .beatGrant (.bank b) outside => outside.all (OutsideWrite.wf b)
  | .beatGrant .xPort outside => outside.isEmpty
  | .powerOnReset | .enable _ | .quiesce _ | .abort _ | .resume _ | .softReset _ | .controlMaskWrite _ | .select _ | .stop _
  | .ringResume _ | .flush _ | .ringReset _ | .post _ _ | .ack _ _ | .setupWrite _ | .statusWrite _ | .intstatWrite _
  | .fetchRequest _ | .mPortGrant | .fetchComplete _ _ | .setupLoadEnd _ _ | .mailboxFault | .examination | .beatEnd _
  | .ready _ _ | .readyTimeout | .handOff _ | .flushDisposal _ | .completionWrite _ | .holdoffExpiry _ => true

end Sys2Proof
end

