-- ==== Sys2Proof/Certificates/Slice0/Obligations.lean ====
section
/-! DEFINITION. The statements for the provers. -/

open Sys2Proof Sys2Proof.Machine

/-! ## The queue and the commands as a whole -/

/-- The model's queue (log entries 1 and 20): a step runs the command at the front on the state with the queue's rest; on an empty
queue the part idles. -/
def Obligations.StepRunsFrontCommand : Prop :=
  (∀ (c : Instr) (rest : List Instr) (s : State), s.pending = c :: rest → step s = exec c { s with pending := rest }) ∧
  ∀ s : State, s.pending = [] → step s = .next s

/-- Every command answers a next state, with the queue as it was (log entry 20), but for BEAT_GRANT with an outside write to a word
that its bank does not have, and BEAT_END of a beat beyond its bank (R2; log entry 23). -/
def Obligations.OnlyAbsentWordsFault : Prop :=
  ∀ (c : Instr) (s : State),
    (∃ t, exec c s = .next t ∧ t.pending = s.pending) ∨
    (exec c s = .fault .noSuchWord ∧
      ((∃ b ws, c = .beatGrant (.bank b) ws ∧ (s.arbiter (.bank b)).inService = none ∧
          ∃ w ∈ ws, Config.bankCapacity b ≤ w.offset) ∨
        ∃ b beat, c = .beatEnd b ∧ (s.arbiter (.bank b)).inService = some beat ∧ Config.bankCapacity b ≤ beat.offset))

/-- Section 3.7: the register write that gives a command is read as that command, with every operand at every value its field holds;
and every word written to a register is a command of the table. -/
def Obligations.RegisterWritesDecode : Prop :=
  (∀ (i : Instr) (r : Register) (w : Word32),
    i.wf = true → encodeRegisterWrite i = some (r, w) → decodeRegisterWrite r w = i) ∧
  ∀ (r : Register) (w : Word32), (decodeRegisterWrite r w).wf = true

/-- Section 3.2: a request record's fields are read from its eight words as they were laid down, and the bits the layout marks ignored
change no field (R41): two lists of eight words that agree outside those bits give one record. Section 3.6, R53: the fields of a setup
block are read from the bits of its twelve words that the layout gives them, and from no others. R41: the words the part reads from
mailbox memory are those at byte offsets 0, 4, 8, and so on, and bits 7-0 of a word are the byte at its lowest address. -/
def Obligations.RecordWordsDecode : Prop :=
  (∀ r : Record, Record.ofWords r.toWords = r) ∧
  (∀ w v : Vector Word32 8,
    (w[0] = v[0] ∧ w[1] &&& 0xFF01FFFF#32 = v[1] &&& 0xFF01FFFF#32 ∧ w[2] &&& 0xFFFFFF#32 = v[2] &&& 0xFFFFFF#32 ∧
      w[3] &&& 0xFFFFFF#32 = v[3] &&& 0xFFFFFF#32 ∧ w[4] &&& 0xFFFFFF#32 = v[4] &&& 0xFFFFFF#32 ∧
      w[5] &&& 0xFFFFFF#32 = v[5] &&& 0xFFFFFF#32 ∧ w[6] &&& 0x3FF1F#32 = v[6] &&& 0x3FF1F#32) →
    Record.ofWords w.toList = Record.ofWords v.toList) ∧
  (∀ (m : MailboxMemory) (a : MailboxAddr),
    (∀ n, mailboxWords m a n = (List.range n).map fun i => mailboxWord m (a + BitVec.ofNat 16 (4 * i))) ∧
    ∀ n : Fin 4, (mailboxWord m a).extractLsb' (8 * n.val) 8 = mailboxByte m (a + BitVec.ofNat 16 n.val)) ∧
  ∀ w : Vector Word32 12,
    let b := SetupBlock.ofWords w.toList
    let bit : Word32 → Nat → Bool := fun v n => decide (v.toNat / 2 ^ n % 2 = 1)
    b.format = w[0] ∧
    (∀ r : RingId,
      let v := match r with
        | .sq0 => w[1]
        | .sq1 => w[2]
        | .sq2 => w[3]
        | .sq3 => w[4]
      let d := b.rings.get r
      d.base.toNat = v.toNat % 65536 ∧ d.depthCode.toNat = v.toNat / 65536 % 16 ∧ d.enabled = bit v 20 ∧
        (d.cls = .normal ↔ bit v 21 = true) ∧ (d.cq = .cq1 ↔ bit v 22 = true) ∧ d.ordered = bit v 23 ∧
        d.stopOnError = bit v 24) ∧
    (∀ c : CqId,
      let v := match c with
        | .cq0 => w[5]
        | .cq1 => w[7]
      let u := match c with
        | .cq0 => w[6]
        | .cq1 => w[8]
      let q := b.cqs.get c
      q.base.toNat = v.toNat % 65536 ∧ q.depthCode.toNat = v.toNat / 65536 % 16 ∧ q.enabled = bit v 20 ∧
        q.threshold.toNat = u.toNat % 64 ∧ q.holdoff.toNat = u.toNat / 65536 % 2048) ∧
    ∀ d : DeviceId,
      let v := match d with
        | .x0 => w[9]
        | .x1 => w[10]
        | .x2 => w[11]
      let f := b.devices.get d
      f.present = bit v 0 ∧ (f.profile.width = .w24 ↔ bit v 1 = true) ∧ f.profile.sizeCode.toNat = v.toNat / 16 % 32 ∧
        f.profile.writable = bit v 9 ∧ f.profile.timeout.toNat = v.toNat / 65536 % 256

/-! ## Resets and the Control Unit (chapter 10) -/

/-- R175, R176, R163, R164, R39, R40: both resets, in every part state, put every block in its reset state. SOFT_RESET keeps SETUP,
the current table and G, copies the current table into the staged one and applies the write's mask bits last; POWER_ON_RESET clears
them all, with every window disabled and unlocked and every field zero. -/
def Obligations.ResetStates : Prop :=
  ∀ (m : Sources) (s : State),
    (∃ t, exec .powerOnReset s = .next t ∧
      t.control =
        { part := .off, setupAddr := 0, mask := { cq0 := false, cq1 := false, event := false }, setupError := .none
          faultRecord := { kind := .none, addr := 0 }, moreFaults := false, refused := false } ∧
      (∀ i, entryAt t.map.current i =
        { enabled := false, logicalBase := 0, sizeCode := 0, target := .bank .d0, targetBase := 0, wp := false
          lock := false }) ∧
      t.map.staged = t.map.current ∧ t.map.generation = 0 ∧ t.map.bound = 0 ∧ t.map.retiring = none ∧
      t.map.pendingSwitch = none ∧ blocksReset s t) ∧
    (∃ t, exec (.softReset m) s = .next t ∧
      t.control =
        { part := .off, setupAddr := s.control.setupAddr, mask := m, setupError := .none
          faultRecord := { kind := .none, addr := 0 }, moreFaults := false, refused := false } ∧
      t.map.current = s.map.current ∧ t.map.staged = s.map.current ∧ t.map.generation = s.map.generation ∧ t.map.bound = 0 ∧
      t.map.retiring = none ∧ t.map.pendingSwitch = none ∧ blocksReset s t)

/-- R115, R137, R162: what a reset can leave in the memories. A bank word differs only where a write beat was in service, and then
holds its value; mailbox memory differs only in the slot of a completion write in service, at base + 16 × (tail mod depth), whose words
each hold the old value or the new one, w0 the new one only if w1 to w3 do. That write is of the first entry behind those whose write
has failed (log entry 31). Which of these it is rests on a free value (log entries 8 and 9). That every other word
survives, POWER_ON_RESET too, is the model's reading (log entry 10). -/
def Obligations.ResetLeavesMemories : Prop :=
  ∀ (c : Instr) (s : State), isReset c → memoriesWf s = true → ∃ t, exec c s = .next t ∧
    (∀ b o, bankWord (t.banks.get b) o = bankWord (s.banks.get b) o ∨
      ∃ beat, (s.arbiter (.bank b)).inService = some beat ∧ beat.isWrite = true ∧ beat.offset = o ∧
        bankWord (t.banks.get b) o = some ⟨beat.value, true⟩) ∧
    (∀ lost e rest, s.mport.inService = some ⟨.completionWrite, .live⟩ → s.writer.postQueue = lost ++ e :: rest →
      lost.length = (s.mport.errors.filter fun f => decide (f.kind = .postWrite)).length →
      let q := s.cq e.cq
      let at_ := q.base + BitVec.ofNat 16 (16 * (q.tail.toNat % 2 ^ q.depthCode.toNat))
      let new := e.words (s.cq e.cq).phase
      (∀ a : MailboxAddr, (∀ k : Nat, k < 16 → a ≠ at_ + BitVec.ofNat 16 k) → mailboxByte t.mailbox a = mailboxByte s.mailbox a) ∧
      (∀ i : Fin 4, mailboxWord t.mailbox (at_ + BitVec.ofNat 16 (4 * i.val)) =
          mailboxWord s.mailbox (at_ + BitVec.ofNat 16 (4 * i.val)) ∨
        mailboxWord t.mailbox (at_ + BitVec.ofNat 16 (4 * i.val)) = new[i]) ∧
      (mailboxWord t.mailbox at_ ≠ mailboxWord s.mailbox at_ →
        ∀ i : Fin 4, mailboxWord t.mailbox (at_ + BitVec.ofNat 16 (4 * i.val)) = new[i])) ∧
    ((s.mport.inService ≠ some ⟨.completionWrite, .live⟩ ∨
        s.writer.postQueue.length ≤ (s.mport.errors.filter fun f => decide (f.kind = .postWrite)).length) → t.mailbox = s.mailbox)

/-- R165: ENABLE in OFF enters LOADING with setup error NONE and requests the block's read from the address SETUP holds, when that is
FFD0h or less; above it the load ends at once in OFF with BAD_PLACEMENT and EVENT (R159, R168). R169, R170, R112: QUIESCE in RUNNING,
and ABORT in RUNNING and QUIESCING, begin the drain; ABORT sets the pending abort flag of each RUNNING channel and touches no other;
with both channels IDLE and no switch pending the part is QUIESCED in the same step, with EVENT set. R54, R164, R171: every write to
CONTROL first replaces the mask. With command 0 it does nothing else; RESUME in QUIESCED enters RUNNING, which leads to an
examination; a command that the part state does not take, and an unknown code, sets CONTROL_REFUSED alone. -/
def Obligations.ControlCommandsTaken : Prop :=
  ((∀ (m : Sources) (s : State), s.control.part = .off →
    (s.control.setupAddr.toNat ≤ 0xFFD0 →
      exec (.enable m) s = .next
        { s with
          control := { s.control with part := .loading, setupError := .none, mask := m }
          mport := { s.mport with setupWaiting := some s.control.setupAddr } }) ∧
    (0xFFD0 < s.control.setupAddr.toNat →
      exec (.enable m) s = .next
        { s with
          control := { s.control with part := .off, setupError := .badPlacement, mask := m }
          coalescer := { s.coalescer with intstat := { s.coalescer.intstat with event := true } } })) ∧
  (∀ (m : Sources) (s : State),
    let drained := s.channel .c0 = .idle ∧ s.channel .c1 = .idle ∧ s.map.pendingSwitch = none
    let flag : Channel → Channel := fun ch => match ch with
      | .running x => .running { x with pendingAbort := true }
      | .ending x => .ending x
      | .idle => .idle
    let quiesced : State :=
      { s with
        control := { s.control with part := .quiesced, mask := m }
        coalescer := { s.coalescer with intstat := { s.coalescer.intstat with event := true } } }
    (s.control.part = .running →
      (drained → exec (.quiesce m) s = .next quiesced) ∧
      (¬drained → exec (.quiesce m) s = .next { s with control := { s.control with part := .quiescing, mask := m } })) ∧
    (s.control.part = .running ∨ s.control.part = .quiescing →
      (drained → exec (.abort m) s = .next quiesced) ∧
      (¬drained → exec (.abort m) s = .next
        { s with
          control := { s.control with part := .aborting, mask := m }
          channels := ⟨flag (s.channel .c0), flag (s.channel .c1)⟩ })))) ∧
  (∀ (c : Instr) (m : Sources) (s : State),
    exec (.controlMaskWrite m) s = .next { s with control := { s.control with mask := m } } ∧
    (s.control.part = .quiesced →
      exec (.resume m) s = .next
        { s with control := { s.control with part := .running, mask := m }, issue := { s.issue with due := true } }) ∧
    (((c = .enable m ∧ s.control.part ≠ .off) ∨ (c = .quiesce m ∧ s.control.part ≠ .running) ∨
        (c = .abort m ∧ s.control.part ≠ .running ∧ s.control.part ≠ .quiescing) ∨
        (c = .resume m ∧ s.control.part ≠ .quiesced) ∨ ∃ k, c = .controlUnknownCommand k m) →
      exec c s = .next { s with control := { s.control with mask := m, refused := true } }))

/-- Chapter 10: the part state changes by these events alone, and along these transitions alone. -/
def Obligations.PartStateTransitions : Prop :=
  ∀ (c : Instr) (s t : State), exec c s = .next t → t.control.part ≠ s.control.part →
    (isReset c ∧ t.control.part = .off) ∨
    ((∃ m, c = .enable m) ∧ s.control.part = .off ∧ t.control.part = .loading) ∨
    ((∃ h ok, c = .setupLoadEnd h ok) ∧ s.control.part = .loading ∧ (t.control.part = .off ∨ t.control.part = .running)) ∨
    ((∃ m, c = .quiesce m) ∧ s.control.part = .running ∧ (t.control.part = .quiescing ∨ t.control.part = .quiesced)) ∨
    ((∃ m, c = .abort m) ∧ (s.control.part = .running ∨ s.control.part = .quiescing) ∧
      (t.control.part = .aborting ∨ t.control.part = .quiesced)) ∨
    ((∃ ch, c = .handOff ch) ∧ (s.control.part = .quiescing ∨ s.control.part = .aborting) ∧ t.control.part = .quiesced) ∨
    ((∃ m, c = .resume m) ∧ s.control.part = .quiesced ∧ t.control.part = .running) ∨
    (c = .mailboxFault ∧ s.mport.errors ≠ [] ∧ t.control.part = .halted)

/-! ## Submission rings (chapter 4) -/

/-- R67, R72, R54: SELECT makes the named ring the selected ring, in every state. STOP, RESUME, FLUSH and RESET that the ring's state
does not take, or written in HALTED, are dropped: the ring is selected, RINGCTL_REFUSED is set, and nothing else changes. An unknown
code sets RINGCTL_REFUSED and selects nothing. -/
def Obligations.RingSelectAndRefusals : Prop :=
  ∀ (c : Instr) (k : BitVec 3) (r : RingId) (s : State),
    exec (.select r) s = .next { s with ringManager := { s.ringManager with selected := r } } ∧
    exec (.ringctlUnknownCommand k r) s = .next { s with ringManager := { s.ringManager with ringctlRefused := true } } ∧
    ((s.control.part = .halted ∧ (c = .stop r ∨ c = .ringResume r ∨ c = .flush r ∨ c = .ringReset r) ∨
        (c = .stop r ∧ (s.ring r).phase ≠ .idle ∧ (s.ring r).phase ≠ .active) ∨
        (c = .ringResume r ∧ (s.ring r).phase ≠ .stopped) ∨
        (c = .flush r ∧ (s.ring r).phase ≠ .stopped ∧ ((s.ring r).phase ≠ .faulted ∨ (s.ring r).inFlight ≠ 0)) ∨
        (c = .ringReset r ∧
          (((s.ring r).phase ≠ .stopped ∧ (s.ring r).phase ≠ .faulted) ∨ (s.ring r).inFlight ≠ 0))) →
      exec c s = .next { s with ringManager := { s.ringManager with selected := r, ringctlRefused := true } })

/-- R68, R70, R78: STOP from IDLE and ACTIVE: STOPPING with records in flight; with none STOPPED at once, and then rings-changed bit r
and EVENT are set. RESUME from STOPPED: ACTIVE, which leads to an examination, when a record is queued or pending; IDLE otherwise. The
ring is selected, and nothing else changes. R71: RINGCTL RESET from STOPPED and FAULTED with in-flight 0: counts 0, queue empty, fault
cause NONE, IDLE; a fetch not yet granted is withdrawn, a read in service is left to end with its record discarded. Flush target,
directory and all else are kept. -/
def Obligations.StopResumeAndReset : Prop :=
  (∀ (r : RingId) (s : State), s.control.part ≠ .halted →
    let g := s.ring r
    let withRing : Ring → RingManager := fun g' =>
      { s.ringManager with selected := r, rings := s.ringManager.rings.set r g' }
    ((g.phase = .idle ∨ g.phase = .active) → g.inFlight ≠ 0 →
      exec (.stop r) s = .next { s with ringManager := withRing { g with phase := .stopping, wait := .none } }) ∧
    ((g.phase = .idle ∨ g.phase = .active) → g.inFlight = 0 →
      exec (.stop r) s = .next
        { s with
          ringManager :=
            { withRing { g with phase := .stopped, wait := .none } with
              ringsChanged := s.ringManager.ringsChanged.set r true }
          coalescer := { s.coalescer with intstat := { s.coalescer.intstat with event := true } } }) ∧
    (g.phase = .stopped → (g.queue ≠ [] ∨ g.tail ≠ g.fetch) →
      exec (.ringResume r) s = .next
        { s with ringManager := withRing { g with phase := .active, wait := .none }, issue := { s.issue with due := true } }) ∧
    (g.phase = .stopped → g.queue = [] → g.tail = g.fetch →
      exec (.ringResume r) s = .next { s with ringManager := withRing { g with phase := .idle, wait := .none } })) ∧
  (∀ (r : RingId) (s : State), s.control.part ≠ .halted → ((s.ring r).phase = .stopped ∨ (s.ring r).phase = .faulted) →
    (s.ring r).inFlight = 0 →
    ∃ port, exec (.ringReset r) s = .next
        { s with
          ringManager :=
            { s.ringManager with
              selected := r
              rings := s.ringManager.rings.set r
                { s.ring r with tail := 0, fetch := 0, queue := [], cause := .none, phase := .idle, wait := .none } }
          mport := { s.mport with inService := port, fetchWaiting := s.mport.fetchWaiting.set r none } } ∧
      (∀ req, s.mport.inService = some ⟨.fetch r req, .live⟩ → port = some ⟨.fetch r req, .discarded⟩) ∧
      ((∀ req, s.mport.inService ≠ some ⟨.fetch r req, .live⟩) → port = s.mport.inService))

/-- R73, R75: FLUSH from STOPPED, and from FAULTED with in-flight 0: FLUSHING toward the tail as it stands, with wait reason
COMPLETION when the head finds no room for its reservation (log entry 13); with nothing queued or pending the flush ends at once in
STOPPED with fault cause NONE, reported as R75 says (log entry 18). -/
def Obligations.FlushBeginsOrEnds : Prop :=
  ∀ (r : RingId) (s : State), s.control.part ≠ .halted →
    ((s.ring r).phase = .stopped ∨ ((s.ring r).phase = .faulted ∧ (s.ring r).inFlight = 0)) →
    let q := s.cq (s.ring r).dir.cq
    let full := q.reservations + (q.tail - q.head).toNat ≥ 2 ^ q.depthCode.toNat
    (((s.ring r).queue ≠ [] ∨ (s.ring r).fetch ≠ (s.ring r).tail) →
      exec (.flush r) s = .next
        { s with
          ringManager :=
            { s.ringManager with
              selected := r
              rings := s.ringManager.rings.set r
                { s.ring r with
                  phase := .flushing, flushTarget := (s.ring r).tail
                  wait := if (s.ring r).queue ≠ [] ∧ (s.ring r).disposalReserved = false ∧ full then .completion else .none } } }) ∧
    ((s.ring r).queue = [] → (s.ring r).fetch = (s.ring r).tail →
      exec (.flush r) s = .next
        { s with
          ringManager :=
            { s.ringManager with
              selected := r
              rings := s.ringManager.rings.set r
                { s.ring r with phase := .stopped, wait := .none, flushTarget := (s.ring r).tail, cause := .none }
              ringsChanged := s.ringManager.ringsChanged.set r true }
          coalescer := { s.coalescer with intstat := { s.coalescer.intstat with event := true } } })

/-- R57, R60: a POST in OFF, LOADING or HALTED, or to a DISABLED ring, is dropped and sets POST_REJECTED. One that neither overruns
nor retracts is applied: the tail count becomes t, and an IDLE ring with a record now pending enters ACTIVE, which leads to an
examination; every other ring state is unchanged. R58, R59, R76: a POST that overruns, or that retracts, is not applied. A FAULTED
ring keeps its state and cause, with no new report. Any other ring enters FAULTED with the cause, rings-changed bit r and EVENT set,
and a waiting disposal that had taken its reservation gives it back, which leads to an examination. Nothing else changes. -/
def Obligations.PostAppliedDroppedOrFaults : Prop :=
  (∀ (r : RingId) (t : Count) (s : State),
    let g := s.ring r
    let dropped := s.control.part = .off ∨ s.control.part = .loading ∨ s.control.part = .halted ∨ g.phase = .disabled
    let fits := (t - g.fetch).toNat ≤ 2 ^ g.dir.depthCode.toNat ∧ (g.tail - g.fetch).toNat ≤ (t - g.fetch).toNat
    (dropped → exec (.post r t) s = .next { s with ringManager := { s.ringManager with postRejected := true } }) ∧
    (¬dropped → fits → g.phase = .idle → t ≠ g.fetch →
      exec (.post r t) s = .next
        { s with
          ringManager :=
            { s.ringManager with
              rings := s.ringManager.rings.set r { g with tail := t, phase := .active, wait := .none } }
          issue := { s.issue with due := true } }) ∧
    (¬dropped → fits → (g.phase ≠ .idle ∨ t = g.fetch) →
      exec (.post r t) s = .next
        { s with ringManager := { s.ringManager with rings := s.ringManager.rings.set r { g with tail := t } } })) ∧
  (∀ (r : RingId) (t : Count) (cause : FaultCause) (s : State),
    s.control.part ≠ .off → s.control.part ≠ .loading → s.control.part ≠ .halted → (s.ring r).phase ≠ .disabled →
    ((2 ^ (s.ring r).dir.depthCode.toNat < (t - (s.ring r).fetch).toNat ∧ cause = .overrun) ∨
      ((t - (s.ring r).fetch).toNat ≤ 2 ^ (s.ring r).dir.depthCode.toNat ∧
        (t - (s.ring r).fetch).toNat < ((s.ring r).tail - (s.ring r).fetch).toNat ∧ cause = .retract)) →
    let q := s.cq (s.ring r).dir.cq
    let faulted : RingManager :=
      { s.ringManager with
        rings := s.ringManager.rings.set r
          { s.ring r with phase := .faulted, wait := .none, cause := cause, disposalReserved := false }
        ringsChanged := s.ringManager.ringsChanged.set r true }
    let signalled : Coalescer := { s.coalescer with intstat := { s.coalescer.intstat with event := true } }
    ((s.ring r).phase = .faulted → exec (.post r t) s = .next s) ∧
    ((s.ring r).phase ≠ .faulted → (s.ring r).disposalReserved = false →
      exec (.post r t) s = .next { s with ringManager := faulted, coalescer := signalled }) ∧
    ((s.ring r).phase ≠ .faulted → (s.ring r).disposalReserved = true →
      exec (.post r t) s = .next
        { s with
          ringManager := faulted
          coalescer := signalled
          writer :=
            { s.writer with cqs := s.writer.cqs.set (s.ring r).dir.cq { q with reservations := q.reservations - 1 } }
          issue := { s.issue with due := true } }))

/-- R74, R76: the disposal of a FLUSHING ring's head outside HALTED. Without a reservation and without room it waits with COMPLETION;
with a reservation, held or taken now, and a free post queue entry, the head leaves with a FLUSHED entry and the ring's in-flight
count rises; with a full post queue the reservation is held and the ring reads NONE. The completion ring, the post queue and this ring
change as said, and nothing else does. With no head of a FLUSHING ring, or in HALTED, nothing is disposed of (log entry 2). -/
def Obligations.FlushDisposalDisposes : Prop :=
  (∀ (r : RingId) (s : State), s.control.part = .halted ∨ (s.ring r).phase ≠ .flushing ∨ (s.ring r).queue = [] →
    exec (.flushDisposal r) s = .next s) ∧
  ∀ (r : RingId) (p : Prefetched) (rest : List Prefetched) (s : State),
    s.control.part ≠ .halted → (s.ring r).phase = .flushing → (s.ring r).queue = p :: rest →
    let g := s.ring r
    let q := s.cq g.dir.cq
    let room := q.reservations + (q.tail - q.head).toNat < 2 ^ q.depthCode.toNat
    let held : CompletionRing := if g.disposalReserved then q else { q with reservations := q.reservations + 1 }
    let entry : Completion :=
      { tag := p.record.tag, status := .flushed, ring := r, slot := p.slot, elementsDone := 0, generation := s.map.generation
        detail := .none, direction := .ascending, conflictBeats := 0, cq := g.dir.cq, transferKey := none }
    (g.disposalReserved = false → ¬room →
      exec (.flushDisposal r) s = .next
        { s with
          ringManager := { s.ringManager with rings := s.ringManager.rings.set r { g with wait := .completion } } }) ∧
    ((g.disposalReserved = true ∨ room) → s.writer.postQueue.length < 8 →
      ∃ w, exec (.flushDisposal r) s = .next
        { s with
          ringManager :=
            { s.ringManager with
              rings := s.ringManager.rings.set r
                { g with queue := rest, inFlight := g.inFlight + 1, disposalReserved := false, wait := w } }
          writer := { s.writer with cqs := s.writer.cqs.set g.dir.cq held, postQueue := s.writer.postQueue ++ [entry] } } ∧
        (w = .completion ↔ rest ≠ [] ∧ ¬(held.reservations + (q.tail - q.head).toNat < 2 ^ q.depthCode.toNat)) ∧
        (w = .completion ∨ w = .none)) ∧
    ((g.disposalReserved = true ∨ room) → 8 ≤ s.writer.postQueue.length →
      exec (.flushDisposal r) s = .next
        { s with
          ringManager :=
            { s.ringManager with rings := s.ringManager.rings.set r { g with disposalReserved := true, wait := .none } }
          writer := { s.writer with cqs := s.writer.cqs.set g.dir.cq held } })

/-! ## The registers (sections 3.7, 9.6, 9.8) -/

/-- R155: an ACK outside OFF, LOADING and HALTED, to an enabled completion ring, naming no more records than are written and not
handed back, sets the head count and leads to an examination; any other ACK is dropped with ACK_INVALID. -/
def Obligations.AckFreesRoomOrIsDropped : Prop :=
  ∀ (c : CqId) (h : Count) (s : State),
    let q := s.cq c
    let taken := s.control.part ≠ .off ∧ s.control.part ≠ .loading ∧ s.control.part ≠ .halted ∧ q.enabled = true ∧
      (h - q.head).toNat ≤ (q.tail - q.head).toNat
    (taken →
      exec (.ack c h) s = .next
        { s with
          writer := { s.writer with cqs := s.writer.cqs.set c { q with head := h } }
          issue := { s.issue with due := true } }) ∧
    (¬taken → exec (.ack c h) s = .next { s with writer := { s.writer with ackInvalid := true } })

/-- R54, R158, R160, R41: SETUP keeps bits 15 to 4 of the word written. A write to STATUS clears bits 15 to 8 where it writes 1 and
leaves the other bits; a write to INTSTAT clears the sources where it writes 1. The registers read so afterwards, and nothing else
changes. The interrupt line is asserted while a source set in INTSTAT has its mask bit, eight places higher, set in CONTROL. -/
def Obligations.RegisterWritesTakeEffect : Prop :=
  ∀ (a : MailboxAddr) (w : Word32) (s : State),
    (∃ t, exec (.setupWrite a) s = .next t ∧ readRegister t .setup = (0 : BitVec 16) ++ (a &&& 0xFFF0#16) ∧
      t = { s with control := { s.control with setupAddr := t.control.setupAddr } }) ∧
    (∃ t, exec (.statusWrite w) s = .next t ∧
      readRegister t .status = readRegister s .status &&& ~~~(w &&& 0xFF00#32) ∧
      t = { s with
            control := { s.control with refused := t.control.refused }
            ringManager :=
              { s.ringManager with
                postRejected := t.ringManager.postRejected, ringctlRefused := t.ringManager.ringctlRefused
                ringsChanged := t.ringManager.ringsChanged }
            writer := { s.writer with ackInvalid := t.writer.ackInvalid } }) ∧
    (∃ t, exec (.intstatWrite w) s = .next t ∧ readRegister t .intstat = readRegister s .intstat &&& ~~~w ∧
      t = { s with coalescer := { s.coalescer with intstat := t.coalescer.intstat } }) ∧
    (interruptLine s = true ↔ readRegister s .intstat &&& (readRegister s .control >>> 8) ≠ 0)

/-- Section 3.7, R54, R67: the registers as the host reads them: STATUS with the part state, setup error, flags, rings-changed bits,
fault kind, more-faults and fault address; RINGCTL with the selected ring's fetch count, state, wait reason, fault cause, prefetched
count and in-flight count, whole while these are at most 4 and 11 (RingLawsKept, InFlightLawKept); CONTROL with the mask alone, SETUP,
INTSTAT, and POST and ACK as zero. A read is a function of the state (log entry 22). -/
def Obligations.RegistersReadTheState : Prop :=
  ∀ s : State,
    let g := s.ring s.ringManager.selected
    let c := s.control
    let status := (readRegister s .status).toNat
    let ringctl := (readRegister s .ringctl).toNat
    let bit : Nat → Nat → Bool := fun v n => decide (v / 2 ^ n % 2 = 1)
    (status % 8 =
        (match c.part with
        | .off => 0
        | .loading => 1
        | .running => 2
        | .quiescing => 3
        | .quiesced => 4
        | .aborting => 5
        | .halted => 6) ∧
      status / 8 % 2 = 0 ∧
      status / 16 % 16 =
        (match c.setupError with
        | .none => 0
        | .badFormat => 1
        | .badPlacement => 2
        | .ringOverlap => 3
        | .badDepth => 4
        | .cqMissing => 5
        | .badCoalesce => 6
        | .badDevice => 7
        | .mapConflict => 8) ∧
      bit status 8 = s.ringManager.postRejected ∧ bit status 9 = s.ringManager.ringctlRefused ∧
      bit status 10 = s.writer.ackInvalid ∧ bit status 11 = c.refused ∧
      bit status 12 = s.ringManager.ringsChanged.get .sq0 ∧ bit status 13 = s.ringManager.ringsChanged.get .sq1 ∧
      bit status 14 = s.ringManager.ringsChanged.get .sq2 ∧ bit status 15 = s.ringManager.ringsChanged.get .sq3 ∧
      status / 2 ^ 16 % 4 =
        (match c.faultRecord.kind with
        | .none => 0
        | .fetchRead => 1
        | .postWrite => 2
        | .setupRead => 3) ∧
      bit status 18 = c.moreFaults ∧ bit status 19 = false ∧ status / 2 ^ 20 = c.faultRecord.addr.toNat / 16) ∧
    (g.queue.length ≤ 4 → g.inFlight ≤ 11 →
      ringctl % 65536 = g.fetch.toNat ∧
      ringctl / 2 ^ 16 % 8 =
        (match g.phase with
        | .disabled => 0
        | .idle => 1
        | .active => 2
        | .stopping => 3
        | .stopped => 4
        | .flushing => 5
        | .faulted => 6) ∧
      ringctl / 2 ^ 19 % 8 =
        (match g.wait with
        | .none => 0
        | .part => 1
        | .order => 2
        | .completion => 3
        | .channel => 4
        | .hazard => 5
        | .mapDrain => 6) ∧
      ringctl / 2 ^ 22 % 4 =
        (match g.cause with
        | .none => 0
        | .overrun => 1
        | .retract => 2) ∧
      ringctl / 2 ^ 24 % 8 = g.queue.length ∧ ringctl / 2 ^ 27 = g.inFlight) ∧
    (readRegister s .control).toNat =
      (if c.mask.cq0 then 2 ^ 8 else 0) + (if c.mask.cq1 then 2 ^ 9 else 0) + (if c.mask.event then 2 ^ 10 else 0) ∧
    (readRegister s .setup).toNat = c.setupAddr.toNat ∧
    (readRegister s .intstat).toNat =
      (if s.coalescer.intstat.cq0 then 1 else 0) + (if s.coalescer.intstat.cq1 then 2 else 0) +
        (if s.coalescer.intstat.event then 4 else 0) ∧
    readRegister s .post = 0 ∧ readRegister s .ack = 0

/-! ## The M-port (sections 4.5, 9.4, 10.5) -/

/-- R62, R71: a fetch is requested under the conditions of R62, once a read that a ring RESET left in service has ended: it waits for
the slot that the fetch count names, at base + 32 × slot (R56, R41). Otherwise nothing changes (log entry 2). R64: the free M-port,
outside HALTED, grants a waiting completion write first (one waits while the post queue holds an entry behind those whose write has
failed, which keep their places until their faults are taken: R150, R172; log entry 31), then the first waiting fetch from the ring after the one last granted, then the setup load; with none waiting, busy, or in HALTED, it
grants nothing. -/
def Obligations.FetchRequestsAndPortGrants : Prop :=
  (∀ (r : RingId) (s : State),
    let g := s.ring r
    let ready := s.control.part ≠ .halted ∧
      (g.phase = .active ∨ (g.phase = .flushing ∧ g.fetch ≠ g.flushTarget)) ∧ g.tail ≠ g.fetch ∧ g.queue.length < 4 ∧
      s.mport.fetchWaiting.get r = none ∧ (∀ req, s.mport.inService ≠ some ⟨.fetch r req, .live⟩) ∧
      ∀ req, s.mport.inService ≠ some ⟨.fetch r req, .discarded⟩
    let slot := g.fetch.toNat % 2 ^ g.dir.depthCode.toNat
    (ready →
      exec (.fetchRequest r) s = .next
        { s with
          mport :=
            { s.mport with
              fetchWaiting := s.mport.fetchWaiting.set r
                (some { slot := slot, fetchCount := g.fetch, addr := g.dir.base + BitVec.ofNat 16 (32 * slot) }) } }) ∧
    (¬ready → exec (.fetchRequest r) s = .next s)) ∧
  (∀ s : State,
    let writeWaits := (s.mport.errors.filter fun f => decide (f.kind = .postWrite)).length < s.writer.postQueue.length
    (s.mport.inService = none → s.control.part ≠ .halted →
      (writeWaits →
        exec .mPortGrant s = .next { s with mport := { s.mport with inService := some ⟨.completionWrite, .live⟩ } }) ∧
      (∀ pre r post req, ¬writeWaits → ringsFrom (RingId.next s.mport.lastFetch) = pre ++ r :: post →
        (∀ q ∈ pre, s.mport.fetchWaiting.get q = none) → s.mport.fetchWaiting.get r = some req →
        exec .mPortGrant s = .next
          { s with
            mport :=
              { s.mport with
                inService := some ⟨.fetch r req, .live⟩, fetchWaiting := s.mport.fetchWaiting.set r none
                lastFetch := r } }) ∧
      (∀ a, ¬writeWaits → (∀ q, s.mport.fetchWaiting.get q = none) → s.mport.setupWaiting = some a →
        exec .mPortGrant s = .next
          { s with mport := { s.mport with inService := some ⟨.setupLoad a, .live⟩, setupWaiting := none } }) ∧
      (¬writeWaits → (∀ q, s.mport.fetchWaiting.get q = none) → s.mport.setupWaiting = none →
        exec .mPortGrant s = .next s)) ∧
    ((s.mport.inService ≠ none ∨ s.control.part = .halted) → exec .mPortGrant s = .next s))

/-- R63, R71, R79, R172: the end of a fetch in service, after what the host wrote before it (log entry 5). A read that succeeds puts
its record at the tail of the queue and raises the fetch count; outside HALTED a record that joins an empty queue leads to an
examination, and a FLUSHING ring reads COMPLETION when its head finds no room (R67, R74; that its wait reason is set at this moment is
log entry 13). A read that fails hands a FETCH_READ fault to the Control Unit. After a ring RESET the record is dropped; after a reset
the read ends without effect. With no fetch in service nothing ends (log entry 2), and outside HALTED none ends before a fault that
waits is taken (R172; log entry 16). -/
def Obligations.FetchEndJoinsTheQueue : Prop :=
  (∀ (host : List HostWrite) (ok : Bool) (s : State),
    (∀ r req fate, s.mport.inService ≠ some ⟨.fetch r req, fate⟩) ∨ (s.control.part ≠ .halted ∧ s.mport.errors ≠ []) →
    exec (.fetchComplete host ok) s = .next s) ∧
  ∀ (r : RingId) (req : FetchRequest) (host : List HostWrite) (s : State), s.control.part = .halted ∨ s.mport.errors = [] →
    let mem := mailboxHost s.mailbox host
    let g := s.ring r
    let q := s.cq g.dir.cq
    let p : Prefetched := ⟨Record.ofWords (mailboxWords mem req.addr 8), req.slot, req.fetchCount⟩
    let room := q.reservations + (q.tail - q.head).toNat < 2 ^ q.depthCode.toNat
    let free : MPort := { s.mport with inService := none }
    let failed : State :=
      { s with mailbox := mem, mport := { free with errors := s.mport.errors ++ [⟨.fetchRead, req.addr⟩] } }
    (s.mport.inService = some ⟨.fetch r req, .live⟩ →
      (∃ w, exec (.fetchComplete host true) s = .next
        { s with
          mailbox := mem
          mport := free
          ringManager :=
            { s.ringManager with
              rings := s.ringManager.rings.set r { g with queue := g.queue ++ [p], fetch := g.fetch + 1, wait := w } }
          issue :=
            { s.issue with due := s.issue.due || (decide (g.queue = []) && decide (s.control.part ≠ .halted)) } } ∧
        ((g.phase ≠ .flushing ∨ s.control.part = .halted) → w = g.wait) ∧
        (g.phase = .flushing → s.control.part ≠ .halted →
          w = if g.disposalReserved = false ∧ ¬room then .completion else .none)) ∧
      exec (.fetchComplete host false) s = .next failed) ∧
    (s.mport.inService = some ⟨.fetch r req, .discarded⟩ →
      exec (.fetchComplete host true) s = .next { s with mailbox := mem, mport := free } ∧
      exec (.fetchComplete host false) s = .next failed) ∧
    (s.mport.inService = some ⟨.fetch r req, .abandoned⟩ →
      ∀ ok, exec (.fetchComplete host ok) s = .next { s with mailbox := mem, mport := free })

/-- R165, R168: the end of the setup read in service, after what the host wrote before it (log entry 5). A failed read hands a
SETUP_READ fault with the block address to the Control Unit. In LOADING, a block that a check refuses leaves the part in OFF with the
code and EVENT; a block that passes fills the directories, puts the enabled rings into IDLE and the part into RUNNING, with an
examination to follow. A read abandoned by a reset ends without effect (R173); with no setup read in service nothing ends (log entry
2), and outside HALTED none ends before a fault that waits is taken (R172; log entry 16). -/
def Obligations.SetupLoadEnds : Prop :=
  (∀ (host : List HostWrite) (ok : Bool) (s : State),
    (∀ a fate, s.mport.inService ≠ some ⟨.setupLoad a, fate⟩) ∨ (s.control.part ≠ .halted ∧ s.mport.errors ≠ []) →
    exec (.setupLoadEnd host ok) s = .next s) ∧
  ∀ (a : MailboxAddr) (host : List HostWrite) (s : State), s.control.part = .halted ∨ s.mport.errors = [] →
    let mem := mailboxHost s.mailbox host
    let b := SetupBlock.ofWords (mailboxWords mem a 12)
    let read : State := { s with mailbox := mem, mport := { s.mport with inService := none } }
    (s.mport.inService = some ⟨.setupLoad a, .live⟩ →
      exec (.setupLoadEnd host false) s = .next
        { read with mport := { read.mport with errors := s.mport.errors ++ [⟨.setupRead, a⟩] } } ∧
      (s.control.part ≠ .loading → exec (.setupLoadEnd host true) s = .next read) ∧
      (s.control.part = .loading → setupCheck b s.map.current ≠ .none →
        exec (.setupLoadEnd host true) s = .next
          { read with
            control := { s.control with part := .off, setupError := setupCheck b s.map.current }
            coalescer := { s.coalescer with intstat := { s.coalescer.intstat with event := true } } }) ∧
      (s.control.part = .loading → setupCheck b s.map.current = .none →
        ∃ t, exec (.setupLoadEnd host true) s = .next t ∧
          t.control = { s.control with part := .running } ∧
          (∀ r, t.ring r =
            { dir := b.rings.get r, tail := 0, fetch := 0, queue := []
              phase := if (b.rings.get r).enabled then .idle else .disabled
              wait := .none, inFlight := 0, cause := .none, flushTarget := 0, disposalReserved := false }) ∧
          t.ringManager = { s.ringManager with rings := t.ringManager.rings } ∧
          (∀ d, t.ports.profiles.get d =
            if (b.devices.get d).present then some (b.devices.get d).profile else none) ∧
          t.ports = { s.ports with profiles := t.ports.profiles } ∧
          (∀ c, t.cq c =
            { base := (b.cqs.get c).base, depthCode := (b.cqs.get c).depthCode, enabled := (b.cqs.get c).enabled
              threshold := (b.cqs.get c).threshold, holdoff := (b.cqs.get c).holdoff
              tail := 0, head := 0, phase := true, reservations := 0 }) ∧
          t.writer = { s.writer with cqs := t.writer.cqs } ∧
          (∀ c, t.coalescer.cqs.get c = { count := 0, timer := false }) ∧
          t.coalescer.intstat = s.coalescer.intstat ∧ t.issue = { s.issue with due := true } ∧
          t.map = s.map ∧ t.channels = s.channels ∧ t.banks = s.banks ∧ t.mport = read.mport ∧ t.mailbox = mem)) ∧
    (s.mport.inService = some ⟨.setupLoad a, .abandoned⟩ → ∀ ok, exec (.setupLoadEnd host ok) s = .next read)

/-- R166, R167: the setup checks, in their order: each code is given exactly when its check is the first to fail. -/
def Obligations.SetupCheckOrder : Prop :=
  ∀ (b : SetupBlock) (table : WindowTable),
    let ringOk := fun (f : RingDirectory → Prop) => ∀ r, (b.rings.get r).enabled = true → f (b.rings.get r)
    let cqOk := fun (f : CqSetup → Prop) => ∀ c, (b.cqs.get c).enabled = true → f (b.cqs.get c)
    let depthOk := fun (d : BitVec 4) => 2 ≤ d.toNat ∧ d.toNat ≤ 8
    let places := ringPlaces b
    let format := b.format = 1
    let placement :=
      ringOk (fun d => d.base.toNat % 32 = 0 ∧ (depthOk d.depthCode → d.base.toNat + 32 * 2 ^ d.depthCode.toNat ≤ 65536)) ∧
      cqOk (fun d => d.base.toNat % 16 = 0 ∧ (depthOk d.depthCode → d.base.toNat + 16 * 2 ^ d.depthCode.toNat ≤ 65536))
    let depth := ringOk (fun d => depthOk d.depthCode) ∧ cqOk (fun d => depthOk d.depthCode)
    let apart := places.Pairwise fun p q => p.base + placeBytes p ≤ q.base ∨ q.base + placeBytes q ≤ p.base
    let named := ringOk fun d => (b.cqs.get d.cq).enabled = true
    let coalesce := cqOk fun d => 1 ≤ d.threshold.toNat ∧ d.threshold.toNat ≤ 32 ∧ d.holdoff.toNat ≤ 1023
    let devices := ∀ d, (b.devices.get d).present = true →
      12 ≤ (b.devices.get d).profile.sizeCode.toNat ∧ (b.devices.get d).profile.sizeCode.toNat ≤ 20 ∧
        1 ≤ (b.devices.get d).profile.timeout.toNat
    let kept := ∀ i d, (entryAt table i).enabled = true → (entryAt table i).target = .device d →
      (b.devices.get d).present = true ∧
        (entryAt table i).targetBase.toNat + windowSize (entryAt table i) ≤ 2 ^ (b.devices.get d).profile.sizeCode.toNat
    (setupCheck b table = .badFormat ↔ ¬format) ∧
    (setupCheck b table = .badPlacement ↔ format ∧ ¬placement) ∧
    (setupCheck b table = .badDepth ↔ format ∧ placement ∧ ¬depth) ∧
    (setupCheck b table = .ringOverlap ↔ format ∧ placement ∧ depth ∧ ¬apart) ∧
    (setupCheck b table = .cqMissing ↔ format ∧ placement ∧ depth ∧ apart ∧ ¬named) ∧
    (setupCheck b table = .badCoalesce ↔ format ∧ placement ∧ depth ∧ apart ∧ named ∧ ¬coalesce) ∧
    (setupCheck b table = .badDevice ↔ format ∧ placement ∧ depth ∧ apart ∧ named ∧ coalesce ∧ ¬devices) ∧
    (setupCheck b table = .mapConflict ↔ format ∧ placement ∧ depth ∧ apart ∧ named ∧ coalesce ∧ devices ∧ ¬kept) ∧
    (setupCheck b table = .none ↔ format ∧ placement ∧ depth ∧ apart ∧ named ∧ coalesce ∧ devices ∧ kept)

/-- R172, R173, R157: the Control Unit takes the oldest error handed to it. Outside HALTED it writes the fault record, enters HALTED
and sets EVENT, and both holdoff timers stop where they stand; in HALTED it sets more-faults and keeps the first record. A POST_WRITE
fault loses the entry whose write failed, which heads the post queue (R153; log entry 31). With no error handed to it nothing is taken
(log entry 2). -/
def Obligations.MailboxFaultHalts : Prop :=
  (∀ s : State, s.mport.errors = [] → exec .mailboxFault s = .next s) ∧
  ∀ (f : FaultRecord) (rest : List FaultRecord) (s : State), s.mport.errors = f :: rest →
    let left : CompletionWriter :=
      { s.writer with postQueue := if f.kind = .postWrite then s.writer.postQueue.tail else s.writer.postQueue }
    (s.control.part ≠ .halted →
      ∃ t, exec .mailboxFault s = .next t ∧
        t = { s with
              control := { s.control with part := .halted, faultRecord := f }
              mport := { s.mport with errors := rest }
              writer := left
              coalescer := t.coalescer } ∧
        t.coalescer.intstat = { s.coalescer.intstat with event := true } ∧
        ∀ c, t.coalescer.cqs.get c = { count := (s.coalescer.cqs.get c).count, timer := false }) ∧
    (s.control.part = .halted →
      exec .mailboxFault s = .next
        { s with
          control := { s.control with moreFaults := true }, mport := { s.mport with errors := rest }, writer := left })

/-! ## Completion records (chapter 9) -/

/-- R151, R41, R152, R156, R66, R69, R75, R97: a completion write that ends whole, outside HALTED, with no fault waiting to
be taken: it is that of the head of the post queue, so no record is counted behind one whose write failed (R34, R172). Every byte of the slot, at base + 16 × (tail mod depth), holds its
byte of the record with the ring's present phase, bits 7-0 of each word at its lowest address, and no other byte changes; the entry
leaves the queue; tail, reservation, phase, in-flight count, hazard
list and coalescing follow; an examination follows. -/
def Obligations.CompletionWriteCounts : Prop :=
  ∀ (e : Completion) (rest : List Completion) (s : State),
    s.mport.inService = some ⟨.completionWrite, .live⟩ → s.writer.postQueue = e :: rest → s.mport.errors = [] →
    s.control.part ≠ .halted → Memory.wf s.mailbox = true →
    let q := s.cq e.cq
    let g := s.ring e.ring
    let k := s.coalescer.cqs.get e.cq
    let slot := q.base + BitVec.ofNat 16 (16 * (q.tail.toNat % 2 ^ q.depthCode.toNat))
    let tail := q.tail + 1
    let left := g.inFlight - 1
    let stops := (g.phase = .stopping ∧ left = 0) ∨
      (g.phase = .flushing ∧ g.queue = [] ∧ g.fetch = g.flushTarget ∧ fetchInProgress s e.ring = false ∧ left = 0)
    let signals := q.threshold.toNat ≤ k.count + 1 ∨ q.holdoff = 0
    ∃ t, exec (.completionWrite .done) s = .next t ∧
      (∀ i : Fin 4, mailboxWord t.mailbox (slot + BitVec.ofNat 16 (4 * i.val)) = (e.words q.phase)[i]) ∧
      (∀ i n : Fin 4, mailboxByte t.mailbox (slot + BitVec.ofNat 16 (4 * i.val + n.val)) =
        ((e.words q.phase)[i]).extractLsb' (8 * n.val) 8) ∧
      (∀ a : MailboxAddr, (∀ n : Nat, n < 16 → a ≠ slot + BitVec.ofNat 16 n) →
        mailboxByte t.mailbox a = mailboxByte s.mailbox a) ∧
      t.writer.postQueue = rest ∧ t.writer.ackInvalid = s.writer.ackInvalid ∧
      t.cq e.cq =
        { q with
          tail := tail, reservations := q.reservations - 1
          phase := if tail.toNat % 2 ^ q.depthCode.toNat = 0 then !q.phase else q.phase } ∧
      (∀ c, c ≠ e.cq → t.cq c = s.cq c) ∧
      (¬stops → t.ring e.ring = { g with inFlight := left }) ∧
      (stops → t.ring e.ring =
        { g with
          inFlight := left, phase := .stopped, wait := .none
          cause := if g.phase = .flushing then .none else g.cause }) ∧
      (∀ r, r ≠ e.ring → t.ring r = s.ring r) ∧
      (∀ r, t.ringManager.ringsChanged.get r = (s.ringManager.ringsChanged.get r || (decide (r = e.ring) && decide stops))) ∧
      t.ringManager.selected = s.ringManager.selected ∧
      (∀ r, t.issue.hazards.get r =
        match e.transferKey with
        | some key => if r = e.ring then (s.issue.hazards.get r).filter fun h => h.key ≠ key else s.issue.hazards.get r
        | none => s.issue.hazards.get r) ∧
      t.issue.nextKey = s.issue.nextKey ∧ t.issue.due = true ∧ t.issue.urgentPtr = s.issue.urgentPtr ∧ t.issue.normalPtr = s.issue.normalPtr ∧
      (signals → t.coalescer.cqs.get e.cq = { count := 0, timer := false }) ∧
      (¬signals → t.coalescer.cqs.get e.cq = { count := k.count + 1, timer := decide (k.count = 0) || k.timer }) ∧
      (∀ c, c ≠ e.cq → t.coalescer.cqs.get c = s.coalescer.cqs.get c) ∧
      t.coalescer.intstat =
        { cq0 := s.coalescer.intstat.cq0 || (decide (e.cq = .cq0) && decide signals)
          cq1 := s.coalescer.intstat.cq1 || (decide (e.cq = .cq1) && decide signals)
          event := s.coalescer.intstat.event || decide stops } ∧
      t.mport = { s.mport with inService := none } ∧ t.control = s.control ∧ t.map = s.map ∧ t.channels = s.channels ∧
      t.ports = s.ports ∧ t.banks = s.banks

/-- R153, R172: a completion write that fails at a word: the words before it in the order w1, w2, w3, w0 (log entry 26) are written,
that word may hold anything (log entry 7), the words after it and every byte outside the slot are as before. A POST_WRITE fault with
the slot's address is handed to the Control Unit, whose taking loses the entry, which keeps its place until then (MailboxFaultHalts;
log entry 31), and no count, phase, reservation, hazard list or coalescing state changes. A write that ends whole in HALTED changes the memory and the queue alone. A
write abandoned by a reset frees the port alone (R162). With no completion write in service nothing ends (log entry 2), and outside
HALTED none ends before a fault that waits is taken: it is in service when the part enters HALTED, and no record of a later entry is
counted behind a lost one, that of a switch behind its transfers among them (R34, R172; log entry 16). -/
def Obligations.CompletionWriteFailsOrIsFrozen : Prop :=
  (∀ (result : WriteEnd) (s : State),
    ((∀ fate, s.mport.inService ≠ some ⟨.completionWrite, fate⟩) ∨ (s.control.part ≠ .halted ∧ s.mport.errors ≠ []) →
      exec (.completionWrite result) s = .next s) ∧
    (s.mport.inService = some ⟨.completionWrite, .abandoned⟩ → s.control.part = .halted ∨ s.mport.errors = [] →
      exec (.completionWrite result) s = .next { s with mport := { s.mport with inService := none } })) ∧
  ∀ (e : Completion) (lost rest : List Completion) (s : State),
    s.mport.inService = some ⟨.completionWrite, .live⟩ → s.writer.postQueue = lost ++ e :: rest →
    lost.length = (s.mport.errors.filter fun f => decide (f.kind = .postWrite)).length → s.control.part = .halted ∨ s.mport.errors = [] →
    Memory.wf s.mailbox = true →
    let q := s.cq e.cq
    let slot := q.base + BitVec.ofNat 16 (16 * (q.tail.toNat % 2 ^ q.depthCode.toNat))
    let new := e.words (s.cq e.cq).phase
    let wordAt := fun (m : MailboxMemory) (i : Fin 4) => mailboxWord m (slot + BitVec.ofNat 16 (4 * i.val))
    let outside := fun (m : MailboxMemory) => ∀ a : MailboxAddr, (∀ n : Nat, n < 16 → a ≠ slot + BitVec.ofNat 16 n) →
      mailboxByte m a = mailboxByte s.mailbox a
    (∀ i : Fin 4, ∃ t, exec (.completionWrite (.failedAt i)) s = .next t ∧
      (∀ j, (i = 0 ∧ j ≠ 0) ∨ (i ≠ 0 ∧ j ≠ 0 ∧ j < i) → wordAt t.mailbox j = new[j]) ∧
      (∀ j, i ≠ 0 → j = 0 ∨ i < j → wordAt t.mailbox j = wordAt s.mailbox j) ∧ outside t.mailbox ∧
      t = { s with
            mailbox := t.mailbox
            freeIndex := t.freeIndex
            mport := { s.mport with inService := none, errors := s.mport.errors ++ [⟨.postWrite, slot⟩] } }) ∧
    (s.control.part = .halted → ∃ t, exec (.completionWrite .done) s = .next t ∧
      (∀ j, wordAt t.mailbox j = new[j]) ∧ outside t.mailbox ∧
      t = { s with
            mailbox := t.mailbox
            writer := { s.writer with postQueue := lost ++ rest }
            mport := { s.mport with inService := none } })

/-- Section 3.4, R50, R52: the bits of a completion record, word by word, and the status codes with the class that triggers
stop-on-error: a refusal or a transfer error, which are the codes from 8 on. The zero bits are zero, and NONE is FFFFFFFFh. -/
def Obligations.CompletionRecordLayout : Prop :=
  ∀ (e : Completion) (phase : Bool), e.elementsDone ≤ 65536 → e.conflictBeats ≤ 65535 → e.slot < 256 →
    let w := e.words phase
    let code : Nat := match e.status with
      | .ok => 0
      | .different => 1
      | .flushed => 2
      | .aborted => 3
      | .badKind => 8
      | .badFlags => 9
      | .badCount => 10
      | .mapMiss => 11
      | .rangeSplit => 12
      | .widthMismatch => 13
      | .writeProtect => 14
      | .deviceReadonly => 16
      | .overlap => 17
      | .windowInvalid => 18
      | .windowOverlap => 19
      | .windowLocked => 20
      | .dataError => 24
      | .deviceTimeout => 25
      | .loss => 26
    let ring : Nat := match e.ring with
      | .sq0 => 0
      | .sq1 => 1
      | .sq2 => 2
      | .sq3 => 3
    let w0 := w[0].toNat
    let w1 := w[1].toNat
    let w3 := w[3].toNat
    (w0 % 65536 = e.tag.toNat ∧ w0 / 65536 % 64 = code ∧ (w0 / 2 ^ 22 % 2 = 1 ↔ phase = true) ∧
      (w0 / 2 ^ 23 % 2 = 1 ↔ e.direction = .descending) ∧ w0 / 2 ^ 24 % 4 = ring ∧ w0 / 2 ^ 26 = 0) ∧
    (w1 % 2 ^ 17 = e.elementsDone ∧ w1 / 2 ^ 17 % 128 = 0 ∧ w1 / 2 ^ 24 = e.generation.toNat) ∧
    (w[2].toNat = match e.detail with
      | .none => 0xFFFFFFFF
      | .address a => a.toNat
      | .index i => i.toNat) ∧
    (w3 % 256 = e.slot ∧ w3 / 256 % 256 = 0 ∧ w3 / 65536 = e.conflictBeats) ∧
    (e.status.triggersStop = true ↔ 8 ≤ code)

/-- R157: the expiry of a running holdoff timer sets the ring's source, makes the count 0 and stops the timer; a stopped timer does
not expire: the command then leaves the state as it is (log entry 2). -/
def Obligations.HoldoffExpirySignals : Prop :=
  ∀ (c : CqId) (s : State),
    ((s.coalescer.cqs.get c).timer = true →
      exec (.holdoffExpiry c) s = .next
        { s with
          coalescer :=
            { cqs := s.coalescer.cqs.set c { count := 0, timer := false }
              intstat :=
                { cq0 := s.coalescer.intstat.cq0 || decide (c = .cq0), cq1 := s.coalescer.intstat.cq1 || decide (c = .cq1)
                  event := s.coalescer.intstat.event } } }) ∧
    ((s.coalescer.cqs.get c).timer = false → exec (.holdoffExpiry c) s = .next s)

/-- R116, R117, R27, R34, R77, R169: the hand-off of a channel in ENDING, outside HALTED, with the room it needs. The transfer's entry
joins the post queue; the bound count of its generation falls; the last release of the retiring generation puts the pending switch's
entry directly behind and removes both records; a stop-on-error ring stops; the channel is IDLE; a draining part whose other channel
is IDLE is QUIESCED. A channel not in ENDING, HALTED, and a post queue without the room leave everything as it is (R114; log entry 2).
-/
def Obligations.HandOffReleases : Prop :=
  (∀ (c : ChannelId) (s : State),
    ((∀ x, s.channel c ≠ .ending x) ∨ s.control.part = .halted ∨ 8 ≤ s.writer.postQueue.length →
      exec (.handOff c) s = .next s) ∧
    ∀ x rt, s.channel c = .ending x → s.map.retiring = some rt → rt.generation = x.generation → rt.bound = 1 →
      7 ≤ s.writer.postQueue.length → exec (.handOff c) s = .next s) ∧
  ∀ (c : ChannelId) (x : Context) (e : Ending) (s : State),
    s.channel c = .ending x → x.ending = some e → s.control.part ≠ .halted →
    let last := ∃ rt, s.map.retiring = some rt ∧ rt.generation = x.generation ∧ rt.bound = 1
    let entry : Completion :=
      { tag := x.tag, status := e.status, ring := x.ring, slot := x.slot, elementsDone := x.elementsDone
        generation := x.generation, detail := e.detail, direction := x.direction, conflictBeats := x.conflictBeats
        cq := (s.ring x.ring).dir.cq, transferKey := some x.key }
    let drained := (s.control.part = .quiescing ∨ s.control.part = .aborting) ∧ (∀ c', c' ≠ c → s.channel c' = .idle) ∧
      (last ∨ s.map.pendingSwitch = none)
    let stops := (s.ring x.ring).dir.stopOnError = true ∧ e.status.triggersStop = true ∧
      ((s.ring x.ring).phase = .idle ∨ (s.ring x.ring).phase = .active)
    (x.generation ≠ s.map.generation →
      ∃ rt, s.map.retiring = some rt ∧ rt.generation = x.generation ∧ 1 ≤ rt.bound) →
    (s.map.retiring.isSome = s.map.pendingSwitch.isSome) →
    (∀ rt, s.map.retiring = some rt → rt.generation ≠ s.map.generation) →
    s.writer.postQueue.length + (if last then 2 else 1) ≤ 8 →
    ∃ t, exec (.handOff c) s = .next t ∧
      (¬last → t.writer.postQueue = s.writer.postQueue ++ [entry] ∧ t.map.pendingSwitch = s.map.pendingSwitch) ∧
      (last → ∃ w, s.map.pendingSwitch = some w ∧
        t.writer.postQueue = s.writer.postQueue ++
          [entry,
           { tag := w.tag, status := .ok, ring := w.ring, slot := w.slot, elementsDone := 0, generation := s.map.generation
             detail := .none, direction := .ascending, conflictBeats := 0, cq := (s.ring w.ring).dir.cq
             transferKey := none }] ∧
        t.map.pendingSwitch = none) ∧
      t.map.bound = (if x.generation = s.map.generation then s.map.bound - 1 else s.map.bound) ∧
      t.map.retiring =
        (if x.generation = s.map.generation then s.map.retiring
         else if last then none
         else s.map.retiring.map fun rt => { rt with bound := rt.bound - 1 }) ∧
      t.map.current = s.map.current ∧ t.map.staged = s.map.staged ∧ t.map.generation = s.map.generation ∧
      (stops → t.ring x.ring = { s.ring x.ring with phase := .stopping, wait := .none }) ∧
      (¬stops → t.ring x.ring = s.ring x.ring) ∧ (∀ r, r ≠ x.ring → t.ring r = s.ring r) ∧
      t.channel c = .idle ∧ (∀ c', c' ≠ c → t.channel c' = s.channel c') ∧
      t.issue = { s.issue with due := true } ∧
      (drained → t.control = { s.control with part := .quiesced } ∧
        t.coalescer = { s.coalescer with intstat := { s.coalescer.intstat with event := true } }) ∧
      (¬drained → t.control = s.control ∧ t.coalescer = s.coalescer) ∧
      t.ringManager = { s.ringManager with rings := t.ringManager.rings } ∧
      t.writer = { s.writer with postQueue := t.writer.postQueue } ∧ t.ports = s.ports ∧ t.banks = s.banks ∧
      t.mport = s.mport ∧ t.mailbox = s.mailbox

/-! ## Beats (chapter 8) -/

/-- R133, R135: a requested beat waits at the end of its channel's list at the arbiter of its target. Where that arbiter has a beat in
service it counts one conflict beat, which stays at 65,535; else whether it counts is settled at the grant (log entry 17). R105, R133:
the result of a returned beat is kept; the next beat of the same extent, if one is left, is requested; otherwise the channel waits for
the beats of the other extent, and when this was the last beat of its phase the phase ends: the reads (ValueTestsDecide,
StepsWriteTheConversion), the writes (StepsWriteTheConversion), or the early-end write (SplitEndsWhole). That a result no step waits for is lost is the model's
choice, of which no rule speaks (log entry 32). Whatever a returned beat does, it changes the channel that made it and the lists of
waiting beats alone, while every beat of its step is its own. -/
def Obligations.RequestedAndReturnedBeats : Prop :=
  (∀ (b : Beat) (s : State),
    let i := arbiterOf b.target
    let a := s.arbiter i
    let counted : Channel → Channel := fun ch => match ch with
      | .idle => .idle
      | .running x => .running { x with conflictBeats := min (x.conflictBeats + 1) 65535 }
      | .ending x => .ending { x with conflictBeats := min (x.conflictBeats + 1) 65535 }
    let joined : Bool → Arbiter := fun busy => match b.channel with
      | .c0 => { a with waitC0 := a.waitC0 ++ [{ b with counted := busy }] }
      | .c1 => { a with waitC1 := a.waitC1 ++ [{ b with counted := busy }] }
    (a.inService = none →
      s.requestBeat b = { s with ports := { s.ports with arbiters := s.ports.arbiters.set i (joined false) } }) ∧
    (a.inService ≠ none →
      s.requestBeat b =
        { s with
          ports := { s.ports with arbiters := s.ports.arbiters.set i (joined true) }
          channels := s.channels.set b.channel (counted (s.channel b.channel)) })) ∧
  (∀ (b : Beat) (o : BeatOutcome) (s : State),
    let returned : BeatResult := ⟨b.ext, b.pos, o⟩
    ((∀ x, s.channel b.channel ≠ .running x) → s.beatReturns b o = s) ∧
    (∀ x, s.channel b.channel = .running x → x.step = none → s.beatReturns b o = s) ∧
    ∀ x run, s.channel b.channel = .running x → x.step = some run →
      (∀ pre n post, run.later = pre ++ n :: post → n.ext = b.ext → (∀ m ∈ pre, m.ext ≠ b.ext) →
        s.beatReturns b o =
          ({ s with
             channels := s.channels.set b.channel
               (.running
                 { x with
                   step := some { run with later := pre ++ post, results := run.results ++ [returned] } }) }).requestBeat n) ∧
      ((∀ m ∈ run.later, m.ext ≠ b.ext) → 1 < run.outstanding →
        s.beatReturns b o =
          { s with
            channels := s.channels.set b.channel
              (.running
                { x with
                  step := some
                    { run with
                      outstanding := run.outstanding - 1, results := run.results ++ [returned] } }) }) ∧
      ((∀ m ∈ run.later, m.ext ≠ b.ext) → run.outstanding ≤ 1 →
        (run.phase = .reads → s.beatReturns b o = s.readsEnded b.channel x (run.results ++ [returned])) ∧
        (run.phase = .writes → s.beatReturns b o = s.writesEnded b.channel x (run.results ++ [returned])) ∧
        (run.phase = .earlyEnd → s.beatReturns b o = s.earlyEnded b.channel x (run.results ++ [returned]))) ∧
      ((∀ m ∈ run.later, m.channel = b.channel) →
        let t := s.beatReturns b o
        t = { s with channels := t.channels, ports := { s.ports with arbiters := t.ports.arbiters } } ∧
          (∀ c, c ≠ b.channel → t.channel c = s.channel c) ∧
          ∀ i, (t.arbiter i).inService = (s.arbiter i).inService ∧ (t.arbiter i).lastGranted = (s.arbiter i).lastGranted ∧
            ∀ c, c ≠ b.channel → waitingOf (t.arbiter i) c = waitingOf (s.arbiter i) c))

/-- R134, R135, R142: a free arbiter grants the first waiting beat of the channel not last granted when both channels wait, else of
the one that waits; every beat that stays waiting and has not counted a conflict beat counts it now; the X-port's ready timeout
starts. A bank's memory first takes what outside agents wrote before the grant (R136, log entry 6). With nothing waiting only that
happens, and while a beat is in service nothing does (log entry 2). -/
def Obligations.BeatGrantAlternates : Prop :=
  ∀ (i : ArbiterId) (ws : List OutsideWrite) (s : State),
    let a := s.arbiter i
    let waiting : ChannelId → List Beat := fun c => match c with
      | .c0 => a.waitC0
      | .c1 => a.waitC1
    let left : ChannelId → ChannelId → List Beat := fun c d => if d = c then (waiting d).tail else waiting d
    let marked : List Beat → List Beat := fun bs => bs.map fun b => { b with counted := true }
    let fresh : List Beat → Nat := fun bs => (bs.filter fun b => b.counted = false).length
    let counted : Nat → Channel → Channel := fun n ch =>
      if n = 0 then ch
      else match ch with
        | .idle => .idle
        | .running x => .running { x with conflictBeats := min (x.conflictBeats + n) 65535 }
        | .ending x => .ending { x with conflictBeats := min (x.conflictBeats + n) 65535 }
    let landed : PerBank BankMemory → Prop := fun m => ∀ b o,
      bankWord (m.get b) o =
        match if i = .bank b then ws.reverse.find? (fun w => decide (w.offset = o)) else none with
        | some w => some ⟨w.value, w.parityGood⟩
        | none => bankWord (s.banks.get b) o
    (a.inService ≠ none → exec (.beatGrant i ws) s = .next s) ∧
    (a.inService = none → (Instr.beatGrant i ws).wf = true →
      (a.waitC0 = [] → a.waitC1 = [] →
        ∃ m, landed m ∧ exec (.beatGrant i ws) s = .next { s with banks := m }) ∧
      (∀ c other, other ≠ c → waiting c ≠ [] → (waiting other = [] ∨ a.lastGranted = other) →
        ∃ m, landed m ∧ exec (.beatGrant i ws) s = .next
          { s with
            banks := m
            channels :=
              ⟨counted (fresh (left c .c0)) s.channels.c0, counted (fresh (left c .c1)) s.channels.c1⟩
            ports :=
              { s.ports with
                arbiters := s.ports.arbiters.set i
                  { inService := (waiting c).head?
                    waitC0 := marked (left c .c0)
                    waitC1 := marked (left c .c1)
                    lastGranted := c }
                measuring := s.ports.measuring || decide (i = .xPort) } }))

/-- R133, R138, R139, R2: the beat in service at a bank ends. A write has stored its value with good parity, and no other word has
changed; a read returns the stored value, or a parity error where its parity is bad. Of a word that nothing has written, both are free
(log entry 4). The arbiter is free and the result returns to the channel (RequestedAndReturnedBeats). With no beat in service nothing
ends (log entry 2). R141, R142: a ready from the device that the X-port beat in service names ends it, a read with the value the
device presents in the width of its profile; any other ready is ignored. The expiry of the ready timeout fails the beat. Either way
the port is free and the measure stops. -/
def Obligations.BeatsEnd : Prop :=
  (∀ (b : BankId) (s : State),
    ((s.arbiter (.bank b)).inService = none → exec (.beatEnd b) s = .next s) ∧
    ∀ beat, (s.arbiter (.bank b)).inService = some beat → beat.offset < (if b = .p0 ∨ b = .p1 then 16384 else 32768) →
      let freed : State :=
        { s with
          ports :=
            { s.ports with
              arbiters := s.ports.arbiters.set (.bank b) { s.arbiter (.bank b) with inService := none } } }
      (beat.isWrite = true → ∃ m, exec (.beatEnd b) s = .next ({ freed with banks := s.banks.set b m }.beatReturns beat .stored) ∧
        bankWord m beat.offset = some ⟨beat.value, true⟩ ∧
        ∀ o, o ≠ beat.offset → bankWord m o = bankWord (s.banks.get b) o) ∧
      (beat.isWrite = false →
        (∀ w, bankWord (s.banks.get b) beat.offset = some w → w.parityGood = true →
          exec (.beatEnd b) s = .next (freed.beatReturns beat (.value w.value))) ∧
        (∀ w, bankWord (s.banks.get b) beat.offset = some w → w.parityGood = false →
          exec (.beatEnd b) s = .next (freed.beatReturns beat .parityError)) ∧
        (bankWord (s.banks.get b) beat.offset = none →
          exec (.beatEnd b) s = .next (freed.beatReturns beat .parityError) ∨
          ∃ v, v.toNat < 2 ^ Config.bankBits b ∧ exec (.beatEnd b) s = .next (freed.beatReturns beat (.value v))))) ∧
  (∀ (d : DeviceId) (v : W24) (s : State),
    ((s.arbiter .xPort).inService = none →
      exec (.ready d v) s = .next s ∧ exec .readyTimeout s = .next s) ∧
    ∀ beat, (s.arbiter .xPort).inService = some beat →
      let freed : State :=
        { s with
          ports :=
            { s.ports with
              arbiters := s.ports.arbiters.set .xPort { s.arbiter .xPort with inService := none }
              measuring := false } }
      (beat.target ≠ .device d → exec (.ready d v) s = .next s) ∧
      (beat.target = .device d →
        (beat.isWrite = true → exec (.ready d v) s = .next (freed.beatReturns beat .stored)) ∧
        (beat.isWrite = false → beat.width = .w24 → exec (.ready d v) s = .next (freed.beatReturns beat (.value v))) ∧
        (beat.isWrite = false → beat.width = .w16 →
          exec (.ready d v) s = .next (freed.beatReturns beat (.value (v &&& 0xFFFF#24))))) ∧
      exec .readyTimeout s = .next (freed.beatReturns beat .timedOut))

/-! ## The steps of a channel (chapter 6) -/

/-- R104, R105: the step that a context stands at begins with its reads, each kind's as the table of R104 gives them: the first word
of each extent is requested at once, the following ones wait for it. A FILL reads nothing and requests its write. -/
def Obligations.StepBeginsWithItsReads : Prop :=
  ∀ (c : ChannelId) (x : Context) (A B C : Extent) (s : State),
    x.extB = some B → (x.kind ≠ .fill → x.extA = some A) → (x.kind = .split ∨ x.kind = .join → x.extC = some C) →
    let i := x.nextStep
    let rd : ExtentName → Extent → Nat → Beat := fun n e pos =>
      { channel := c, isWrite := false, ext := n, pos := pos, target := e.phys.target, offset := e.phys.first + pos
        width := e.width, value := 0, counted := false }
    let begun : StepPhase → List Beat → List Beat → State := fun phase now later =>
      ({ s with
         channels := s.channels.set c
           (.running
             { x with
               step := some { phase := phase, later := later, outstanding := now.length, results := [] } }) }).requestBeats now
    (x.kind = .copy → s.beginStep c x = begun .reads [rd .a A i] []) ∧
    (x.kind = .compare → s.beginStep c x = begun .reads [rd .a A i, rd .b B i] []) ∧
    (x.kind = .pack → s.beginStep c x = begun .reads [rd .a A (2 * i)] [rd .a A (2 * i + 1)]) ∧
    (x.kind = .unpack →
      s.beginStep c x = begun .reads [rd .a A (3 * i)] [rd .a A (3 * i + 1), rd .a A (3 * i + 2)]) ∧
    (x.kind = .split → s.beginStep c x = begun .reads [rd .a A i] []) ∧
    (x.kind = .join → i % 2 = 0 → s.beginStep c x = begun .reads [rd .a A i, rd .c C (i / 2)] []) ∧
    (x.kind = .join → i % 2 = 1 → s.beginStep c x = begun .reads [rd .a A i] []) ∧
    (x.kind = .fill →
      s.beginStep c x =
        begun .writes
          [{ rd .b B i with
             isWrite := true
             value := if B.width = .w24 then x.pattern else (0 : BitVec 8) ++ x.pattern.extractLsb' 8 16 }] [])

/-- R106, R107, R112, R114, R111: a step that finishes raises elements_done and moves on in the direction of the run. At its boundary,
in this order: in HALTED the channel stops; after the last step the transfer ends OK; with the pending abort flag set it ends ABORTED;
otherwise the next step begins. However it ends, the ending is that of endTransfer, which for a SPLIT with an odd count and a
half-filled residue word first makes the early-end write (SplitEndsWhole); any other transfer is in ENDING at once. -/
def Obligations.StepBoundaryOrder : Prop :=
  ∀ (c : ChannelId) (x : Context) (residue : Option W16) (s : State),
    let done := x.elementsDone + (if x.kind = .pack ∨ x.kind = .unpack then 2 else 1)
    let y : Context :=
      { x with
        elementsDone := done, residue := residue, step := none
        nextStep := match x.direction with
          | .ascending => x.nextStep + 1
          | .descending => x.nextStep - 1 }
    let ended : Ending → State := fun e =>
      { s with channels := s.channels.set c (.ending { y with ending := some e }) }
    let whole := x.kind ≠ .split ∨ done % 2 = 0 ∨ residue = none
    (s.control.part = .halted → s.finishStep c x residue = { s with channels := s.channels.set c (.running y) }) ∧
    (s.control.part ≠ .halted → x.count ≤ done → s.finishStep c x residue = s.endTransfer c y .ok .none) ∧
    (s.control.part ≠ .halted → done < x.count → x.pendingAbort = true →
      s.finishStep c x residue = s.endTransfer c y .aborted .none) ∧
    (∀ (C : Extent) (h : W16), s.control.part ≠ .halted → done < x.count → x.pendingAbort = true → x.kind = .split →
      done % 2 = 1 → residue = some h → x.extC = some C →
      s.finishStep c x residue =
        ({ s with
           channels := s.channels.set c
             (.running
               { y with
                 ending := some ⟨.aborted, .none⟩
                 step := some { phase := .earlyEnd, later := [], outstanding := 1, results := [] } }) }).requestBeat
          { channel := c, isWrite := true, ext := .c, pos := done / 2, target := C.phys.target
            offset := C.phys.first + done / 2, width := C.width
            value := (0 : BitVec 8) ++ (h.extractLsb' 8 8 ++ x.pad), counted := false }) ∧
    (s.control.part ≠ .halted → x.count ≤ done → whole → s.finishStep c x residue = ended ⟨.ok, .none⟩) ∧
    (s.control.part ≠ .halted → done < x.count → x.pendingAbort = true → whole →
      s.finishStep c x residue = ended ⟨.aborted, .none⟩) ∧
    (s.control.part ≠ .halted → done < x.count → x.pendingAbort = false → s.finishStep c x residue = s.beginStep c y)

/-- R108, R124, R109: the last read of a step of a COMPARE or a strict COPY has ended, and no read failed. A COMPARE whose values
differ, in their upper 16 bits under HIGHONLY, ends DIFFERENT with the element counted and its index as detail; equal ones finish the
step. A strict COPY whose low byte is not zero ends LOSS, not counted, with the logical address of the element read. In HALTED the
ending is recorded and the channel stays RUNNING (R114; log entry 30). -/
def Obligations.ValueTestsDecide : Prop :=
  ∀ (b : Beat) (o : BeatOutcome) (x : Context) (rs : List BeatResult) (s : State),
    s.channel b.channel = .running x →
    x.step = some { phase := .reads, later := [], outstanding := 1, results := rs } →
    let i := x.nextStep
    let returned : BeatResult := ⟨b.ext, b.pos, o⟩
    let all := rs ++ [returned]
    let stop : Context → State := fun y =>
      { s with
        channels := s.channels.set b.channel (if s.control.part = .halted then .running y else .ending y) }
    (∀ u v, x.kind = .compare →
      (all = [⟨.a, i, .value u⟩, ⟨.b, i, .value v⟩] ∨ all = [⟨.b, i, .value v⟩, ⟨.a, i, .value u⟩]) →
      let equal := if x.highonly = true then u.extractLsb' 8 16 = v.extractLsb' 8 16 else u = v
      (¬equal →
        s.beatReturns b o =
          stop { x with
                 elementsDone := i + 1, step := none
                 ending := some ⟨.different, .index (BitVec.ofNat 16 i)⟩ }) ∧
      (equal → s.beatReturns b o = s.finishStep b.channel x none)) ∧
    (∀ (u : W24) (A : Extent), x.kind = .copy → x.extA = some A → all = [⟨.a, i, .value u⟩] → x.strict = true →
      u.extractLsb' 0 8 ≠ 0 →
      s.beatReturns b o =
        stop { x with step := none, ending := some ⟨.loss, .address (A.start + BitVec.ofNat 24 i)⟩ })

/-- R105, R110: the last beat of a step's reads, or of its writes, has ended and some beat of the phase failed. The first one that
failed, in the order A, B, C and within an extent in word order, decides: DATA_ERROR for a parity error, DEVICE_TIMEOUT for a timeout,
with the logical address of its word. The step is not counted. (A SPLIT's residue: SplitEndsWhole.) -/
def Obligations.FirstFailureDecides : Prop :=
  ∀ (b : Beat) (o : BeatOutcome) (x : Context) (phase : StepPhase) (rs : List BeatResult) (f : BeatResult) (e : Extent) (s : State),
    s.channel b.channel = .running x →
    x.step = some { phase := phase, later := [], outstanding := 1, results := rs } →
    phase ≠ .earlyEnd → x.kind ≠ .split →
    let returned : BeatResult := ⟨b.ext, b.pos, o⟩
    let all := rs ++ [returned]
    let rank : ExtentName → Nat := fun n => match n with
      | .a => 0
      | .b => 1
      | .c => 2
    (all.Pairwise fun g h => g.ext = h.ext → g.pos < h.pos) →
    f ∈ all → (f.outcome = .parityError ∨ f.outcome = .timedOut) →
    (∀ g ∈ all, g.outcome = .parityError ∨ g.outcome = .timedOut →
      rank f.ext < rank g.ext ∨ (f.ext = g.ext ∧ f.pos ≤ g.pos)) →
    contextExtent x f.ext = some e →
    let y : Context :=
      { x with
        step := none
        ending := some
          { status := if f.outcome = .parityError then .dataError else .deviceTimeout
            detail := .address (e.start + BitVec.ofNat 24 f.pos) } }
    s.beatReturns b o =
      { s with channels := s.channels.set b.channel (if s.control.part = .halted then .running y else .ending y) }

/-- R110, R111, R114, R129, R137: how a SPLIT ends. A failed read ends it like any other ending. With an odd elements_done and a
half-filled residue word, outside HALTED, one more write is made: that word with the pad byte as its lower byte; when it times out
elements_done is lowered by one. A step whose writes failed makes no such write: when an odd step's residue write timed out,
elements_done is lowered by one; else it stays. In HALTED none of this is done, and the channel stays RUNNING with its ending
recorded; an early-end write already made keeps its result (log entries 28 and 30). -/
def Obligations.SplitEndsWhole : Prop :=
  ∀ (c : ChannelId) (x : Context) (C : Extent) (st : Status) (d : Detail) (s : State),
    x.kind = .split → x.extC = some C →
    let ended : Context := { x with ending := some ⟨st, d⟩, step := none }
    (s.control.part = .halted →
      s.endTransfer c x st d = { s with channels := s.channels.set c (.running ended) }) ∧
    (s.control.part ≠ .halted → (x.elementsDone % 2 = 0 ∨ x.residue = none) →
      s.endTransfer c x st d = { s with channels := s.channels.set c (.ending ended) }) ∧
    (∀ h, s.control.part ≠ .halted → x.elementsDone % 2 = 1 → x.residue = some h →
      s.endTransfer c x st d =
        ({ s with
           channels := s.channels.set c
             (.running
               { ended with
                 step := some { phase := .earlyEnd, later := [], outstanding := 1, results := [] } }) }).requestBeat
          { channel := c, isWrite := true, ext := .c, pos := x.elementsDone / 2, target := C.phys.target
            offset := C.phys.first + x.elementsDone / 2, width := C.width
            value := (0 : BitVec 8) ++ (h.extractLsb' 8 8 ++ x.pad), counted := false }) ∧
    (∀ (b : Beat) (o : BeatOutcome), b.channel = c → b.ext = .c → s.channel c = .running x →
      x.step = some { phase := .earlyEnd, later := [], outstanding := 1, results := [] } →
      o = .stored ∨ o = .timedOut →
      let y : Context :=
        { x with
          residue := none, step := none
          elementsDone := if o = .timedOut then x.elementsDone - 1 else x.elementsDone }
      s.beatReturns b o =
        { s with channels := s.channels.set c (if s.control.part = .halted then .running y else .ending y) }) ∧
    (∀ (A : Extent) (b : Beat), b.channel = c → b.ext = .a → s.channel c = .running x → x.extA = some A →
      x.step = some { phase := .reads, later := [], outstanding := 1, results := [] } →
      let at_ : Detail := .address (A.start + BitVec.ofNat 24 b.pos)
      s.beatReturns b .parityError = s.endTransfer c x .dataError at_ ∧
        s.beatReturns b .timedOut = s.endTransfer c x .deviceTimeout at_) ∧
    (∀ (B : Extent) (i : Nat) (ob oc : BeatOutcome) (b : Beat) (o : BeatOutcome) (rs reads : List BeatResult),
      x.extB = some B → i = x.nextStep → b.channel = c → s.channel c = .running x →
      x.step = some { phase := .writes, later := [], outstanding := 1, results := rs } →
      (∀ r ∈ reads, r.ext = .a ∧ ∃ v, r.outcome = .value v) →
      let returned : BeatResult := ⟨b.ext, b.pos, o⟩
      let both := rs ++ [returned] = reads ++ [⟨.b, i, ob⟩, ⟨.c, i / 2, oc⟩] ∨
        rs ++ [returned] = reads ++ [⟨.c, i / 2, oc⟩, ⟨.b, i, ob⟩]
      let mainAlone := rs ++ [returned] = reads ++ [⟨.b, i, ob⟩] ∧ oc = .stored
      both ∨ mainAlone →
      (ob = .stored ∨ ob = .timedOut) → (oc = .stored ∨ oc = .timedOut) → (ob = .timedOut ∨ oc = .timedOut) →
      let detail : Detail := .address
        (if ob = .timedOut then B.start + BitVec.ofNat 24 i else C.start + BitVec.ofNat 24 (i / 2))
      let y : Context := { x with step := none, ending := some ⟨.deviceTimeout, detail⟩ }
      (s.control.part = .halted → s.beatReturns b o = { s with channels := s.channels.set c (.running y) }) ∧
      (s.control.part ≠ .halted →
        s.beatReturns b o =
          { s with
            channels := s.channels.set c
              (.ending
                { y with
                  residue := none
                  elementsDone := if i % 2 = 1 ∧ oc = .timedOut then x.elementsDone - 1 else x.elementsDone }) }))

/-! ## Element conversions (chapter 7) -/

/-- R104, R105, R118 to R130: when the reads of a step have all succeeded, and no value test ends the transfer, the writes of the step
are requested, the first of each extent at once, with the bits that the conversion of the kind and the widths takes from the values
read, the pad byte or the held residue word. R104, R106: when every write of a step has succeeded the step finishes. A SPLIT keeps its
half-filled word after an even step that is not the last, a JOIN the residue word it read in an even step; every other step leaves no
residue word. -/
def Obligations.StepsWriteTheConversion : Prop :=
  (∀ (c : ChannelId) (x : Context) (A B C : Extent) (rs : List BeatResult) (s : State),
    x.extA = some A → x.extB = some B → (x.kind = .split ∨ x.kind = .join → x.extC = some C) →
    let i := x.nextStep
    let wr : ExtentName → Extent → Nat → W24 → Beat := fun n e pos v =>
      { channel := c, isWrite := true, ext := n, pos := pos, target := e.phys.target, offset := e.phys.first + pos
        width := e.width, value := v, counted := false }
    let begun : List Beat → List Beat → State := fun now later =>
      ({ s with
         channels := s.channels.set c
           (.running
             { x with
               step := some { phase := .writes, later := later, outstanding := now.length, results := rs } }) }).requestBeats now
    let half : W16 → W24 := fun v => (0 : BitVec 8) ++ v
    let top : W24 → W16 := fun v => v.extractLsb' 8 16
    let low : W24 → Byte := fun v => v.extractLsb' 0 8
    (∀ v, x.kind = .copy → rs = [⟨.a, i, .value v⟩] → (x.strict = true → low v = 0) →
      (A.width = B.width → s.readsEnded c x rs = begun [wr .b B i v] []) ∧
      (A.width = .w16 → B.width = .w24 → s.readsEnded c x rs = begun [wr .b B i (v.extractLsb' 0 16 ++ x.pad)] []) ∧
      (A.width = .w24 → B.width = .w16 → s.readsEnded c x rs = begun [wr .b B i (half (top v))] [])) ∧
    (∀ u v, x.kind = .pack → rs = [⟨.a, 2 * i, .value u⟩, ⟨.a, 2 * i + 1, .value v⟩] →
      s.readsEnded c x rs =
        begun [wr .b B (3 * i) (half (u.extractLsb' 16 8 ++ u.extractLsb' 8 8))]
          [wr .b B (3 * i + 1) (half (u.extractLsb' 0 8 ++ v.extractLsb' 16 8)),
           wr .b B (3 * i + 2) (half (v.extractLsb' 8 8 ++ v.extractLsb' 0 8))]) ∧
    (∀ u v w : W16, x.kind = .unpack →
      rs = [⟨.a, 3 * i, .value (half u)⟩, ⟨.a, 3 * i + 1, .value (half v)⟩, ⟨.a, 3 * i + 2, .value (half w)⟩] →
      s.readsEnded c x rs =
        begun [wr .b B (2 * i) (u.extractLsb' 8 8 ++ u.extractLsb' 0 8 ++ v.extractLsb' 8 8)]
          [wr .b B (2 * i + 1) (v.extractLsb' 0 8 ++ w.extractLsb' 8 8 ++ w.extractLsb' 0 8)]) ∧
    (∀ v, x.kind = .split → rs = [⟨.a, i, .value v⟩] →
      (i % 2 = 0 → i + 1 ≠ x.count → s.readsEnded c x rs = begun [wr .b B i (half (top v))] []) ∧
      (i % 2 = 0 → i + 1 = x.count →
        s.readsEnded c x rs = begun [wr .b B i (half (top v)), wr .c C (i / 2) (half (low v ++ x.pad))] []) ∧
      (∀ h, i % 2 = 1 → x.residue = some h →
        s.readsEnded c x rs =
          begun [wr .b B i (half (top v)), wr .c C (i / 2) (half (h.extractLsb' 8 8 ++ low v))] [])) ∧
    (∀ v r : W16, x.kind = .join →
      (i % 2 = 0 →
        rs = [⟨.a, i, .value (half v)⟩, ⟨.c, i / 2, .value (half r)⟩] ∨
          rs = [⟨.c, i / 2, .value (half r)⟩, ⟨.a, i, .value (half v)⟩] →
        s.readsEnded c x rs = begun [wr .b B i (v ++ r.extractLsb' 8 8)] []) ∧
      (i % 2 = 1 → x.residue = some r → rs = [⟨.a, i, .value (half v)⟩] →
        s.readsEnded c x rs = begun [wr .b B i (v ++ r.extractLsb' 0 8)] []))) ∧
  (∀ (c : ChannelId) (x : Context) (rs : List BeatResult) (s : State),
    (∀ r ∈ rs, r.outcome ≠ .parityError ∧ r.outcome ≠ .timedOut) →
    let i := x.nextStep
    (∀ v rest, x.kind = .split → i % 2 = 0 → i + 1 ≠ x.count → rs = ⟨.a, i, .value v⟩ :: rest →
      s.writesEnded c x rs = s.finishStep c x (some (v.extractLsb' 0 8 ++ (0 : Byte)))) ∧
    (∀ (r : W16) (a : BeatResult) (rest : List BeatResult), x.kind = .join → i % 2 = 0 → a.ext ≠ .c →
      rs = ⟨.c, i / 2, .value ((0 : BitVec 8) ++ r)⟩ :: rest ∨ rs = a :: ⟨.c, i / 2, .value ((0 : BitVec 8) ++ r)⟩ :: rest →
      s.writesEnded c x rs = s.finishStep c x (some r)) ∧
    (((x.kind = .split ∧ (i % 2 = 1 ∨ i + 1 = x.count)) ∨ (x.kind = .join ∧ i % 2 = 1) ∨ (x.kind ≠ .split ∧ x.kind ≠ .join)) →
      s.writesEnded c x rs = s.finishStep c x none))

/-- R125, R126, R130, R122, R123: what undoes what. UNPACK undoes PACK and PACK undoes UNPACK; a JOIN of what a SPLIT wrote gives back
every element whatever the pad byte; a widening with pad byte 00h is 256 times its source, passes the strict test and narrows back,
and with any other pad byte fails the test; a FILL of a W16 range writes what a narrowing COPY of the pattern would. -/
def Obligations.ConversionsInvert : Prop :=
  (∀ u v : W24, unpackTriple (packPair u v).1 (packPair u v).2.1 (packPair u v).2.2 = (u, v)) ∧
  (∀ u v w : W16, packPair (unpackTriple u v w).1 (unpackTriple u v w).2 = (u, v, w)) ∧
  (∀ (j : Nat) (u v : W24) (pad : Byte),
    joinValue (2 * j) (upper16 u) (completeResidue (halfResidue u) (lowByte v)) = u ∧
    joinValue (2 * j + 1) (upper16 v) (completeResidue (halfResidue u) (lowByte v)) = v ∧
    joinValue (2 * j) (upper16 u) (completeResidue (halfResidue u) pad) = u) ∧
  (∀ (v : W16) (pad : Byte), upper16 (widen v pad) = v ∧ (lowByte (widen v pad) = 0 ↔ pad = 0) ∧
    (widen v 0).toNat = 256 * v.toNat) ∧
  ∀ pattern : W24, fillValue .w16 pattern = copyValue .w24 .w16 0 pattern

/-! ## Issue (chapter 5) -/

/-- R81, R84: in HALTED, OFF and LOADING no examination is made. An examination that finds no eligible head takes nothing: it sets the
wait reason of each ACTIVE ring to the one its head waits with (EligibilityOrder), NONE when it has no head, of no other ring, and
changes nothing else. -/
def Obligations.ExaminationTakesNothing : Prop :=
  ∀ s : State,
    (s.control.part = .halted ∨ s.control.part = .off ∨ s.control.part = .loading → exec .examination s = .next s) ∧
    (s.control.part ≠ .halted → s.control.part ≠ .off → s.control.part ≠ .loading →
      (∀ r, (verdict s r).isEligible = false) →
      ∃ rings : PerRing Ring,
        (∀ r, rings.get r =
          if (s.ring r).phase = .active then { s.ring r with wait := (verdict s r).reason } else s.ring r) ∧
        (∀ r, (s.ring r).phase = .active →
          (verdict s r = .noHead → (rings.get r).wait = .none) ∧ ∀ w, verdict s r = .wait w → (rings.get r).wait = w) ∧
        exec .examination s = .next
          { s with ringManager := { s.ringManager with rings := rings }, issue := { s.issue with due := false } })

/-- R83, R98: the conditions on a head, in their order, and the wait reason of the first that fails. R84: a ring reads the reason its
head waits with, and NONE when it has no head or an eligible one. -/
def Obligations.EligibilityOrder : Prop :=
  ∀ (r : RingId) (s : State),
    let g := s.ring r
    let q := s.cq g.dir.cq
    ((g.phase ≠ .active ∨ g.queue = []) → verdict s r = .noHead) ∧
    (∀ w, verdict s r = .wait w → (verdict s r).reason = w) ∧
    (verdict s r = .noHead → (verdict s r).reason = .none) ∧
    (∀ p plan, verdict s r = .eligible p plan → (verdict s r).reason = .none) ∧
    ∀ p rest, g.phase = .active → g.queue = p :: rest →
      let plan := validate s.map s.ports.profiles p.record
      let inOrder := (g.dir.ordered = true ∨ (p.record.kind = 0x10 ∧ p.record.flags = 0)) → g.inFlight = 0
      let room := q.reservations + (q.tail - q.head).toNat < 2 ^ q.depthCode.toNat
      let physOf : Option Extent → List PhysExtent := fun e => (e.map fun e => e.phys).toList
      let overlap : PhysExtent → PhysExtent → Prop := fun e f => e.target = f.target ∧ e.first ≤ f.last ∧ f.first ≤ e.last
      let channelFree := ∀ k a b c d, plan = .transfer k a b c d → s.channel .c0 = .idle ∨ s.channel .c1 = .idle
      let clear := ∀ k a b c d, plan = .transfer k a b c d →
        let writes := match k with
          | .compare => []
          | .split => physOf b ++ physOf c
          | _ => physOf b
        let reads := match k with
          | .compare => physOf a ++ physOf b
          | .split => physOf a
          | _ => physOf a ++ physOf c
        ∀ h ∈ s.issue.hazards.get r,
          (∀ w ∈ writes, ∀ e ∈ h.reads ++ h.writes, ¬overlap w e) ∧ ∀ w ∈ reads, ∀ e ∈ h.writes, ¬overlap w e
      let drained := plan = .mapswitch → s.map.retiring = none
      let running := s.control.part = .running
      (verdict s r = .wait .part ↔ ¬running) ∧
      (verdict s r = .wait .order ↔ running ∧ ¬inOrder) ∧
      (verdict s r = .wait .completion ↔ running ∧ inOrder ∧ ¬room) ∧
      (verdict s r = .wait .channel ↔ running ∧ inOrder ∧ room ∧ ¬channelFree) ∧
      (verdict s r = .wait .hazard ↔ running ∧ inOrder ∧ room ∧ channelFree ∧ ¬clear) ∧
      (verdict s r = .wait .mapDrain ↔ running ∧ inOrder ∧ room ∧ ¬drained) ∧
      (verdict s r = .wait .none ↔
        running ∧ inOrder ∧ room ∧ channelFree ∧ clear ∧ drained ∧ 8 ≤ s.writer.postQueue.length) ∧
      (verdict s r = .eligible p plan ↔
        running ∧ inOrder ∧ room ∧ channelFree ∧ clear ∧ drained ∧ s.writer.postQueue.length < 8)

/-- R82: an eligible URGENT head is chosen before any NORMAL head; within the class, the first one from the class's pointer on. Some
head is chosen whenever one is eligible. -/
def Obligations.HeadChoice : Prop :=
  ∀ s : State,
    let eligible := fun r => ∃ p plan, verdict s r = .eligible p plan
    let order := fun (ptr : RingId) => match ptr with
      | .sq0 => [RingId.sq0, .sq1, .sq2, .sq3]
      | .sq1 => [RingId.sq1, .sq2, .sq3, .sq0]
      | .sq2 => [RingId.sq2, .sq3, .sq0, .sq1]
      | .sq3 => [RingId.sq3, .sq0, .sq1, .sq2]
    let first := fun (cls : RingClass) (ptr r : RingId) => eligible r ∧ (s.ring r).dir.cls = cls ∧
      ∀ pre post, order ptr = pre ++ r :: post → ∀ q ∈ pre, ¬(eligible q ∧ (s.ring q).dir.cls = cls)
    (∀ r, chosenRing s = some r ↔
      first .urgent s.issue.urgentPtr r ∨
      ((∀ q, eligible q → (s.ring q).dir.cls = .normal) ∧ first .normal s.issue.normalPtr r)) ∧
    ((∃ r, eligible r) → ∃ r, chosenRing s = some r)

/-- R96, R100, R46, R87, R88, R77: a chosen head that validation refuses, or a FENCE, MARK or zero-count transfer, is completed at its
taking: its entry joins the post queue; nothing is bound, no hazard entry is made, no channel is used. A stop-on-error ring enters
STOPPING at a refusal. -/
def Obligations.CompletedAtTaking : Prop :=
  ∀ (r : RingId) (p : Prefetched) (plan : Plan) (status : Status) (detail : Detail) (s : State),
    chosenRing s = some r → verdict s r = .eligible p plan →
    (plan = .refuse status detail ∨ (plan = .complete ∧ status = .ok ∧ detail = .none)) →
    let g := s.ring r
    let stops := g.dir.stopOnError = true ∧ ∃ d, plan = .refuse status d
    let entry : Completion :=
      { tag := p.record.tag, status := status, ring := r, slot := p.slot, elementsDone := 0, generation := s.map.generation
        detail := detail, direction := .ascending, conflictBeats := 0, cq := g.dir.cq, transferKey := none }
    ∃ t, exec .examination s = .next t ∧ takingOf s t r ∧
      (¬stops → t.ring r = takenRing g) ∧ (stops → t.ring r = { takenRing g with phase := .stopping }) ∧
      t.writer.postQueue = s.writer.postQueue ++ [entry] ∧ t.map = s.map ∧ t.channels = s.channels ∧
      t.issue.hazards = s.issue.hazards ∧ t.issue.nextKey = s.issue.nextKey

/-- R29, R30, R32, R33: a valid MAPSET writes the staged entry at its index; a MAPREVERT makes the staged table a copy of the current
one; both complete OK at the taking. A MAPSWITCH installs the staged table, copies it back, and advances G; with no transfer bound it
completes OK with the new G; with transfers bound it forms the retiring record and stays pending, and no entry is made. -/
def Obligations.MapCommandsTaken : Prop :=
  ∀ (r : RingId) (p : Prefetched) (plan : Plan) (s : State),
    chosenRing s = some r → verdict s r = .eligible p plan →
    let g := s.ring r
    let entry : BitVec 8 → Completion := fun generation =>
      { tag := p.record.tag, status := .ok, ring := r, slot := p.slot, elementsDone := 0, generation := generation
        detail := .none, direction := .ascending, conflictBeats := 0, cq := g.dir.cq, transferKey := none }
    let taken : State → Prop := fun t => exec .examination s = .next t ∧ takingOf s t r ∧ t.ring r = takenRing g ∧
      t.channels = s.channels ∧ t.issue.hazards = s.issue.hazards ∧ t.issue.nextKey = s.issue.nextKey
    (∀ i e, plan = .mapset i e → ∃ t, taken t ∧
      t.writer.postQueue = s.writer.postQueue ++ [entry s.map.generation] ∧
      entryAt t.map.staged i = e ∧ (∀ j, j ≠ i → entryAt t.map.staged j = entryAt s.map.staged j) ∧
      t.map = { s.map with staged := t.map.staged }) ∧
    (plan = .maprevert → ∃ t, taken t ∧
      t.writer.postQueue = s.writer.postQueue ++ [entry s.map.generation] ∧
      t.map = { s.map with staged := s.map.current }) ∧
    (plan = .mapswitch → ∃ t, taken t ∧
      t.map.current = s.map.staged ∧ t.map.staged = s.map.staged ∧ t.map.generation = s.map.generation + 1 ∧
      t.map.bound = 0 ∧
      (s.map.bound = 0 →
        t.writer.postQueue = s.writer.postQueue ++ [entry (s.map.generation + 1)] ∧
        t.map.retiring = s.map.retiring ∧ t.map.pendingSwitch = s.map.pendingSwitch) ∧
      (0 < s.map.bound →
        t.writer.postQueue = s.writer.postQueue ∧
        t.map.retiring = some { generation := s.map.generation, bound := s.map.bound } ∧
        t.map.pendingSwitch = some { ring := r, slot := p.slot, tag := p.record.tag }))

/-- R99, R102, R103, R26, R97, R104: a chosen head that is a valid transfer is bound to G, its extents join its ring's hazard list
under a key of the model's that no transfer had before it (log entry 14), and it goes to the lowest-numbered IDLE channel, whose
context is loaded in full and which begins its first step at once (StepBeginsWithItsReads). No entry is made. -/
def Obligations.TransferTaken : Prop :=
  ∀ (r : RingId) (p : Prefetched) (k : Kind) (a b c : Option Extent) (d : Direction) (s : State),
    chosenRing s = some r → verdict s r = .eligible p (.transfer k a b c d) →
    let physOf : Option Extent → List PhysExtent := fun e => (e.map fun e => e.phys).toList
    let writes := match k with
      | .compare => []
      | .split => physOf b ++ physOf c
      | _ => physOf b
    let reads := match k with
      | .compare => physOf a ++ physOf b
      | .split => physOf a
      | _ => physOf a ++ physOf c
    let n := p.record.count.toNat
    let context : Context :=
      { ring := r, slot := p.slot, tag := p.record.tag, key := s.issue.nextKey, kind := k, pad := p.record.pad
        pattern := p.record.pattern, strict := p.record.flags.getLsbD 0, highonly := p.record.flags.getLsbD 1
        generation := s.map.generation, extA := a, extB := b, extC := c, count := n, direction := d
        nextStep := if d = .descending then n - 1 else 0
        elementsDone := 0, residue := none, conflictBeats := 0, pendingAbort := false, ending := none, step := none }
    ∃ t : State, takingOf s t r ∧ t.ring r = takenRing (s.ring r) ∧
      t.writer.postQueue = s.writer.postQueue ∧ t.map = { s.map with bound := s.map.bound + 1 } ∧
      t.channels = s.channels ∧
      t.issue.hazards = s.issue.hazards.set r
        (s.issue.hazards.get r ++ [{ key := s.issue.nextKey, reads := reads, writes := writes }]) ∧
      t.issue.nextKey = s.issue.nextKey + 1 ∧
      (s.channel .c0 = .idle → exec .examination s = .next (t.beginStep .c0 context)) ∧
      (s.channel .c0 ≠ .idle → s.channel .c1 = .idle ∧ exec .examination s = .next (t.beginStep .c1 context))

/-! ## Validation and the window map (chapters 1, 2, 3, 5) -/

/-- R43, R45, R46, R91: the record-level checks, in their order: unknown kind, flag bits, count. A transfer kind with count 0, a FENCE
and a MARK that pass are complete; a MAPREVERT and a MAPSWITCH that pass go to the Map Unit. -/
def Obligations.RecordLevelChecks : Prop :=
  ∀ (m : MapUnit) (profiles : PerDevice (Option Profile)) (x : Record),
    let code := x.kind.toNat
    let transfer := 1 ≤ code ∧ code ≤ 7
    let known := transfer ∨ code = 0x10 ∨ code = 0x11 ∨ code = 0x20 ∨ code = 0x21 ∨ code = 0x22
    let flagsOk := x.flags = 0 ∨ (transfer ∧ x.flags &&& 0xFC#8 = 0)
    let countOk := x.count.toNat ≤ 65536 ∧ (code = 4 ∨ code = 5 → x.count.toNat % 2 = 0)
    let plan := validate m profiles x
    (¬known → plan = .refuse .badKind .none) ∧
    (known → ¬flagsOk → plan = .refuse .badFlags (if code = 0x20 then .address x.a else .none)) ∧
    (transfer → flagsOk → ¬countOk → plan = .refuse .badCount .none) ∧
    (transfer → flagsOk → x.count = 0 → plan = .complete) ∧
    (code = 0x10 ∨ code = 0x11 → flagsOk → plan = .complete) ∧
    (code = 0x21 → flagsOk → plan = .maprevert) ∧
    (code = 0x22 → flagsOk → plan = .mapswitch)

/-- R45: the valid counts of a transfer kind. With its kind known and its flag bits allowed, a record is refused with BAD_COUNT
exactly when its count is above 65,536, or odd for PACK and UNPACK, whatever its extents; an even PACK or UNPACK count from 43,692 on
that passes is refused at resolution, since no window of a valid table is larger than 65,536 words; a control kind's count makes no
difference. -/
def Obligations.ValidCounts : Prop :=
  ∀ (m : MapUnit) (profiles : PerDevice (Option Profile)) (x : Record) (k : Kind),
    Kind.ofCode x.kind = some k →
    (k.isTransfer = true → x.flags &&& 0xFC#8 = 0 →
      ((∃ d, validate m profiles x = .refuse .badCount d) ↔
        65536 < x.count.toNat ∨ ((k = .pack ∨ k = .unpack) ∧ x.count.toNat % 2 = 1)) ∧
      ((∀ i, (entryAt m.current i).sizeCode.toNat ≤ 8) → (k = .pack ∨ k = .unpack) → x.count.toNat % 2 = 0 →
        43692 ≤ x.count.toNat → x.count.toNat ≤ 65536 →
        ∃ st d, validate m profiles x = .refuse st d ∧ (st = .mapMiss ∨ st = .rangeSplit))) ∧
    (k.isTransfer = false → ∀ n, validate m profiles { x with count := n } = validate m profiles x)

/-- R8, R10, R11, R2, R7: an extent resolves in the enabled entry that contains its first word, when that contains its last word too;
it is RANGE_SPLIT when it does not, and MAP_MISS when no enabled entry contains its first word. Through a valid entry the words found
lie below the target's capacity. -/
def Obligations.ExtentResolution : Prop :=
  ∀ (table : WindowTable) (profiles : PerDevice (Option Profile)) (L : LogicalAddr) (n : Nat),
    0 < n → tableDisjoint table →
    let contains : BitVec 4 → Nat → Prop := fun i a => (entryAt table i).enabled = true ∧
      (entryAt table i).logicalBase.toNat ≤ a ∧
      a ≤ (entryAt table i).logicalBase.toNat + 256 * 2 ^ (entryAt table i).sizeCode.toNat - 1
    let width : Target → Option Width := fun t => match t with
      | .bank b => if b = .p0 ∨ b = .p1 then some .w24 else some .w16
      | .device d => (profiles.get d).map fun p => p.width
    ((∀ i, ¬contains i L.toNat) → resolve table profiles L n = .miss) ∧
    (∀ i, contains i L.toNat → ¬contains i (L.toNat + n - 1) → resolve table profiles L n = .split) ∧
    ∀ i w, contains i L.toNat → contains i (L.toNat + n - 1) → width (entryAt table i).target = some w →
      let e := entryAt table i
      let first := e.targetBase.toNat + (L.toNat - e.logicalBase.toNat)
      resolve table profiles L n =
        .found { start := L, phys := { target := e.target, first := first, last := first + n - 1 }, width := w } e.wp ∧
      (windowValid profiles e = true → ∀ cap, targetCapacity profiles e.target = some cap → first + n - 1 < cap)

/-- R91 to R95, R12, R14, R16, R44, R48: checks 4 to 9 of a transfer with count above 0, in their order, each with the extent it
names; a record that passes them all is a valid transfer with its extents as resolved, DESCENDING exactly for a COPY whose B overlaps
its A and begins above it. -/
def Obligations.TransferChecks : Prop :=
  ∀ (m : MapUnit) (profiles : PerDevice (Option Profile)) (x : Record) (k : Kind) (E : ExtentName → Extent) (W : ExtentName → Bool),
    Kind.ofCode x.kind = some k → k.isTransfer = true → x.flags &&& 0xFC#8 = 0 → 0 < x.count.toNat → x.count.toNat ≤ 65536 →
    (k = .pack ∨ k = .unpack → x.count.toNat % 2 = 0) →
    let N := x.count.toNat
    let names : ExtentName → Option Nat := fun e => match k, e with
      | .fill, .b => some N
      | .fill, _ => none
      | .pack, .b => some (3 * N / 2)
      | .unpack, .a => some (3 * N / 2)
      | .split, .c => some ((N + 1) / 2)
      | .join, .c => some ((N + 1) / 2)
      | _, .c => none
      | _, _ => some N
    let addr : ExtentName → LogicalAddr := fun e => match e with
      | .a => x.a
      | .b => x.b
      | .c => x.c
    let before : ExtentName → ExtentName → Prop := fun e f => match e, f with
      | .a, .b | .a, .c | .b, .c => True
      | _, _ => False
    let found : ExtentName → Prop := fun e => ∀ n, names e = some n → resolve m.current profiles (addr e) n = .found (E e) (W e)
    let plan := validate m profiles x
    (∀ e n, names e = some n → (∀ f, before f e → found f) → resolve m.current profiles (addr e) n = .miss →
      plan = .refuse .mapMiss (.address (addr e))) ∧
    (∀ e n, names e = some n → (∀ f, before f e → found f) → resolve m.current profiles (addr e) n = .split →
      plan = .refuse .rangeSplit (.address (addr e))) ∧
    ((∀ e, found e) →
      let widthWrong : ExtentName → Prop := fun e => match k, e with
        | .compare, .b => (E .a).width ≠ (E .b).width
        | .pack, .a => (E .a).width ≠ .w24
        | .pack, .b => (E .b).width ≠ .w16
        | .unpack, .a => (E .a).width ≠ .w16
        | .unpack, .b => (E .b).width ≠ .w24
        | .split, .a => (E .a).width ≠ .w24
        | .split, .b => (E .b).width ≠ .w16
        | .split, .c => (E .c).width ≠ .w16
        | .join, .a => (E .a).width ≠ .w16
        | .join, .b => (E .b).width ≠ .w24
        | .join, .c => (E .c).width ≠ .w16
        | _, _ => False
      let flagsFit :=
        (x.flags.getLsbD 0 = true → k = .copy ∧ (E .a).width = .w24 ∧ (E .b).width = .w16) ∧
        (x.flags.getLsbD 1 = true → k = .compare ∧ (E .a).width = .w24 ∧ (E .b).width = .w24)
      let written : ExtentName → Prop := fun e => (e = .b ∧ k ≠ .compare) ∨ (e = .c ∧ k = .split)
      let protectedBy : ExtentName → Prop := fun e => written e ∧ W e = true
      let readOnly : ExtentName → Prop := fun e => written e ∧
        ∃ d pr, (E e).phys.target = .device d ∧ profiles.get d = some pr ∧ pr.writable = false
      let overlap : ExtentName → ExtentName → Prop := fun e f => (E e).phys.target = (E f).phys.target ∧
        (E e).phys.first ≤ (E f).phys.last ∧ (E f).phys.first ≤ (E e).phys.last
      let overlapping : ExtentName → Prop := fun e => k ≠ .copy ∧ written e ∧ ∃ f, f ≠ e ∧ (names f).isSome ∧ overlap e f
      let firstOf : (ExtentName → Prop) → ExtentName → Prop := fun bad e => bad e ∧ ∀ f, before f e → ¬bad f
      let none4 := ∀ e, ¬widthWrong e
      let none6 := none4 ∧ flagsFit
      let none7 := none6 ∧ ∀ e, ¬protectedBy e
      let none8 := none7 ∧ ∀ e, ¬readOnly e
      let direction : Direction :=
        if k = .copy ∧ (E .a).phys.target = (E .b).phys.target ∧ (E .a).phys.first ≤ (E .b).phys.last ∧
          (E .b).phys.first ≤ (E .a).phys.last ∧ (E .a).phys.first < (E .b).phys.first then .descending else .ascending
      let extent : ExtentName → Option Extent := fun e => (names e).map fun _ => E e
      (∀ e, firstOf widthWrong e → plan = .refuse .widthMismatch (.address (addr e))) ∧
      (none4 → ¬flagsFit → plan = .refuse .badFlags .none) ∧
      (∀ e, none6 → firstOf protectedBy e → plan = .refuse .writeProtect (.address (addr e))) ∧
      (∀ e, none7 → firstOf readOnly e → plan = .refuse .deviceReadonly (.address (addr e))) ∧
      (∀ e, none8 → firstOf overlapping e → plan = .refuse .overlap (.address (addr e))) ∧
      (none8 → (∀ e, ¬overlapping e) → plan = .transfer k (extent .a) (extent .b) (extent .c) direction))

/-- R28, R7, R29: the checks of a MAPSET without flags, in their order: the descriptor (a disabled entry needs only its size code and
target code valid), the lock of the current entry at its index, the overlap with another enabled staged entry. One that passes writes
all seven fields of the staged entry. -/
def Obligations.MapsetChecks : Prop :=
  ∀ (m : MapUnit) (profiles : PerDevice (Option Profile)) (x : Record), x.kind = 0x20 → x.flags = 0 →
    let size := 256 * 2 ^ x.sizeCode.toNat
    let capacity : Option Nat := match x.targetCode.toNat with
      | 0 | 1 | 2 | 3 => some 32768
      | 4 | 5 => some 16384
      | 6 => (profiles.get .x0).map fun p => 2 ^ p.sizeCode.toNat
      | 7 => (profiles.get .x1).map fun p => 2 ^ p.sizeCode.toNat
      | 8 => (profiles.get .x2).map fun p => 2 ^ p.sizeCode.toNat
      | _ => none
    let valid := x.sizeCode.toNat ≤ 8 ∧ x.targetCode.toNat ≤ 8 ∧
      (x.enabled = true →
        x.a.toNat % size = 0 ∧ x.b.toNat % 256 = 0 ∧ ∃ cap, capacity = some cap ∧ x.b.toNat + size ≤ cap)
    let locked := (entryAt m.current x.index).lock = true
    let overlaps := x.enabled = true ∧ ∃ j, j ≠ x.index ∧ (entryAt m.staged j).enabled = true ∧
      ∃ a, x.a.toNat ≤ a ∧ a < x.a.toNat + size ∧ (entryAt m.staged j).logicalBase.toNat ≤ a ∧
        a < (entryAt m.staged j).logicalBase.toNat + 256 * 2 ^ (entryAt m.staged j).sizeCode.toNat
    let plan := validate m profiles x
    (¬valid → plan = .refuse .windowInvalid (.address x.a)) ∧
    (valid → locked → plan = .refuse .windowLocked (.address x.a)) ∧
    (valid → ¬locked → overlaps → plan = .refuse .windowOverlap (.address x.a)) ∧
    (valid → ¬locked → ¬overlaps → ∃ e : WindowEntry, plan = .mapset x.index e ∧
      e.enabled = x.enabled ∧ e.logicalBase = x.a ∧ e.sizeCode = x.sizeCode ∧ e.targetBase = x.b ∧ e.wp = x.wp ∧
      e.lock = x.lock ∧
      e.target = match x.targetCode.toNat with
        | 0 => .bank .d0
        | 1 => .bank .d1
        | 2 => .bank .d2
        | 3 => .bank .d3
        | 4 => .bank .p0
        | 5 => .bank .p1
        | 6 => .device .x0
        | 7 => .device .x1
        | _ => .device .x2)

/-! ## Rules of the whole part -/

/-- R24 (and R23, R32, R30, R29, R39, R40): G is advanced by one, modulo 256, by each MAPSWITCH taken, is 0 after power-on reset, and
is changed by nothing else. The current table is replaced by a MAPSWITCH taken and by power-on reset alone; the staged table changes
by a MAPSET, MAPREVERT or MAPSWITCH taken and by a reset alone, and after each of these but MAPSET it equals the current table. -/
def Obligations.GenerationAndTablesChange : Prop :=
  ∀ (c : Instr) (s t : State), exec c s = .next t →
    let taken : Plan → Prop := fun plan => c = .examination ∧ ∃ r p, chosenRing s = some r ∧ verdict s r = .eligible p plan
    (c = .powerOnReset → t.map.generation = 0) ∧
    (c ≠ .powerOnReset → taken .mapswitch → t.map.generation = s.map.generation + 1) ∧
    (c ≠ .powerOnReset → ¬taken .mapswitch → t.map.generation = s.map.generation) ∧
    (taken .mapswitch → t.map.current = s.map.staged) ∧
    (c ≠ .powerOnReset → ¬taken .mapswitch → t.map.current = s.map.current) ∧
    (isReset c ∨ taken .maprevert ∨ taken .mapswitch → t.map.staged = t.map.current) ∧
    (¬isReset c → ¬taken .maprevert → ¬taken .mapswitch → (∀ i e, ¬taken (.mapset i e)) → t.map.staged = s.map.staged)

/-- R159, R78: the entries at which EVENT is set, and no others: a fault taken in HALTED sets none (log entry 16). A flush with
nothing to flush enters STOPPED from STOPPED too (log entry 18), and an ENABLE whose block does not fit enters OFF from LOADING,
within the one command. Both resets clear INTSTAT and set nothing; a host clear apart, EVENT stays as it was otherwise. -/
def Obligations.EventEntries : Prop :=
  ∀ (c : Instr) (s t : State), exec c s = .next t →
    let ringEnters := ∃ r,
      ((t.ring r).phase = .stopped ∧ (s.ring r).phase ≠ .stopped) ∨
      ((t.ring r).phase = .faulted ∧ (s.ring r).phase ≠ .faulted) ∨
      (c = .flush r ∧ s.control.part ≠ .halted ∧ (s.ring r).phase = .stopped ∧ (t.ring r).phase = .stopped)
    let partEnters :=
      (t.control.part = .quiesced ∧ s.control.part ≠ .quiesced) ∨ (t.control.part = .halted ∧ s.control.part ≠ .halted) ∨
      (t.control.part = .off ∧ s.control.part = .loading) ∨
      ((∃ m, c = .enable m) ∧ s.control.part = .off ∧ t.control.part = .off)
    let marked := ∃ r, t.ringManager.ringsChanged.get r = true ∧ s.ringManager.ringsChanged.get r = false
    (¬isReset c → ringEnters ∨ partEnters ∨ marked → t.coalescer.intstat.event = true) ∧
    (¬isReset c → (∀ w, c ≠ .intstatWrite w) → ¬ringEnters → ¬partEnters →
      t.coalescer.intstat.event = s.coalescer.intstat.event) ∧
    (isReset c → t.coalescer.intstat = { cq0 := false, cq1 := false, event := false })

/-- R174, R38, R84, R114, R137, R150, R161, R154, R157: in HALTED no command but a reset changes the part state or the fault record,
the map, a wait reason, a ring state or count but by a fetch already in service that ends, a completion ring, a hazard list, a
coalescing count or a device profile; no access and no completion write is requested, no channel leaves its state, and nothing joins
the post queue. The entry being written leaves when its write ends whole, and the oldest one whose write failed when its fault is
taken (R153; log entry 31). -/
def Obligations.HaltedFreezes : Prop :=
  ∀ (c : Instr) (s t : State), s.control.part = .halted → ¬isReset c → exec c s = .next t →
    (∀ q, (s.coalescer.cqs.get q).timer = false) →
    t.control.part = .halted ∧ t.control.faultRecord = s.control.faultRecord ∧
      t.control.setupError = s.control.setupError ∧ t.map = s.map ∧ t.issue = s.issue ∧
      t.ports.profiles = s.ports.profiles ∧ t.writer.cqs = s.writer.cqs ∧ t.coalescer.cqs = s.coalescer.cqs ∧
      t.mport.fetchWaiting = s.mport.fetchWaiting ∧ t.mport.setupWaiting = s.mport.setupWaiting ∧
      t.mport.lastFetch = s.mport.lastFetch ∧
      (t.mport.inService = s.mport.inService ∨ t.mport.inService = none) ∧
      (∀ r, ∃ joined n, t.ring r = { s.ring r with queue := (s.ring r).queue ++ joined, fetch := (s.ring r).fetch + n } ∧
        (joined ≠ [] → ∃ host req, c = .fetchComplete host true ∧ s.mport.inService = some ⟨.fetch r req, .live⟩) ∧
        n = BitVec.ofNat 16 joined.length) ∧
      (t.writer.postQueue = s.writer.postQueue ∨
        ∃ lost e rest, s.writer.postQueue = lost ++ e :: rest ∧ t.writer.postQueue = lost ++ rest ∧
          ((c = .completionWrite .done ∧ (∃ fate, s.mport.inService = some ⟨.completionWrite, fate⟩) ∧
              lost.length = (s.mport.errors.filter fun f => decide (f.kind = .postWrite)).length) ∨
            (c = .mailboxFault ∧ lost = [] ∧ ∃ a errors, s.mport.errors = ⟨.postWrite, a⟩ :: errors))) ∧
      (∀ h, s.channel h = .idle → t.channel h = .idle) ∧
      (∀ h x, s.channel h = .ending x → ∃ n, t.channel h = .ending { x with conflictBeats := n }) ∧
      (∀ h x, s.channel h = .running x → ∃ y, t.channel h = .running y ∧ sameTransfer x y)

/-! ## Invariants: laws that every step keeps, from every state that has them -/

/-- R41, R138: every step keeps both memories in the canonical form, with every address below its memory's capacity (R2). -/
def Obligations.MemoriesStayCanonical : Prop :=
  ∀ s t : State, memoriesWf s = true → step s = .next t → memoriesWf t = true

/-- R9, R17, R18, R23: every step keeps the entries of each table apart and the staged copy of each locked entry equal to it; a locked
entry of the current table keeps its contents under every command but power-on reset. -/
def Obligations.MapLawsKept : Prop :=
  (∀ s t : State, mapDisjoint s → step s = .next t → mapDisjoint t) ∧
  (∀ s t : State, locksHold s → step s = .next t → locksHold t) ∧
  ∀ (c : Instr) (s t : State), locksHold s → exec c s = .next t → c ≠ .powerOnReset →
    ∀ i, (entryAt s.map.current i).lock = true → entryAt t.map.current i = entryAt s.map.current i

/-- R5, R7, R20: every step keeps every entry of both tables valid while the part takes records, and in the other states what R7 says
apart from the devices. R2, R11, R104, R106: every step keeps each bank beat, requested, waiting or in service, below its bank's
capacity. So a command of the table meets no word that its bank does not have, and answers a next state (log entry 23). -/
def Obligations.TablesAndBeatsStayInside : Prop :=
  (∀ s t : State, tablesValid s → step s = .next t → tablesValid t) ∧
  (∀ s t : State, tablesValid s → beatsInside s → step s = .next t → beatsInside t) ∧
  ∀ (c : Instr) (s : State), beatsInside s → c.wf = true → ∃ t, exec c s = .next t

/-- R22, R26, R27, R33, R34, R37: every step keeps the bound counts equal to the transfers on the channels, with the retiring record
at G - 1 and the pending switch beside it. R169, R171, R37: every step keeps the part QUIESCED only while nothing is on a channel and
no switch is pending, and draining only while one of these holds. -/
def Obligations.BindingAndDrainKept : Prop :=
  (∀ s t : State, bindingLaw s → step s = .next t → bindingLaw t) ∧
  (∀ s t : State, drainLaw s → step s = .next t → drainLaw t)

/-- R56 to R63, R71: every step keeps the law of each ring's counts, queue and fetches. R58, R67, R70, R75: every step keeps the wait
reason and the fault cause a ring reads within its state. -/
def Obligations.RingLawsKept : Prop :=
  (∀ s t : State, ringsLaw s → step s = .next t → ringsLaw t) ∧
  (∀ s t : State, ringReportsLaw s → step s = .next t → ringReportsLaw t)

/-- R54, R66, R69, R89, R154: every step keeps a ring's in-flight count equal to the number of its records that stand on a channel, in
the post queue or as the pending switch, and at most 11; in HALTED, where the count is frozen, it may stand above that number (R153);
STOPPED has none in flight and STOPPING has some. The bound counts are true (BindingAndDrainKept) and the post queue is within its
eight entries (CompletionLawsKept). -/
def Obligations.InFlightLawKept : Prop :=
  ∀ s t : State, bindingLaw s → postQueueLaw s → inFlightLaw s → step s = .next t → inFlightLaw t

/-- R148, R74, R76: every step keeps the reservations and written records of a completion ring within its depth, and every record that
will complete there counted among its reservations. The bound counts are true (BindingAndDrainKept). -/
def Obligations.ReservationLawKept : Prop :=
  ∀ s t : State, bindingLaw s → reservationLaw s → step s = .next t → reservationLaw t

/-- R149, R152, R156, R157, R172, R173: every step keeps the post queue within its eight entries, the phase of each completion ring at 1 exactly
while the tail divided by the depth is even, and the coalescing count of an enabled ring below its threshold, with its timer running
outside HALTED while it is above 0. It keeps at most one failed access waiting for the Control Unit, and in HALTED that of the last
access (log entry 16). -/
def Obligations.CompletionLawsKept : Prop :=
  (∀ s t : State, postQueueLaw s → step s = .next t → postQueueLaw t) ∧
  (∀ s t : State, phaseLaw s → step s = .next t → phaseLaw t) ∧
  (∀ s t : State, coalescingLaw s → step s = .next t → coalescingLaw t) ∧
  ∀ s t : State, faultsLaw s → step s = .next t → faultsLaw t

/-- R97, R98: every step keeps the entries of each hazard list free of a hazard with one another, and each transfer on a channel or in
the post queue listed in its ring's list under its own key with its extents, with nothing else listed outside HALTED; so two transfers
of one ring on the channels have no written extent of one overlapping an extent of the other. R81: no change that could make a head
eligible goes unnoticed: from every state in which a RUNNING part with no examination due has no eligible head, every step leads to
such a state (log entries 12 and 14). -/
def Obligations.IssueLawsKept : Prop :=
  (∀ s t : State, hazardLaw s → step s = .next t → hazardLaw t) ∧
  (∀ s t : State, postQueueLaw s → transfersListed s → step s = .next t → transfersListed t) ∧
  (∀ (s : State) (c d : ChannelId) (x y : Context), hazardLaw s → transfersListed s → c ≠ d →
    (s.channel c).context = some x → (s.channel d).context = some y → x.ring = y.ring →
    ∀ e ∈ planExtents x.kind x.extA x.extB x.extC true,
      ∀ f ∈ planExtents y.kind y.extA y.extB y.extC true ++ planExtents y.kind y.extA y.extB y.extC false,
        physOverlap e f = false) ∧
  (∀ s t : State, wakeLaw s → step s = .next t → wakeLaw t)

/-- R175, R176: every law holds right after power-on reset. -/
def Obligations.LawsHoldAtReset : Prop :=
  memoriesWf State.reset = true ∧ mapDisjoint State.reset ∧ locksHold State.reset ∧ tablesValid State.reset ∧ beatsInside State.reset ∧
  bindingLaw State.reset ∧
  drainLaw State.reset ∧ ringsLaw State.reset ∧ ringReportsLaw State.reset ∧ inFlightLaw State.reset ∧
  reservationLaw State.reset ∧ postQueueLaw State.reset ∧ phaseLaw State.reset ∧ coalescingLaw State.reset ∧ faultsLaw State.reset ∧
  hazardLaw State.reset ∧ transfersListed State.reset ∧ wakeLaw State.reset ∧ State.reset.pending = []
end

