-- ==== Sys2Proof/Laws/Memory.lean ====
section
/-! SUPPORT. Memory: reads after writes, and that every memory operation keeps the canonical form. -/

namespace Sys2Proof.Machine

variable {α : Type}

/-! ## Lists of pairs with rising addresses -/

@[simp] theorem lookupAt_insertAt_same (m : List (Nat × α)) (a : Nat) (v : α) : lookupAt (insertAt m a v) a = some v := by
  induction m with
  | nil => simp [insertAt, lookupAt]
  | cons c rest ih =>
    obtain ⟨k, w⟩ := c
    unfold insertAt
    split
    · simp [lookupAt]
    · split <;> simp_all [lookupAt]

@[simp] theorem lookupAt_insertAt_other (m : List (Nat × α)) {a b : Nat} (v : α) (h : b ≠ a) :
    lookupAt (insertAt m a v) b = lookupAt m b := by
  induction m with
  | nil => simp [insertAt, lookupAt, h.symm]
  | cons c rest ih =>
    obtain ⟨k, w⟩ := c
    unfold insertAt
    split
    · next e => subst e; simp [lookupAt, h.symm]
    · split <;> simp_all [lookupAt, h.symm]

theorem risingFrom_mono {lo lo' : Nat} (h : lo' ≤ lo) {m : List (Nat × α)} (hm : risingFrom lo m = true) : risingFrom lo' m = true := by
  cases m with
  | nil => rfl
  | cons c rest =>
    simp only [risingFrom, Bool.and_eq_true, decide_eq_true_eq] at hm ⊢
    exact ⟨Nat.le_trans h hm.1, hm.2⟩

theorem lookupAt_below {lo a : Nat} (h : a < lo) {m : List (Nat × α)} (hm : risingFrom lo m = true) : lookupAt m a = none := by
  induction m generalizing lo with
  | nil => rfl
  | cons c rest ih =>
    simp only [risingFrom, Bool.and_eq_true, decide_eq_true_eq] at hm
    have hne : c.1 ≠ a := by omega
    simp only [lookupAt, hne, if_false]
    exact ih (by omega) hm.2

theorem lookupAt_eraseAt_same {lo : Nat} {m : List (Nat × α)} (hm : risingFrom lo m = true) (a : Nat) :
    lookupAt (eraseAt m a) a = none := by
  induction m generalizing lo with
  | nil => rfl
  | cons c rest ih =>
    simp only [risingFrom, Bool.and_eq_true, decide_eq_true_eq] at hm
    unfold eraseAt
    split
    · next e => subst e; exact lookupAt_below (Nat.lt_succ_self _) hm.2
    · next e => simp [lookupAt, e, ih hm.2]

theorem lookupAt_eraseAt_other (m : List (Nat × α)) {a b : Nat} (h : b ≠ a) : lookupAt (eraseAt m a) b = lookupAt m b := by
  induction m with
  | nil => rfl
  | cons c rest ih =>
    unfold eraseAt
    split
    · next e => subst e; simp [lookupAt, h.symm]
    · next e => by_cases hk : c.1 = b <;> simp [lookupAt, hk, ih]

theorem risingFrom_insertAt {lo : Nat} {m : List (Nat × α)} (hm : risingFrom lo m = true) {a : Nat} (ha : lo ≤ a) (v : α) :
    risingFrom lo (insertAt m a v) = true := by
  induction m generalizing lo with
  | nil => simp [insertAt, risingFrom, ha]
  | cons c rest ih =>
    obtain ⟨k, w⟩ := c
    simp only [risingFrom, Bool.and_eq_true, decide_eq_true_eq] at hm
    unfold insertAt
    split
    · next e => subst e; simp [risingFrom, hm.1, hm.2]
    · next e =>
      split
      · next hlt => simp [risingFrom, ha, hm.2]; omega
      · next hlt =>
        simp only [risingFrom, Bool.and_eq_true, decide_eq_true_eq]
        exact ⟨hm.1, ih hm.2 (by omega)⟩

theorem risingFrom_eraseAt {lo : Nat} {m : List (Nat × α)} (hm : risingFrom lo m = true) (a : Nat) :
    risingFrom lo (eraseAt m a) = true := by
  induction m generalizing lo with
  | nil => rfl
  | cons c rest ih =>
    obtain ⟨k, w⟩ := c
    simp only [risingFrom, Bool.and_eq_true, decide_eq_true_eq] at hm
    unfold eraseAt
    split
    · exact risingFrom_mono (by omega) hm.2
    · simp only [risingFrom, Bool.and_eq_true, decide_eq_true_eq]
      exact ⟨hm.1, ih hm.2⟩

theorem all_insertAt {p : Nat × α → Bool} {m : List (Nat × α)} (hm : m.all p = true) {a : Nat} {v : α} (hp : p (a, v) = true) :
    (insertAt m a v).all p = true := by
  induction m with
  | nil => simp [insertAt, hp]
  | cons c rest ih =>
    obtain ⟨k, w⟩ := c
    simp only [List.all_cons, Bool.and_eq_true] at hm
    unfold insertAt
    split
    · simp only [List.all_cons, Bool.and_eq_true]; exact ⟨hp, hm.2⟩
    · split
      · simp only [List.all_cons, Bool.and_eq_true]; exact ⟨hp, hm.1, hm.2⟩
      · simp only [List.all_cons, Bool.and_eq_true]; exact ⟨hm.1, ih hm.2⟩

theorem all_eraseAt {p : Nat × α → Bool} {m : List (Nat × α)} (hm : m.all p = true) (a : Nat) : (eraseAt m a).all p = true := by
  induction m with
  | nil => rfl
  | cons c rest ih =>
    obtain ⟨k, w⟩ := c
    simp only [List.all_cons, Bool.and_eq_true] at hm
    unfold eraseAt
    split
    · exact hm.2
    · simp only [List.all_cons, Bool.and_eq_true]; exact ⟨hm.1, ih hm.2⟩

/-! ## Mailbox memory -/

theorem Memory.wf_iff (m : MailboxMemory) :
    Memory.wf m = true ↔ risingFrom 0 m = true ∧ (m.all fun c => decide (c.1 < 65536) && decide (c.2 ≠ 0)) = true := by
  simp [Memory.wf, rising]

theorem Memory.wf_setByte {m : MailboxMemory} (hm : Memory.wf m = true) (a : MailboxAddr) (v : Byte) :
    Memory.wf (mailboxSetByte m a v) = true := by
  rw [Memory.wf_iff] at hm ⊢
  unfold mailboxSetByte
  split
  · exact ⟨risingFrom_eraseAt hm.1 _, all_eraseAt hm.2 _⟩
  · next h =>
    refine ⟨risingFrom_insertAt hm.1 (Nat.zero_le _) _, all_insertAt hm.2 ?_⟩
    simp only [Bool.and_eq_true, decide_eq_true_eq]
    exact ⟨a.isLt, h⟩

theorem Memory.wf_setWord {m : MailboxMemory} (hm : Memory.wf m = true) (a : MailboxAddr) (w : Word32) :
    Memory.wf (mailboxSetWord m a w) = true :=
  Memory.wf_setByte (Memory.wf_setByte (Memory.wf_setByte (Memory.wf_setByte hm ..) ..) ..) ..

theorem Memory.wf_host {m : MailboxMemory} (hm : Memory.wf m = true) (ws : List HostWrite) : Memory.wf (mailboxHost m ws) = true := by
  unfold mailboxHost
  induction ws generalizing m with
  | nil => exact hm
  | cons w rest ih => exact ih (Memory.wf_setByte hm ..)

theorem Memory.wf_putWords {m : MailboxMemory} (hm : Memory.wf m = true) (a : MailboxAddr) (w : Vector Word32 4)
    (is : List (Fin 4)) : Memory.wf (putWords m a w is) = true := by
  unfold putWords
  induction is generalizing m with
  | nil => exact hm
  | cons i rest ih => exact ih (Memory.wf_setWord hm ..)

/-- A byte written is the byte read, and no other byte changes. -/
theorem mailboxByte_setByte {m : MailboxMemory} (hm : Memory.wf m = true) (a b : MailboxAddr) (v : Byte) :
    mailboxByte (mailboxSetByte m a v) b = if b = a then v else mailboxByte m b := by
  have hr := ((Memory.wf_iff m).1 hm).1
  unfold mailboxByte mailboxSetByte
  by_cases hba : b = a
  · subst hba
    split
    · next h => simp [lookupAt_eraseAt_same hr, h]
    · simp
  · have hn : b.toNat ≠ a.toNat := fun e => hba (BitVec.eq_of_toNat_eq e)
    split
    · simp [lookupAt_eraseAt_other _ hn]
    · simp [lookupAt_insertAt_other _ _ hn]

/-! ## Bank words -/

theorem bankWf_iff (b : BankId) (m : BankMemory) :
    bankWf b m = true ↔ risingFrom 0 m = true ∧ (m.all fun c => decide (c.1 < Config.bankCapacity b)) = true := by
  simp [bankWf, rising]

theorem bankWf_set {b : BankId} {m : BankMemory} (hm : bankWf b m = true) {offset : Nat} (h : offset < Config.bankCapacity b)
    (w : BankWord) : bankWf b (bankSet m offset w) = true := by
  rw [bankWf_iff] at hm ⊢
  exact ⟨risingFrom_insertAt hm.1 (Nat.zero_le _) _, all_insertAt hm.2 (by simpa using h)⟩

@[simp] theorem bankWord_set_same (m : BankMemory) (offset : Nat) (w : BankWord) : bankWord (bankSet m offset w) offset = some w :=
  lookupAt_insertAt_same ..

@[simp] theorem bankWord_set_other (m : BankMemory) {offset o : Nat} (w : BankWord) (h : o ≠ offset) :
    bankWord (bankSet m offset w) o = bankWord m o :=
  lookupAt_insertAt_other _ _ h

theorem bankWf_outside {b : BankId} {m m' : BankMemory} {ws : List OutsideWrite} (hm : bankWf b m = true)
    (h : outsideWrites b m ws = some m') : bankWf b m' = true := by
  induction ws generalizing m with
  | nil => simp only [outsideWrites, Option.some.injEq] at h; exact h ▸ hm
  | cons w rest ih =>
    unfold outsideWrites at h
    split at h
    · next hlt => exact ih (bankWf_set hm hlt _) h
    · exact absurd h (by simp)

theorem bankWf_afterReset (s : State) (b : BankId) (h : bankWf b (s.banks.get b) = true) : bankWf b (bankAfterReset s b) = true := by
  unfold bankAfterReset
  split
  · split
    · next hc =>
      simp only [Bool.and_eq_true, decide_eq_true_eq] at hc
      exact bankWf_set h hc.2 _
    · exact h
  · exact h

theorem Memory.wf_afterReset (s : State) (h : Memory.wf s.mailbox = true) : Memory.wf (mailboxAfterReset s) = true := by
  unfold mailboxAfterReset
  split
  · have hput : ∀ {m : MailboxMemory} (a : MailboxAddr) (w : Word32) (yes : Bool), Memory.wf m = true →
        Memory.wf (if yes then mailboxSetWord m a w else m) = true := by
      intro m a w yes hm
      split
      · exact Memory.wf_setWord hm ..
      · exact hm
    exact hput _ _ _ (hput _ _ _ (hput _ _ _ (hput _ _ _ h)))
  · exact h

end Sys2Proof.Machine
end

