-- ==== Sys2Proof/Laws/State.lean ====
section
/-! SUPPORT. What each named update of `State` leaves in each field: one lemma per field and update, and reads after writes of the
families of like things. -/

namespace Sys2Proof.Machine

/-! ## Families of like things -/

@[simp] theorem PerRing.get_set_same {α : Type} (p : PerRing α) (i : RingId) (a : α) : (p.set i a).get i = a := by
  cases i <;> rfl

@[simp] theorem PerRing.get_set_other {α : Type} (p : PerRing α) {i j : RingId} (a : α) (h : j ≠ i) : (p.set i a).get j = p.get j := by
  cases i <;> cases j <;> first | rfl | exact absurd rfl h

theorem PerRing.get_set {α : Type} (p : PerRing α) (i j : RingId) (a : α) : (p.set i a).get j = if j = i then a else p.get j := by
  cases i <;> cases j <;> rfl

@[simp] theorem PerRing.set_get {α : Type} (p : PerRing α) (i : RingId) : p.set i (p.get i) = p := by
  cases i <;> rfl

@[simp] theorem PerRing.get_all {α : Type} (a : α) (i : RingId) : (PerRing.all a).get i = a := by
  cases i <;> rfl

theorem PerRing.ext_get {α : Type} {p q : PerRing α} (h : ∀ i, p.get i = q.get i) : p = q := by
  cases p; cases q
  simp only [PerRing.mk.injEq]
  refine ⟨h .sq0, h .sq1, h .sq2, h .sq3⟩

@[simp] theorem PerCq.get_set_same {α : Type} (p : PerCq α) (i : CqId) (a : α) : (p.set i a).get i = a := by
  cases i <;> rfl

@[simp] theorem PerCq.get_set_other {α : Type} (p : PerCq α) {i j : CqId} (a : α) (h : j ≠ i) : (p.set i a).get j = p.get j := by
  cases i <;> cases j <;> first | rfl | exact absurd rfl h

theorem PerCq.get_set {α : Type} (p : PerCq α) (i j : CqId) (a : α) : (p.set i a).get j = if j = i then a else p.get j := by
  cases i <;> cases j <;> rfl

@[simp] theorem PerCq.set_get {α : Type} (p : PerCq α) (i : CqId) : p.set i (p.get i) = p := by
  cases i <;> rfl

@[simp] theorem PerCq.get_all {α : Type} (a : α) (i : CqId) : (PerCq.all a).get i = a := by
  cases i <;> rfl

theorem PerCq.ext_get {α : Type} {p q : PerCq α} (h : ∀ i, p.get i = q.get i) : p = q := by
  cases p; cases q
  simp only [PerCq.mk.injEq]
  refine ⟨h .cq0, h .cq1⟩

@[simp] theorem PerChannel.get_set_same {α : Type} (p : PerChannel α) (i : ChannelId) (a : α) : (p.set i a).get i = a := by
  cases i <;> rfl

@[simp] theorem PerChannel.get_set_other {α : Type} (p : PerChannel α) {i j : ChannelId} (a : α) (h : j ≠ i) : (p.set i a).get j = p.get j := by
  cases i <;> cases j <;> first | rfl | exact absurd rfl h

theorem PerChannel.get_set {α : Type} (p : PerChannel α) (i j : ChannelId) (a : α) : (p.set i a).get j = if j = i then a else p.get j := by
  cases i <;> cases j <;> rfl

@[simp] theorem PerChannel.set_get {α : Type} (p : PerChannel α) (i : ChannelId) : p.set i (p.get i) = p := by
  cases i <;> rfl

@[simp] theorem PerChannel.get_all {α : Type} (a : α) (i : ChannelId) : (PerChannel.all a).get i = a := by
  cases i <;> rfl

theorem PerChannel.ext_get {α : Type} {p q : PerChannel α} (h : ∀ i, p.get i = q.get i) : p = q := by
  cases p; cases q
  simp only [PerChannel.mk.injEq]
  refine ⟨h .c0, h .c1⟩

@[simp] theorem PerBank.get_set_same {α : Type} (p : PerBank α) (i : BankId) (a : α) : (p.set i a).get i = a := by
  cases i <;> rfl

@[simp] theorem PerBank.get_set_other {α : Type} (p : PerBank α) {i j : BankId} (a : α) (h : j ≠ i) : (p.set i a).get j = p.get j := by
  cases i <;> cases j <;> first | rfl | exact absurd rfl h

theorem PerBank.get_set {α : Type} (p : PerBank α) (i j : BankId) (a : α) : (p.set i a).get j = if j = i then a else p.get j := by
  cases i <;> cases j <;> rfl

@[simp] theorem PerBank.set_get {α : Type} (p : PerBank α) (i : BankId) : p.set i (p.get i) = p := by
  cases i <;> rfl

@[simp] theorem PerBank.get_all {α : Type} (a : α) (i : BankId) : (PerBank.all a).get i = a := by
  cases i <;> rfl

theorem PerBank.ext_get {α : Type} {p q : PerBank α} (h : ∀ i, p.get i = q.get i) : p = q := by
  cases p; cases q
  simp only [PerBank.mk.injEq]
  refine ⟨h .d0, h .d1, h .d2, h .d3, h .p0, h .p1⟩

@[simp] theorem PerArbiter.get_set_same {α : Type} (p : PerArbiter α) (i : ArbiterId) (a : α) : (p.set i a).get i = a := by
  cases i
  · exact PerBank.get_set_same ..
  · rfl

@[simp] theorem PerArbiter.get_set_other {α : Type} (p : PerArbiter α) {i j : ArbiterId} (a : α) (h : j ≠ i) :
    (p.set i a).get j = p.get j := by
  cases i <;> cases j
  · exact PerBank.get_set_other _ _ fun e => h (congrArg _ e)
  · rfl
  · rfl
  · exact absurd rfl h

theorem PerArbiter.get_set {α : Type} (p : PerArbiter α) (i j : ArbiterId) (a : α) :
    (p.set i a).get j = if j = i then a else p.get j := by
  by_cases h : j = i
  · subst h; simp
  · simp [h]

@[simp] theorem PerArbiter.get_all {α : Type} (a : α) (i : ArbiterId) : (PerArbiter.all a).get i = a := by
  cases i
  · exact PerBank.get_all ..
  · rfl

@[simp] theorem PerDevice.get_all {α : Type} (a : α) (d : DeviceId) : (PerDevice.all a).get d = a := by
  cases d <;> rfl

/-! ## Updates of the state -/

/-! ### State.setPart -/

@[simp] theorem State.setPart_control (s : State) (p : PartState) : (s.setPart p).control = { s.control with part := p } := rfl
@[simp] theorem State.setPart_ringManager (s : State) (p : PartState) : (s.setPart p).ringManager = s.ringManager := rfl
@[simp] theorem State.setPart_issue (s : State) (p : PartState) : (s.setPart p).issue = s.issue := rfl
@[simp] theorem State.setPart_map (s : State) (p : PartState) : (s.setPart p).map = s.map := rfl
@[simp] theorem State.setPart_channels (s : State) (p : PartState) : (s.setPart p).channels = s.channels := rfl
@[simp] theorem State.setPart_ports (s : State) (p : PartState) : (s.setPart p).ports = s.ports := rfl
@[simp] theorem State.setPart_banks (s : State) (p : PartState) : (s.setPart p).banks = s.banks := rfl
@[simp] theorem State.setPart_writer (s : State) (p : PartState) : (s.setPart p).writer = s.writer := rfl
@[simp] theorem State.setPart_coalescer (s : State) (p : PartState) : (s.setPart p).coalescer = s.coalescer := rfl
@[simp] theorem State.setPart_mport (s : State) (p : PartState) : (s.setPart p).mport = s.mport := rfl
@[simp] theorem State.setPart_mailbox (s : State) (p : PartState) : (s.setPart p).mailbox = s.mailbox := rfl
@[simp] theorem State.setPart_freeIndex (s : State) (p : PartState) : (s.setPart p).freeIndex = s.freeIndex := rfl
@[simp] theorem State.setPart_pending (s : State) (p : PartState) : (s.setPart p).pending = s.pending := rfl
@[simp] theorem State.setPart_ring (s : State) (p : PartState) (r' : RingId) : (s.setPart p).ring r' = s.ring r' := rfl
@[simp] theorem State.setPart_channel (s : State) (p : PartState) (c' : ChannelId) : (s.setPart p).channel c' = s.channel c' := rfl
@[simp] theorem State.setPart_arbiter (s : State) (p : PartState) (i' : ArbiterId) : (s.setPart p).arbiter i' = s.arbiter i' := rfl
@[simp] theorem State.setPart_cq (s : State) (p : PartState) (c' : CqId) : (s.setPart p).cq c' = s.cq c' := rfl

/-! ### State.setMask -/

@[simp] theorem State.setMask_control (s : State) (m : Sources) : (s.setMask m).control = { s.control with mask := m } := rfl
@[simp] theorem State.setMask_ringManager (s : State) (m : Sources) : (s.setMask m).ringManager = s.ringManager := rfl
@[simp] theorem State.setMask_issue (s : State) (m : Sources) : (s.setMask m).issue = s.issue := rfl
@[simp] theorem State.setMask_map (s : State) (m : Sources) : (s.setMask m).map = s.map := rfl
@[simp] theorem State.setMask_channels (s : State) (m : Sources) : (s.setMask m).channels = s.channels := rfl
@[simp] theorem State.setMask_ports (s : State) (m : Sources) : (s.setMask m).ports = s.ports := rfl
@[simp] theorem State.setMask_banks (s : State) (m : Sources) : (s.setMask m).banks = s.banks := rfl
@[simp] theorem State.setMask_writer (s : State) (m : Sources) : (s.setMask m).writer = s.writer := rfl
@[simp] theorem State.setMask_coalescer (s : State) (m : Sources) : (s.setMask m).coalescer = s.coalescer := rfl
@[simp] theorem State.setMask_mport (s : State) (m : Sources) : (s.setMask m).mport = s.mport := rfl
@[simp] theorem State.setMask_mailbox (s : State) (m : Sources) : (s.setMask m).mailbox = s.mailbox := rfl
@[simp] theorem State.setMask_freeIndex (s : State) (m : Sources) : (s.setMask m).freeIndex = s.freeIndex := rfl
@[simp] theorem State.setMask_pending (s : State) (m : Sources) : (s.setMask m).pending = s.pending := rfl
@[simp] theorem State.setMask_ring (s : State) (m : Sources) (r' : RingId) : (s.setMask m).ring r' = s.ring r' := rfl
@[simp] theorem State.setMask_channel (s : State) (m : Sources) (c' : ChannelId) : (s.setMask m).channel c' = s.channel c' := rfl
@[simp] theorem State.setMask_arbiter (s : State) (m : Sources) (i' : ArbiterId) : (s.setMask m).arbiter i' = s.arbiter i' := rfl
@[simp] theorem State.setMask_cq (s : State) (m : Sources) (c' : CqId) : (s.setMask m).cq c' = s.cq c' := rfl

/-! ### State.refuseControl -/

@[simp] theorem State.refuseControl_control (s : State) : (s.refuseControl).control = { s.control with refused := true } := rfl
@[simp] theorem State.refuseControl_ringManager (s : State) : (s.refuseControl).ringManager = s.ringManager := rfl
@[simp] theorem State.refuseControl_issue (s : State) : (s.refuseControl).issue = s.issue := rfl
@[simp] theorem State.refuseControl_map (s : State) : (s.refuseControl).map = s.map := rfl
@[simp] theorem State.refuseControl_channels (s : State) : (s.refuseControl).channels = s.channels := rfl
@[simp] theorem State.refuseControl_ports (s : State) : (s.refuseControl).ports = s.ports := rfl
@[simp] theorem State.refuseControl_banks (s : State) : (s.refuseControl).banks = s.banks := rfl
@[simp] theorem State.refuseControl_writer (s : State) : (s.refuseControl).writer = s.writer := rfl
@[simp] theorem State.refuseControl_coalescer (s : State) : (s.refuseControl).coalescer = s.coalescer := rfl
@[simp] theorem State.refuseControl_mport (s : State) : (s.refuseControl).mport = s.mport := rfl
@[simp] theorem State.refuseControl_mailbox (s : State) : (s.refuseControl).mailbox = s.mailbox := rfl
@[simp] theorem State.refuseControl_freeIndex (s : State) : (s.refuseControl).freeIndex = s.freeIndex := rfl
@[simp] theorem State.refuseControl_pending (s : State) : (s.refuseControl).pending = s.pending := rfl
@[simp] theorem State.refuseControl_ring (s : State) (r' : RingId) : (s.refuseControl).ring r' = s.ring r' := rfl
@[simp] theorem State.refuseControl_channel (s : State) (c' : ChannelId) : (s.refuseControl).channel c' = s.channel c' := rfl
@[simp] theorem State.refuseControl_arbiter (s : State) (i' : ArbiterId) : (s.refuseControl).arbiter i' = s.arbiter i' := rfl
@[simp] theorem State.refuseControl_cq (s : State) (c' : CqId) : (s.refuseControl).cq c' = s.cq c' := rfl

/-! ### State.setEvent -/

@[simp] theorem State.setEvent_control (s : State) : (s.setEvent).control = s.control := rfl
@[simp] theorem State.setEvent_ringManager (s : State) : (s.setEvent).ringManager = s.ringManager := rfl
@[simp] theorem State.setEvent_issue (s : State) : (s.setEvent).issue = s.issue := rfl
@[simp] theorem State.setEvent_map (s : State) : (s.setEvent).map = s.map := rfl
@[simp] theorem State.setEvent_channels (s : State) : (s.setEvent).channels = s.channels := rfl
@[simp] theorem State.setEvent_ports (s : State) : (s.setEvent).ports = s.ports := rfl
@[simp] theorem State.setEvent_banks (s : State) : (s.setEvent).banks = s.banks := rfl
@[simp] theorem State.setEvent_writer (s : State) : (s.setEvent).writer = s.writer := rfl
@[simp] theorem State.setEvent_coalescer (s : State) : (s.setEvent).coalescer = { s.coalescer with intstat := { s.coalescer.intstat with event := true } } := rfl
@[simp] theorem State.setEvent_mport (s : State) : (s.setEvent).mport = s.mport := rfl
@[simp] theorem State.setEvent_mailbox (s : State) : (s.setEvent).mailbox = s.mailbox := rfl
@[simp] theorem State.setEvent_freeIndex (s : State) : (s.setEvent).freeIndex = s.freeIndex := rfl
@[simp] theorem State.setEvent_pending (s : State) : (s.setEvent).pending = s.pending := rfl
@[simp] theorem State.setEvent_ring (s : State) (r' : RingId) : (s.setEvent).ring r' = s.ring r' := rfl
@[simp] theorem State.setEvent_channel (s : State) (c' : ChannelId) : (s.setEvent).channel c' = s.channel c' := rfl
@[simp] theorem State.setEvent_arbiter (s : State) (i' : ArbiterId) : (s.setEvent).arbiter i' = s.arbiter i' := rfl
@[simp] theorem State.setEvent_cq (s : State) (c' : CqId) : (s.setEvent).cq c' = s.cq c' := rfl

/-! ### State.setRing -/

@[simp] theorem State.setRing_control (s : State) (r : RingId) (g : Ring) : (s.setRing r g).control = s.control := rfl
@[simp] theorem State.setRing_ringManager (s : State) (r : RingId) (g : Ring) : (s.setRing r g).ringManager = { s.ringManager with rings := s.ringManager.rings.set r g } := rfl
@[simp] theorem State.setRing_issue (s : State) (r : RingId) (g : Ring) : (s.setRing r g).issue = s.issue := rfl
@[simp] theorem State.setRing_map (s : State) (r : RingId) (g : Ring) : (s.setRing r g).map = s.map := rfl
@[simp] theorem State.setRing_channels (s : State) (r : RingId) (g : Ring) : (s.setRing r g).channels = s.channels := rfl
@[simp] theorem State.setRing_ports (s : State) (r : RingId) (g : Ring) : (s.setRing r g).ports = s.ports := rfl
@[simp] theorem State.setRing_banks (s : State) (r : RingId) (g : Ring) : (s.setRing r g).banks = s.banks := rfl
@[simp] theorem State.setRing_writer (s : State) (r : RingId) (g : Ring) : (s.setRing r g).writer = s.writer := rfl
@[simp] theorem State.setRing_coalescer (s : State) (r : RingId) (g : Ring) : (s.setRing r g).coalescer = s.coalescer := rfl
@[simp] theorem State.setRing_mport (s : State) (r : RingId) (g : Ring) : (s.setRing r g).mport = s.mport := rfl
@[simp] theorem State.setRing_mailbox (s : State) (r : RingId) (g : Ring) : (s.setRing r g).mailbox = s.mailbox := rfl
@[simp] theorem State.setRing_freeIndex (s : State) (r : RingId) (g : Ring) : (s.setRing r g).freeIndex = s.freeIndex := rfl
@[simp] theorem State.setRing_pending (s : State) (r : RingId) (g : Ring) : (s.setRing r g).pending = s.pending := rfl
@[simp] theorem State.setRing_channel (s : State) (r : RingId) (g : Ring) (c' : ChannelId) : (s.setRing r g).channel c' = s.channel c' := rfl
@[simp] theorem State.setRing_arbiter (s : State) (r : RingId) (g : Ring) (i' : ArbiterId) : (s.setRing r g).arbiter i' = s.arbiter i' := rfl
@[simp] theorem State.setRing_cq (s : State) (r : RingId) (g : Ring) (c' : CqId) : (s.setRing r g).cq c' = s.cq c' := rfl

/-! ### State.selectRing -/

@[simp] theorem State.selectRing_control (s : State) (r : RingId) : (s.selectRing r).control = s.control := rfl
@[simp] theorem State.selectRing_ringManager (s : State) (r : RingId) : (s.selectRing r).ringManager = { s.ringManager with selected := r } := rfl
@[simp] theorem State.selectRing_issue (s : State) (r : RingId) : (s.selectRing r).issue = s.issue := rfl
@[simp] theorem State.selectRing_map (s : State) (r : RingId) : (s.selectRing r).map = s.map := rfl
@[simp] theorem State.selectRing_channels (s : State) (r : RingId) : (s.selectRing r).channels = s.channels := rfl
@[simp] theorem State.selectRing_ports (s : State) (r : RingId) : (s.selectRing r).ports = s.ports := rfl
@[simp] theorem State.selectRing_banks (s : State) (r : RingId) : (s.selectRing r).banks = s.banks := rfl
@[simp] theorem State.selectRing_writer (s : State) (r : RingId) : (s.selectRing r).writer = s.writer := rfl
@[simp] theorem State.selectRing_coalescer (s : State) (r : RingId) : (s.selectRing r).coalescer = s.coalescer := rfl
@[simp] theorem State.selectRing_mport (s : State) (r : RingId) : (s.selectRing r).mport = s.mport := rfl
@[simp] theorem State.selectRing_mailbox (s : State) (r : RingId) : (s.selectRing r).mailbox = s.mailbox := rfl
@[simp] theorem State.selectRing_freeIndex (s : State) (r : RingId) : (s.selectRing r).freeIndex = s.freeIndex := rfl
@[simp] theorem State.selectRing_pending (s : State) (r : RingId) : (s.selectRing r).pending = s.pending := rfl
@[simp] theorem State.selectRing_ring (s : State) (r : RingId) (r' : RingId) : (s.selectRing r).ring r' = s.ring r' := rfl
@[simp] theorem State.selectRing_channel (s : State) (r : RingId) (c' : ChannelId) : (s.selectRing r).channel c' = s.channel c' := rfl
@[simp] theorem State.selectRing_arbiter (s : State) (r : RingId) (i' : ArbiterId) : (s.selectRing r).arbiter i' = s.arbiter i' := rfl
@[simp] theorem State.selectRing_cq (s : State) (r : RingId) (c' : CqId) : (s.selectRing r).cq c' = s.cq c' := rfl

/-! ### State.refuseRingctl -/

@[simp] theorem State.refuseRingctl_control (s : State) : (s.refuseRingctl).control = s.control := rfl
@[simp] theorem State.refuseRingctl_ringManager (s : State) : (s.refuseRingctl).ringManager = { s.ringManager with ringctlRefused := true } := rfl
@[simp] theorem State.refuseRingctl_issue (s : State) : (s.refuseRingctl).issue = s.issue := rfl
@[simp] theorem State.refuseRingctl_map (s : State) : (s.refuseRingctl).map = s.map := rfl
@[simp] theorem State.refuseRingctl_channels (s : State) : (s.refuseRingctl).channels = s.channels := rfl
@[simp] theorem State.refuseRingctl_ports (s : State) : (s.refuseRingctl).ports = s.ports := rfl
@[simp] theorem State.refuseRingctl_banks (s : State) : (s.refuseRingctl).banks = s.banks := rfl
@[simp] theorem State.refuseRingctl_writer (s : State) : (s.refuseRingctl).writer = s.writer := rfl
@[simp] theorem State.refuseRingctl_coalescer (s : State) : (s.refuseRingctl).coalescer = s.coalescer := rfl
@[simp] theorem State.refuseRingctl_mport (s : State) : (s.refuseRingctl).mport = s.mport := rfl
@[simp] theorem State.refuseRingctl_mailbox (s : State) : (s.refuseRingctl).mailbox = s.mailbox := rfl
@[simp] theorem State.refuseRingctl_freeIndex (s : State) : (s.refuseRingctl).freeIndex = s.freeIndex := rfl
@[simp] theorem State.refuseRingctl_pending (s : State) : (s.refuseRingctl).pending = s.pending := rfl
@[simp] theorem State.refuseRingctl_ring (s : State) (r' : RingId) : (s.refuseRingctl).ring r' = s.ring r' := rfl
@[simp] theorem State.refuseRingctl_channel (s : State) (c' : ChannelId) : (s.refuseRingctl).channel c' = s.channel c' := rfl
@[simp] theorem State.refuseRingctl_arbiter (s : State) (i' : ArbiterId) : (s.refuseRingctl).arbiter i' = s.arbiter i' := rfl
@[simp] theorem State.refuseRingctl_cq (s : State) (c' : CqId) : (s.refuseRingctl).cq c' = s.cq c' := rfl

/-! ### State.rejectPost -/

@[simp] theorem State.rejectPost_control (s : State) : (s.rejectPost).control = s.control := rfl
@[simp] theorem State.rejectPost_ringManager (s : State) : (s.rejectPost).ringManager = { s.ringManager with postRejected := true } := rfl
@[simp] theorem State.rejectPost_issue (s : State) : (s.rejectPost).issue = s.issue := rfl
@[simp] theorem State.rejectPost_map (s : State) : (s.rejectPost).map = s.map := rfl
@[simp] theorem State.rejectPost_channels (s : State) : (s.rejectPost).channels = s.channels := rfl
@[simp] theorem State.rejectPost_ports (s : State) : (s.rejectPost).ports = s.ports := rfl
@[simp] theorem State.rejectPost_banks (s : State) : (s.rejectPost).banks = s.banks := rfl
@[simp] theorem State.rejectPost_writer (s : State) : (s.rejectPost).writer = s.writer := rfl
@[simp] theorem State.rejectPost_coalescer (s : State) : (s.rejectPost).coalescer = s.coalescer := rfl
@[simp] theorem State.rejectPost_mport (s : State) : (s.rejectPost).mport = s.mport := rfl
@[simp] theorem State.rejectPost_mailbox (s : State) : (s.rejectPost).mailbox = s.mailbox := rfl
@[simp] theorem State.rejectPost_freeIndex (s : State) : (s.rejectPost).freeIndex = s.freeIndex := rfl
@[simp] theorem State.rejectPost_pending (s : State) : (s.rejectPost).pending = s.pending := rfl
@[simp] theorem State.rejectPost_ring (s : State) (r' : RingId) : (s.rejectPost).ring r' = s.ring r' := rfl
@[simp] theorem State.rejectPost_channel (s : State) (c' : ChannelId) : (s.rejectPost).channel c' = s.channel c' := rfl
@[simp] theorem State.rejectPost_arbiter (s : State) (i' : ArbiterId) : (s.rejectPost).arbiter i' = s.arbiter i' := rfl
@[simp] theorem State.rejectPost_cq (s : State) (c' : CqId) : (s.rejectPost).cq c' = s.cq c' := rfl

/-! ### State.reportRing -/

@[simp] theorem State.reportRing_control (s : State) (r : RingId) : (s.reportRing r).control = s.control := rfl
@[simp] theorem State.reportRing_ringManager (s : State) (r : RingId) : (s.reportRing r).ringManager = { s.ringManager with ringsChanged := s.ringManager.ringsChanged.set r true } := rfl
@[simp] theorem State.reportRing_issue (s : State) (r : RingId) : (s.reportRing r).issue = s.issue := rfl
@[simp] theorem State.reportRing_map (s : State) (r : RingId) : (s.reportRing r).map = s.map := rfl
@[simp] theorem State.reportRing_channels (s : State) (r : RingId) : (s.reportRing r).channels = s.channels := rfl
@[simp] theorem State.reportRing_ports (s : State) (r : RingId) : (s.reportRing r).ports = s.ports := rfl
@[simp] theorem State.reportRing_banks (s : State) (r : RingId) : (s.reportRing r).banks = s.banks := rfl
@[simp] theorem State.reportRing_writer (s : State) (r : RingId) : (s.reportRing r).writer = s.writer := rfl
@[simp] theorem State.reportRing_coalescer (s : State) (r : RingId) : (s.reportRing r).coalescer = { s.coalescer with intstat := { s.coalescer.intstat with event := true } } := rfl
@[simp] theorem State.reportRing_mport (s : State) (r : RingId) : (s.reportRing r).mport = s.mport := rfl
@[simp] theorem State.reportRing_mailbox (s : State) (r : RingId) : (s.reportRing r).mailbox = s.mailbox := rfl
@[simp] theorem State.reportRing_freeIndex (s : State) (r : RingId) : (s.reportRing r).freeIndex = s.freeIndex := rfl
@[simp] theorem State.reportRing_pending (s : State) (r : RingId) : (s.reportRing r).pending = s.pending := rfl
@[simp] theorem State.reportRing_ring (s : State) (r : RingId) (r' : RingId) : (s.reportRing r).ring r' = s.ring r' := rfl
@[simp] theorem State.reportRing_channel (s : State) (r : RingId) (c' : ChannelId) : (s.reportRing r).channel c' = s.channel c' := rfl
@[simp] theorem State.reportRing_arbiter (s : State) (r : RingId) (i' : ArbiterId) : (s.reportRing r).arbiter i' = s.arbiter i' := rfl
@[simp] theorem State.reportRing_cq (s : State) (r : RingId) (c' : CqId) : (s.reportRing r).cq c' = s.cq c' := rfl

/-! ### State.examineDue -/

@[simp] theorem State.examineDue_control (s : State) : (s.examineDue).control = s.control := rfl
@[simp] theorem State.examineDue_ringManager (s : State) : (s.examineDue).ringManager = s.ringManager := rfl
@[simp] theorem State.examineDue_issue (s : State) : (s.examineDue).issue = { s.issue with due := true } := rfl
@[simp] theorem State.examineDue_map (s : State) : (s.examineDue).map = s.map := rfl
@[simp] theorem State.examineDue_channels (s : State) : (s.examineDue).channels = s.channels := rfl
@[simp] theorem State.examineDue_ports (s : State) : (s.examineDue).ports = s.ports := rfl
@[simp] theorem State.examineDue_banks (s : State) : (s.examineDue).banks = s.banks := rfl
@[simp] theorem State.examineDue_writer (s : State) : (s.examineDue).writer = s.writer := rfl
@[simp] theorem State.examineDue_coalescer (s : State) : (s.examineDue).coalescer = s.coalescer := rfl
@[simp] theorem State.examineDue_mport (s : State) : (s.examineDue).mport = s.mport := rfl
@[simp] theorem State.examineDue_mailbox (s : State) : (s.examineDue).mailbox = s.mailbox := rfl
@[simp] theorem State.examineDue_freeIndex (s : State) : (s.examineDue).freeIndex = s.freeIndex := rfl
@[simp] theorem State.examineDue_pending (s : State) : (s.examineDue).pending = s.pending := rfl
@[simp] theorem State.examineDue_ring (s : State) (r' : RingId) : (s.examineDue).ring r' = s.ring r' := rfl
@[simp] theorem State.examineDue_channel (s : State) (c' : ChannelId) : (s.examineDue).channel c' = s.channel c' := rfl
@[simp] theorem State.examineDue_arbiter (s : State) (i' : ArbiterId) : (s.examineDue).arbiter i' = s.arbiter i' := rfl
@[simp] theorem State.examineDue_cq (s : State) (c' : CqId) : (s.examineDue).cq c' = s.cq c' := rfl

/-! ### State.setHazards -/

@[simp] theorem State.setHazards_control (s : State) (r : RingId) (h : List Hazard) : (s.setHazards r h).control = s.control := rfl
@[simp] theorem State.setHazards_ringManager (s : State) (r : RingId) (h : List Hazard) : (s.setHazards r h).ringManager = s.ringManager := rfl
@[simp] theorem State.setHazards_issue (s : State) (r : RingId) (h : List Hazard) : (s.setHazards r h).issue = { s.issue with hazards := s.issue.hazards.set r h } := rfl
@[simp] theorem State.setHazards_map (s : State) (r : RingId) (h : List Hazard) : (s.setHazards r h).map = s.map := rfl
@[simp] theorem State.setHazards_channels (s : State) (r : RingId) (h : List Hazard) : (s.setHazards r h).channels = s.channels := rfl
@[simp] theorem State.setHazards_ports (s : State) (r : RingId) (h : List Hazard) : (s.setHazards r h).ports = s.ports := rfl
@[simp] theorem State.setHazards_banks (s : State) (r : RingId) (h : List Hazard) : (s.setHazards r h).banks = s.banks := rfl
@[simp] theorem State.setHazards_writer (s : State) (r : RingId) (h : List Hazard) : (s.setHazards r h).writer = s.writer := rfl
@[simp] theorem State.setHazards_coalescer (s : State) (r : RingId) (h : List Hazard) : (s.setHazards r h).coalescer = s.coalescer := rfl
@[simp] theorem State.setHazards_mport (s : State) (r : RingId) (h : List Hazard) : (s.setHazards r h).mport = s.mport := rfl
@[simp] theorem State.setHazards_mailbox (s : State) (r : RingId) (h : List Hazard) : (s.setHazards r h).mailbox = s.mailbox := rfl
@[simp] theorem State.setHazards_freeIndex (s : State) (r : RingId) (h : List Hazard) : (s.setHazards r h).freeIndex = s.freeIndex := rfl
@[simp] theorem State.setHazards_pending (s : State) (r : RingId) (h : List Hazard) : (s.setHazards r h).pending = s.pending := rfl
@[simp] theorem State.setHazards_ring (s : State) (r : RingId) (h : List Hazard) (r' : RingId) : (s.setHazards r h).ring r' = s.ring r' := rfl
@[simp] theorem State.setHazards_channel (s : State) (r : RingId) (h : List Hazard) (c' : ChannelId) : (s.setHazards r h).channel c' = s.channel c' := rfl
@[simp] theorem State.setHazards_arbiter (s : State) (r : RingId) (h : List Hazard) (i' : ArbiterId) : (s.setHazards r h).arbiter i' = s.arbiter i' := rfl
@[simp] theorem State.setHazards_cq (s : State) (r : RingId) (h : List Hazard) (c' : CqId) : (s.setHazards r h).cq c' = s.cq c' := rfl

/-! ### State.listTransfer -/

@[simp] theorem State.listTransfer_control (s : State) (r : RingId) (rs ws : List PhysExtent) : (s.listTransfer r rs ws).control = s.control := rfl
@[simp] theorem State.listTransfer_ringManager (s : State) (r : RingId) (rs ws : List PhysExtent) : (s.listTransfer r rs ws).ringManager = s.ringManager := rfl
@[simp] theorem State.listTransfer_issue (s : State) (r : RingId) (rs ws : List PhysExtent) : (s.listTransfer r rs ws).issue = 
    { s.issue with
      hazards := s.issue.hazards.set r (s.issue.hazards.get r ++ [⟨s.issue.nextKey, rs, ws⟩]), nextKey := s.issue.nextKey + 1 } := rfl
@[simp] theorem State.listTransfer_map (s : State) (r : RingId) (rs ws : List PhysExtent) : (s.listTransfer r rs ws).map = s.map := rfl
@[simp] theorem State.listTransfer_channels (s : State) (r : RingId) (rs ws : List PhysExtent) : (s.listTransfer r rs ws).channels = s.channels := rfl
@[simp] theorem State.listTransfer_ports (s : State) (r : RingId) (rs ws : List PhysExtent) : (s.listTransfer r rs ws).ports = s.ports := rfl
@[simp] theorem State.listTransfer_banks (s : State) (r : RingId) (rs ws : List PhysExtent) : (s.listTransfer r rs ws).banks = s.banks := rfl
@[simp] theorem State.listTransfer_writer (s : State) (r : RingId) (rs ws : List PhysExtent) : (s.listTransfer r rs ws).writer = s.writer := rfl
@[simp] theorem State.listTransfer_coalescer (s : State) (r : RingId) (rs ws : List PhysExtent) : (s.listTransfer r rs ws).coalescer = s.coalescer := rfl
@[simp] theorem State.listTransfer_mport (s : State) (r : RingId) (rs ws : List PhysExtent) : (s.listTransfer r rs ws).mport = s.mport := rfl
@[simp] theorem State.listTransfer_mailbox (s : State) (r : RingId) (rs ws : List PhysExtent) : (s.listTransfer r rs ws).mailbox = s.mailbox := rfl
@[simp] theorem State.listTransfer_freeIndex (s : State) (r : RingId) (rs ws : List PhysExtent) : (s.listTransfer r rs ws).freeIndex = s.freeIndex := rfl
@[simp] theorem State.listTransfer_pending (s : State) (r : RingId) (rs ws : List PhysExtent) : (s.listTransfer r rs ws).pending = s.pending := rfl
@[simp] theorem State.listTransfer_ring (s : State) (r : RingId) (rs ws : List PhysExtent) (r' : RingId) : (s.listTransfer r rs ws).ring r' = s.ring r' := rfl
@[simp] theorem State.listTransfer_channel (s : State) (r : RingId) (rs ws : List PhysExtent) (c' : ChannelId) : (s.listTransfer r rs ws).channel c' = s.channel c' := rfl
@[simp] theorem State.listTransfer_arbiter (s : State) (r : RingId) (rs ws : List PhysExtent) (i' : ArbiterId) : (s.listTransfer r rs ws).arbiter i' = s.arbiter i' := rfl
@[simp] theorem State.listTransfer_cq (s : State) (r : RingId) (rs ws : List PhysExtent) (c' : CqId) : (s.listTransfer r rs ws).cq c' = s.cq c' := rfl

/-! ### State.setMap -/

@[simp] theorem State.setMap_control (s : State) (m : MapUnit) : (s.setMap m).control = s.control := rfl
@[simp] theorem State.setMap_ringManager (s : State) (m : MapUnit) : (s.setMap m).ringManager = s.ringManager := rfl
@[simp] theorem State.setMap_issue (s : State) (m : MapUnit) : (s.setMap m).issue = s.issue := rfl
@[simp] theorem State.setMap_map (s : State) (m : MapUnit) : (s.setMap m).map = m := rfl
@[simp] theorem State.setMap_channels (s : State) (m : MapUnit) : (s.setMap m).channels = s.channels := rfl
@[simp] theorem State.setMap_ports (s : State) (m : MapUnit) : (s.setMap m).ports = s.ports := rfl
@[simp] theorem State.setMap_banks (s : State) (m : MapUnit) : (s.setMap m).banks = s.banks := rfl
@[simp] theorem State.setMap_writer (s : State) (m : MapUnit) : (s.setMap m).writer = s.writer := rfl
@[simp] theorem State.setMap_coalescer (s : State) (m : MapUnit) : (s.setMap m).coalescer = s.coalescer := rfl
@[simp] theorem State.setMap_mport (s : State) (m : MapUnit) : (s.setMap m).mport = s.mport := rfl
@[simp] theorem State.setMap_mailbox (s : State) (m : MapUnit) : (s.setMap m).mailbox = s.mailbox := rfl
@[simp] theorem State.setMap_freeIndex (s : State) (m : MapUnit) : (s.setMap m).freeIndex = s.freeIndex := rfl
@[simp] theorem State.setMap_pending (s : State) (m : MapUnit) : (s.setMap m).pending = s.pending := rfl
@[simp] theorem State.setMap_ring (s : State) (m : MapUnit) (r' : RingId) : (s.setMap m).ring r' = s.ring r' := rfl
@[simp] theorem State.setMap_channel (s : State) (m : MapUnit) (c' : ChannelId) : (s.setMap m).channel c' = s.channel c' := rfl
@[simp] theorem State.setMap_arbiter (s : State) (m : MapUnit) (i' : ArbiterId) : (s.setMap m).arbiter i' = s.arbiter i' := rfl
@[simp] theorem State.setMap_cq (s : State) (m : MapUnit) (c' : CqId) : (s.setMap m).cq c' = s.cq c' := rfl

/-! ### State.setChannel -/

@[simp] theorem State.setChannel_control (s : State) (c : ChannelId) (x : Channel) : (s.setChannel c x).control = s.control := rfl
@[simp] theorem State.setChannel_ringManager (s : State) (c : ChannelId) (x : Channel) : (s.setChannel c x).ringManager = s.ringManager := rfl
@[simp] theorem State.setChannel_issue (s : State) (c : ChannelId) (x : Channel) : (s.setChannel c x).issue = s.issue := rfl
@[simp] theorem State.setChannel_map (s : State) (c : ChannelId) (x : Channel) : (s.setChannel c x).map = s.map := rfl
@[simp] theorem State.setChannel_channels (s : State) (c : ChannelId) (x : Channel) : (s.setChannel c x).channels = s.channels.set c x := rfl
@[simp] theorem State.setChannel_ports (s : State) (c : ChannelId) (x : Channel) : (s.setChannel c x).ports = s.ports := rfl
@[simp] theorem State.setChannel_banks (s : State) (c : ChannelId) (x : Channel) : (s.setChannel c x).banks = s.banks := rfl
@[simp] theorem State.setChannel_writer (s : State) (c : ChannelId) (x : Channel) : (s.setChannel c x).writer = s.writer := rfl
@[simp] theorem State.setChannel_coalescer (s : State) (c : ChannelId) (x : Channel) : (s.setChannel c x).coalescer = s.coalescer := rfl
@[simp] theorem State.setChannel_mport (s : State) (c : ChannelId) (x : Channel) : (s.setChannel c x).mport = s.mport := rfl
@[simp] theorem State.setChannel_mailbox (s : State) (c : ChannelId) (x : Channel) : (s.setChannel c x).mailbox = s.mailbox := rfl
@[simp] theorem State.setChannel_freeIndex (s : State) (c : ChannelId) (x : Channel) : (s.setChannel c x).freeIndex = s.freeIndex := rfl
@[simp] theorem State.setChannel_pending (s : State) (c : ChannelId) (x : Channel) : (s.setChannel c x).pending = s.pending := rfl
@[simp] theorem State.setChannel_ring (s : State) (c : ChannelId) (x : Channel) (r' : RingId) : (s.setChannel c x).ring r' = s.ring r' := rfl
@[simp] theorem State.setChannel_arbiter (s : State) (c : ChannelId) (x : Channel) (i' : ArbiterId) : (s.setChannel c x).arbiter i' = s.arbiter i' := rfl
@[simp] theorem State.setChannel_cq (s : State) (c : ChannelId) (x : Channel) (c' : CqId) : (s.setChannel c x).cq c' = s.cq c' := rfl

/-! ### State.setArbiter -/

@[simp] theorem State.setArbiter_control (s : State) (i : ArbiterId) (a : Arbiter) : (s.setArbiter i a).control = s.control := rfl
@[simp] theorem State.setArbiter_ringManager (s : State) (i : ArbiterId) (a : Arbiter) : (s.setArbiter i a).ringManager = s.ringManager := rfl
@[simp] theorem State.setArbiter_issue (s : State) (i : ArbiterId) (a : Arbiter) : (s.setArbiter i a).issue = s.issue := rfl
@[simp] theorem State.setArbiter_map (s : State) (i : ArbiterId) (a : Arbiter) : (s.setArbiter i a).map = s.map := rfl
@[simp] theorem State.setArbiter_channels (s : State) (i : ArbiterId) (a : Arbiter) : (s.setArbiter i a).channels = s.channels := rfl
@[simp] theorem State.setArbiter_ports (s : State) (i : ArbiterId) (a : Arbiter) : (s.setArbiter i a).ports = { s.ports with arbiters := s.ports.arbiters.set i a } := rfl
@[simp] theorem State.setArbiter_banks (s : State) (i : ArbiterId) (a : Arbiter) : (s.setArbiter i a).banks = s.banks := rfl
@[simp] theorem State.setArbiter_writer (s : State) (i : ArbiterId) (a : Arbiter) : (s.setArbiter i a).writer = s.writer := rfl
@[simp] theorem State.setArbiter_coalescer (s : State) (i : ArbiterId) (a : Arbiter) : (s.setArbiter i a).coalescer = s.coalescer := rfl
@[simp] theorem State.setArbiter_mport (s : State) (i : ArbiterId) (a : Arbiter) : (s.setArbiter i a).mport = s.mport := rfl
@[simp] theorem State.setArbiter_mailbox (s : State) (i : ArbiterId) (a : Arbiter) : (s.setArbiter i a).mailbox = s.mailbox := rfl
@[simp] theorem State.setArbiter_freeIndex (s : State) (i : ArbiterId) (a : Arbiter) : (s.setArbiter i a).freeIndex = s.freeIndex := rfl
@[simp] theorem State.setArbiter_pending (s : State) (i : ArbiterId) (a : Arbiter) : (s.setArbiter i a).pending = s.pending := rfl
@[simp] theorem State.setArbiter_ring (s : State) (i : ArbiterId) (a : Arbiter) (r' : RingId) : (s.setArbiter i a).ring r' = s.ring r' := rfl
@[simp] theorem State.setArbiter_channel (s : State) (i : ArbiterId) (a : Arbiter) (c' : ChannelId) : (s.setArbiter i a).channel c' = s.channel c' := rfl
@[simp] theorem State.setArbiter_cq (s : State) (i : ArbiterId) (a : Arbiter) (c' : CqId) : (s.setArbiter i a).cq c' = s.cq c' := rfl

/-! ### State.setBank -/

@[simp] theorem State.setBank_control (s : State) (b : BankId) (m : BankMemory) : (s.setBank b m).control = s.control := rfl
@[simp] theorem State.setBank_ringManager (s : State) (b : BankId) (m : BankMemory) : (s.setBank b m).ringManager = s.ringManager := rfl
@[simp] theorem State.setBank_issue (s : State) (b : BankId) (m : BankMemory) : (s.setBank b m).issue = s.issue := rfl
@[simp] theorem State.setBank_map (s : State) (b : BankId) (m : BankMemory) : (s.setBank b m).map = s.map := rfl
@[simp] theorem State.setBank_channels (s : State) (b : BankId) (m : BankMemory) : (s.setBank b m).channels = s.channels := rfl
@[simp] theorem State.setBank_ports (s : State) (b : BankId) (m : BankMemory) : (s.setBank b m).ports = s.ports := rfl
@[simp] theorem State.setBank_banks (s : State) (b : BankId) (m : BankMemory) : (s.setBank b m).banks = s.banks.set b m := rfl
@[simp] theorem State.setBank_writer (s : State) (b : BankId) (m : BankMemory) : (s.setBank b m).writer = s.writer := rfl
@[simp] theorem State.setBank_coalescer (s : State) (b : BankId) (m : BankMemory) : (s.setBank b m).coalescer = s.coalescer := rfl
@[simp] theorem State.setBank_mport (s : State) (b : BankId) (m : BankMemory) : (s.setBank b m).mport = s.mport := rfl
@[simp] theorem State.setBank_mailbox (s : State) (b : BankId) (m : BankMemory) : (s.setBank b m).mailbox = s.mailbox := rfl
@[simp] theorem State.setBank_freeIndex (s : State) (b : BankId) (m : BankMemory) : (s.setBank b m).freeIndex = s.freeIndex := rfl
@[simp] theorem State.setBank_pending (s : State) (b : BankId) (m : BankMemory) : (s.setBank b m).pending = s.pending := rfl
@[simp] theorem State.setBank_ring (s : State) (b : BankId) (m : BankMemory) (r' : RingId) : (s.setBank b m).ring r' = s.ring r' := rfl
@[simp] theorem State.setBank_channel (s : State) (b : BankId) (m : BankMemory) (c' : ChannelId) : (s.setBank b m).channel c' = s.channel c' := rfl
@[simp] theorem State.setBank_arbiter (s : State) (b : BankId) (m : BankMemory) (i' : ArbiterId) : (s.setBank b m).arbiter i' = s.arbiter i' := rfl
@[simp] theorem State.setBank_cq (s : State) (b : BankId) (m : BankMemory) (c' : CqId) : (s.setBank b m).cq c' = s.cq c' := rfl

/-! ### State.setCq -/

@[simp] theorem State.setCq_control (s : State) (c : CqId) (q : CompletionRing) : (s.setCq c q).control = s.control := rfl
@[simp] theorem State.setCq_ringManager (s : State) (c : CqId) (q : CompletionRing) : (s.setCq c q).ringManager = s.ringManager := rfl
@[simp] theorem State.setCq_issue (s : State) (c : CqId) (q : CompletionRing) : (s.setCq c q).issue = s.issue := rfl
@[simp] theorem State.setCq_map (s : State) (c : CqId) (q : CompletionRing) : (s.setCq c q).map = s.map := rfl
@[simp] theorem State.setCq_channels (s : State) (c : CqId) (q : CompletionRing) : (s.setCq c q).channels = s.channels := rfl
@[simp] theorem State.setCq_ports (s : State) (c : CqId) (q : CompletionRing) : (s.setCq c q).ports = s.ports := rfl
@[simp] theorem State.setCq_banks (s : State) (c : CqId) (q : CompletionRing) : (s.setCq c q).banks = s.banks := rfl
@[simp] theorem State.setCq_writer (s : State) (c : CqId) (q : CompletionRing) : (s.setCq c q).writer = { s.writer with cqs := s.writer.cqs.set c q } := rfl
@[simp] theorem State.setCq_coalescer (s : State) (c : CqId) (q : CompletionRing) : (s.setCq c q).coalescer = s.coalescer := rfl
@[simp] theorem State.setCq_mport (s : State) (c : CqId) (q : CompletionRing) : (s.setCq c q).mport = s.mport := rfl
@[simp] theorem State.setCq_mailbox (s : State) (c : CqId) (q : CompletionRing) : (s.setCq c q).mailbox = s.mailbox := rfl
@[simp] theorem State.setCq_freeIndex (s : State) (c : CqId) (q : CompletionRing) : (s.setCq c q).freeIndex = s.freeIndex := rfl
@[simp] theorem State.setCq_pending (s : State) (c : CqId) (q : CompletionRing) : (s.setCq c q).pending = s.pending := rfl
@[simp] theorem State.setCq_ring (s : State) (c : CqId) (q : CompletionRing) (r' : RingId) : (s.setCq c q).ring r' = s.ring r' := rfl
@[simp] theorem State.setCq_channel (s : State) (c : CqId) (q : CompletionRing) (c' : ChannelId) : (s.setCq c q).channel c' = s.channel c' := rfl
@[simp] theorem State.setCq_arbiter (s : State) (c : CqId) (q : CompletionRing) (i' : ArbiterId) : (s.setCq c q).arbiter i' = s.arbiter i' := rfl

/-! ### State.setPostQueue -/

@[simp] theorem State.setPostQueue_control (s : State) (q : List Completion) : (s.setPostQueue q).control = s.control := rfl
@[simp] theorem State.setPostQueue_ringManager (s : State) (q : List Completion) : (s.setPostQueue q).ringManager = s.ringManager := rfl
@[simp] theorem State.setPostQueue_issue (s : State) (q : List Completion) : (s.setPostQueue q).issue = s.issue := rfl
@[simp] theorem State.setPostQueue_map (s : State) (q : List Completion) : (s.setPostQueue q).map = s.map := rfl
@[simp] theorem State.setPostQueue_channels (s : State) (q : List Completion) : (s.setPostQueue q).channels = s.channels := rfl
@[simp] theorem State.setPostQueue_ports (s : State) (q : List Completion) : (s.setPostQueue q).ports = s.ports := rfl
@[simp] theorem State.setPostQueue_banks (s : State) (q : List Completion) : (s.setPostQueue q).banks = s.banks := rfl
@[simp] theorem State.setPostQueue_writer (s : State) (q : List Completion) : (s.setPostQueue q).writer = { s.writer with postQueue := q } := rfl
@[simp] theorem State.setPostQueue_coalescer (s : State) (q : List Completion) : (s.setPostQueue q).coalescer = s.coalescer := rfl
@[simp] theorem State.setPostQueue_mport (s : State) (q : List Completion) : (s.setPostQueue q).mport = s.mport := rfl
@[simp] theorem State.setPostQueue_mailbox (s : State) (q : List Completion) : (s.setPostQueue q).mailbox = s.mailbox := rfl
@[simp] theorem State.setPostQueue_freeIndex (s : State) (q : List Completion) : (s.setPostQueue q).freeIndex = s.freeIndex := rfl
@[simp] theorem State.setPostQueue_pending (s : State) (q : List Completion) : (s.setPostQueue q).pending = s.pending := rfl
@[simp] theorem State.setPostQueue_ring (s : State) (q : List Completion) (r' : RingId) : (s.setPostQueue q).ring r' = s.ring r' := rfl
@[simp] theorem State.setPostQueue_channel (s : State) (q : List Completion) (c' : ChannelId) : (s.setPostQueue q).channel c' = s.channel c' := rfl
@[simp] theorem State.setPostQueue_arbiter (s : State) (q : List Completion) (i' : ArbiterId) : (s.setPostQueue q).arbiter i' = s.arbiter i' := rfl
@[simp] theorem State.setPostQueue_cq (s : State) (q : List Completion) (c' : CqId) : (s.setPostQueue q).cq c' = s.cq c' := rfl

/-! ### State.writerEntryLeaves -/

@[simp] theorem State.writerEntryLeaves_control (s : State) : s.writerEntryLeaves.control = s.control := rfl
@[simp] theorem State.writerEntryLeaves_ringManager (s : State) : s.writerEntryLeaves.ringManager = s.ringManager := rfl
@[simp] theorem State.writerEntryLeaves_issue (s : State) : s.writerEntryLeaves.issue = s.issue := rfl
@[simp] theorem State.writerEntryLeaves_map (s : State) : s.writerEntryLeaves.map = s.map := rfl
@[simp] theorem State.writerEntryLeaves_channels (s : State) : s.writerEntryLeaves.channels = s.channels := rfl
@[simp] theorem State.writerEntryLeaves_ports (s : State) : s.writerEntryLeaves.ports = s.ports := rfl
@[simp] theorem State.writerEntryLeaves_banks (s : State) : s.writerEntryLeaves.banks = s.banks := rfl
@[simp] theorem State.writerEntryLeaves_writer (s : State) : s.writerEntryLeaves.writer = { s.writer with postQueue := s.writer.postQueue.eraseIdx (failedWrites s) } := rfl
@[simp] theorem State.writerEntryLeaves_coalescer (s : State) : s.writerEntryLeaves.coalescer = s.coalescer := rfl
@[simp] theorem State.writerEntryLeaves_mport (s : State) : s.writerEntryLeaves.mport = s.mport := rfl
@[simp] theorem State.writerEntryLeaves_mailbox (s : State) : s.writerEntryLeaves.mailbox = s.mailbox := rfl
@[simp] theorem State.writerEntryLeaves_freeIndex (s : State) : s.writerEntryLeaves.freeIndex = s.freeIndex := rfl
@[simp] theorem State.writerEntryLeaves_pending (s : State) : s.writerEntryLeaves.pending = s.pending := rfl
@[simp] theorem State.writerEntryLeaves_ring (s : State) (r' : RingId) : s.writerEntryLeaves.ring r' = s.ring r' := rfl
@[simp] theorem State.writerEntryLeaves_channel (s : State) (c' : ChannelId) : s.writerEntryLeaves.channel c' = s.channel c' := rfl
@[simp] theorem State.writerEntryLeaves_arbiter (s : State) (i' : ArbiterId) : s.writerEntryLeaves.arbiter i' = s.arbiter i' := rfl
@[simp] theorem State.writerEntryLeaves_cq (s : State) (c' : CqId) : s.writerEntryLeaves.cq c' = s.cq c' := rfl

/-! ### State.setMPort -/

@[simp] theorem State.setMPort_control (s : State) (m : MPort) : (s.setMPort m).control = s.control := rfl
@[simp] theorem State.setMPort_ringManager (s : State) (m : MPort) : (s.setMPort m).ringManager = s.ringManager := rfl
@[simp] theorem State.setMPort_issue (s : State) (m : MPort) : (s.setMPort m).issue = s.issue := rfl
@[simp] theorem State.setMPort_map (s : State) (m : MPort) : (s.setMPort m).map = s.map := rfl
@[simp] theorem State.setMPort_channels (s : State) (m : MPort) : (s.setMPort m).channels = s.channels := rfl
@[simp] theorem State.setMPort_ports (s : State) (m : MPort) : (s.setMPort m).ports = s.ports := rfl
@[simp] theorem State.setMPort_banks (s : State) (m : MPort) : (s.setMPort m).banks = s.banks := rfl
@[simp] theorem State.setMPort_writer (s : State) (m : MPort) : (s.setMPort m).writer = s.writer := rfl
@[simp] theorem State.setMPort_coalescer (s : State) (m : MPort) : (s.setMPort m).coalescer = s.coalescer := rfl
@[simp] theorem State.setMPort_mport (s : State) (m : MPort) : (s.setMPort m).mport = m := rfl
@[simp] theorem State.setMPort_mailbox (s : State) (m : MPort) : (s.setMPort m).mailbox = s.mailbox := rfl
@[simp] theorem State.setMPort_freeIndex (s : State) (m : MPort) : (s.setMPort m).freeIndex = s.freeIndex := rfl
@[simp] theorem State.setMPort_pending (s : State) (m : MPort) : (s.setMPort m).pending = s.pending := rfl
@[simp] theorem State.setMPort_ring (s : State) (m : MPort) (r' : RingId) : (s.setMPort m).ring r' = s.ring r' := rfl
@[simp] theorem State.setMPort_channel (s : State) (m : MPort) (c' : ChannelId) : (s.setMPort m).channel c' = s.channel c' := rfl
@[simp] theorem State.setMPort_arbiter (s : State) (m : MPort) (i' : ArbiterId) : (s.setMPort m).arbiter i' = s.arbiter i' := rfl
@[simp] theorem State.setMPort_cq (s : State) (m : MPort) (c' : CqId) : (s.setMPort m).cq c' = s.cq c' := rfl

/-! ### State.reportFault -/

@[simp] theorem State.reportFault_control (s : State) (k : FaultKind) (a : MailboxAddr) : (s.reportFault k a).control = s.control := rfl
@[simp] theorem State.reportFault_ringManager (s : State) (k : FaultKind) (a : MailboxAddr) : (s.reportFault k a).ringManager = s.ringManager := rfl
@[simp] theorem State.reportFault_issue (s : State) (k : FaultKind) (a : MailboxAddr) : (s.reportFault k a).issue = s.issue := rfl
@[simp] theorem State.reportFault_map (s : State) (k : FaultKind) (a : MailboxAddr) : (s.reportFault k a).map = s.map := rfl
@[simp] theorem State.reportFault_channels (s : State) (k : FaultKind) (a : MailboxAddr) : (s.reportFault k a).channels = s.channels := rfl
@[simp] theorem State.reportFault_ports (s : State) (k : FaultKind) (a : MailboxAddr) : (s.reportFault k a).ports = s.ports := rfl
@[simp] theorem State.reportFault_banks (s : State) (k : FaultKind) (a : MailboxAddr) : (s.reportFault k a).banks = s.banks := rfl
@[simp] theorem State.reportFault_writer (s : State) (k : FaultKind) (a : MailboxAddr) : (s.reportFault k a).writer = s.writer := rfl
@[simp] theorem State.reportFault_coalescer (s : State) (k : FaultKind) (a : MailboxAddr) : (s.reportFault k a).coalescer = s.coalescer := rfl
@[simp] theorem State.reportFault_mport (s : State) (k : FaultKind) (a : MailboxAddr) : (s.reportFault k a).mport = { s.mport with errors := s.mport.errors ++ [⟨k, a⟩] } := rfl
@[simp] theorem State.reportFault_mailbox (s : State) (k : FaultKind) (a : MailboxAddr) : (s.reportFault k a).mailbox = s.mailbox := rfl
@[simp] theorem State.reportFault_freeIndex (s : State) (k : FaultKind) (a : MailboxAddr) : (s.reportFault k a).freeIndex = s.freeIndex := rfl
@[simp] theorem State.reportFault_pending (s : State) (k : FaultKind) (a : MailboxAddr) : (s.reportFault k a).pending = s.pending := rfl
@[simp] theorem State.reportFault_ring (s : State) (k : FaultKind) (a : MailboxAddr) (r' : RingId) : (s.reportFault k a).ring r' = s.ring r' := rfl
@[simp] theorem State.reportFault_channel (s : State) (k : FaultKind) (a : MailboxAddr) (c' : ChannelId) : (s.reportFault k a).channel c' = s.channel c' := rfl
@[simp] theorem State.reportFault_arbiter (s : State) (k : FaultKind) (a : MailboxAddr) (i' : ArbiterId) : (s.reportFault k a).arbiter i' = s.arbiter i' := rfl
@[simp] theorem State.reportFault_cq (s : State) (k : FaultKind) (a : MailboxAddr) (c' : CqId) : (s.reportFault k a).cq c' = s.cq c' := rfl

/-! ### State.freePort -/

@[simp] theorem State.freePort_control (s : State) : (s.freePort).control = s.control := rfl
@[simp] theorem State.freePort_ringManager (s : State) : (s.freePort).ringManager = s.ringManager := rfl
@[simp] theorem State.freePort_issue (s : State) : (s.freePort).issue = s.issue := rfl
@[simp] theorem State.freePort_map (s : State) : (s.freePort).map = s.map := rfl
@[simp] theorem State.freePort_channels (s : State) : (s.freePort).channels = s.channels := rfl
@[simp] theorem State.freePort_ports (s : State) : (s.freePort).ports = s.ports := rfl
@[simp] theorem State.freePort_banks (s : State) : (s.freePort).banks = s.banks := rfl
@[simp] theorem State.freePort_writer (s : State) : (s.freePort).writer = s.writer := rfl
@[simp] theorem State.freePort_coalescer (s : State) : (s.freePort).coalescer = s.coalescer := rfl
@[simp] theorem State.freePort_mport (s : State) : (s.freePort).mport = { s.mport with inService := none } := rfl
@[simp] theorem State.freePort_mailbox (s : State) : (s.freePort).mailbox = s.mailbox := rfl
@[simp] theorem State.freePort_freeIndex (s : State) : (s.freePort).freeIndex = s.freeIndex := rfl
@[simp] theorem State.freePort_pending (s : State) : (s.freePort).pending = s.pending := rfl
@[simp] theorem State.freePort_ring (s : State) (r' : RingId) : (s.freePort).ring r' = s.ring r' := rfl
@[simp] theorem State.freePort_channel (s : State) (c' : ChannelId) : (s.freePort).channel c' = s.channel c' := rfl
@[simp] theorem State.freePort_arbiter (s : State) (i' : ArbiterId) : (s.freePort).arbiter i' = s.arbiter i' := rfl
@[simp] theorem State.freePort_cq (s : State) (c' : CqId) : (s.freePort).cq c' = s.cq c' := rfl

/-! ### State.reserve -/

@[simp] theorem State.reserve_control (s : State) (c : CqId) : (s.reserve c).control = s.control := rfl
@[simp] theorem State.reserve_ringManager (s : State) (c : CqId) : (s.reserve c).ringManager = s.ringManager := rfl
@[simp] theorem State.reserve_issue (s : State) (c : CqId) : (s.reserve c).issue = s.issue := rfl
@[simp] theorem State.reserve_map (s : State) (c : CqId) : (s.reserve c).map = s.map := rfl
@[simp] theorem State.reserve_channels (s : State) (c : CqId) : (s.reserve c).channels = s.channels := rfl
@[simp] theorem State.reserve_ports (s : State) (c : CqId) : (s.reserve c).ports = s.ports := rfl
@[simp] theorem State.reserve_banks (s : State) (c : CqId) : (s.reserve c).banks = s.banks := rfl
@[simp] theorem State.reserve_writer (s : State) (c : CqId) : (s.reserve c).writer = { s.writer with cqs := s.writer.cqs.set c { s.cq c with reservations := (s.cq c).reservations + 1 } } := rfl
@[simp] theorem State.reserve_coalescer (s : State) (c : CqId) : (s.reserve c).coalescer = s.coalescer := rfl
@[simp] theorem State.reserve_mport (s : State) (c : CqId) : (s.reserve c).mport = s.mport := rfl
@[simp] theorem State.reserve_mailbox (s : State) (c : CqId) : (s.reserve c).mailbox = s.mailbox := rfl
@[simp] theorem State.reserve_freeIndex (s : State) (c : CqId) : (s.reserve c).freeIndex = s.freeIndex := rfl
@[simp] theorem State.reserve_pending (s : State) (c : CqId) : (s.reserve c).pending = s.pending := rfl
@[simp] theorem State.reserve_ring (s : State) (c : CqId) (r' : RingId) : (s.reserve c).ring r' = s.ring r' := rfl
@[simp] theorem State.reserve_channel (s : State) (c : CqId) (c' : ChannelId) : (s.reserve c).channel c' = s.channel c' := rfl
@[simp] theorem State.reserve_arbiter (s : State) (c : CqId) (i' : ArbiterId) : (s.reserve c).arbiter i' = s.arbiter i' := rfl

/-! ### State.release -/

@[simp] theorem State.release_control (s : State) (c : CqId) : (s.release c).control = s.control := rfl
@[simp] theorem State.release_ringManager (s : State) (c : CqId) : (s.release c).ringManager = s.ringManager := rfl
@[simp] theorem State.release_issue (s : State) (c : CqId) : (s.release c).issue = s.issue := rfl
@[simp] theorem State.release_map (s : State) (c : CqId) : (s.release c).map = s.map := rfl
@[simp] theorem State.release_channels (s : State) (c : CqId) : (s.release c).channels = s.channels := rfl
@[simp] theorem State.release_ports (s : State) (c : CqId) : (s.release c).ports = s.ports := rfl
@[simp] theorem State.release_banks (s : State) (c : CqId) : (s.release c).banks = s.banks := rfl
@[simp] theorem State.release_writer (s : State) (c : CqId) : (s.release c).writer = { s.writer with cqs := s.writer.cqs.set c { s.cq c with reservations := (s.cq c).reservations - 1 } } := rfl
@[simp] theorem State.release_coalescer (s : State) (c : CqId) : (s.release c).coalescer = s.coalescer := rfl
@[simp] theorem State.release_mport (s : State) (c : CqId) : (s.release c).mport = s.mport := rfl
@[simp] theorem State.release_mailbox (s : State) (c : CqId) : (s.release c).mailbox = s.mailbox := rfl
@[simp] theorem State.release_freeIndex (s : State) (c : CqId) : (s.release c).freeIndex = s.freeIndex := rfl
@[simp] theorem State.release_pending (s : State) (c : CqId) : (s.release c).pending = s.pending := rfl
@[simp] theorem State.release_ring (s : State) (c : CqId) (r' : RingId) : (s.release c).ring r' = s.ring r' := rfl
@[simp] theorem State.release_channel (s : State) (c : CqId) (c' : ChannelId) : (s.release c).channel c' = s.channel c' := rfl
@[simp] theorem State.release_arbiter (s : State) (c : CqId) (i' : ArbiterId) : (s.release c).arbiter i' = s.arbiter i' := rfl

/-! ### Reads after writes -/

@[simp] theorem State.ring_setRing_same (s : State) (r : RingId) (g : Ring) : (s.setRing r g).ring r = g :=
  PerRing.get_set_same ..

theorem State.ring_setRing (s : State) (r r' : RingId) (g : Ring) : (s.setRing r g).ring r' = if r' = r then g else s.ring r' :=
  PerRing.get_set ..

@[simp] theorem State.ring_setRing_other (s : State) {r r' : RingId} (g : Ring) (h : r' ≠ r) : (s.setRing r g).ring r' = s.ring r' :=
  PerRing.get_set_other _ _ h

@[simp] theorem State.channel_setChannel_same (s : State) (c : ChannelId) (x : Channel) : (s.setChannel c x).channel c = x :=
  PerChannel.get_set_same ..

@[simp] theorem State.channel_setChannel_other (s : State) {c c' : ChannelId} (x : Channel) (h : c' ≠ c) :
    (s.setChannel c x).channel c' = s.channel c' :=
  PerChannel.get_set_other _ _ h

@[simp] theorem State.arbiter_setArbiter_same (s : State) (i : ArbiterId) (a : Arbiter) : (s.setArbiter i a).arbiter i = a :=
  PerArbiter.get_set_same ..

@[simp] theorem State.arbiter_setArbiter_other (s : State) {i i' : ArbiterId} (a : Arbiter) (h : i' ≠ i) :
    (s.setArbiter i a).arbiter i' = s.arbiter i' :=
  PerArbiter.get_set_other _ _ h

@[simp] theorem State.cq_setCq_same (s : State) (c : CqId) (q : CompletionRing) : (s.setCq c q).cq c = q :=
  PerCq.get_set_same ..

@[simp] theorem State.cq_setCq_other (s : State) {c c' : CqId} (q : CompletionRing) (h : c' ≠ c) : (s.setCq c q).cq c' = s.cq c' :=
  PerCq.get_set_other _ _ h

end Sys2Proof.Machine
end

