-- ==== Sys2Proof/Laws/Ops.lean ====
section
/-! SUPPORT. The frame of each shared operation: the fields it leaves alone, one lemma per operation and field, so that no later proof
unfolds an operation to see that it does not reach a block. -/

namespace Sys2Proof.Machine

/-! ## Ops -/

@[simp] theorem State.stopOnError_control (s : State) (r : RingId) (st : Status) : (s.stopOnError r st).control = s.control := by
  unfold State.stopOnError; try dsimp only
  (repeat' split) <;> simp
@[simp] theorem State.stopOnError_issue (s : State) (r : RingId) (st : Status) : (s.stopOnError r st).issue = s.issue := by
  unfold State.stopOnError; try dsimp only
  (repeat' split) <;> simp
@[simp] theorem State.stopOnError_map (s : State) (r : RingId) (st : Status) : (s.stopOnError r st).map = s.map := by
  unfold State.stopOnError; try dsimp only
  (repeat' split) <;> simp
@[simp] theorem State.stopOnError_channels (s : State) (r : RingId) (st : Status) : (s.stopOnError r st).channels = s.channels := by
  unfold State.stopOnError; try dsimp only
  (repeat' split) <;> simp
@[simp] theorem State.stopOnError_ports (s : State) (r : RingId) (st : Status) : (s.stopOnError r st).ports = s.ports := by
  unfold State.stopOnError; try dsimp only
  (repeat' split) <;> simp
@[simp] theorem State.stopOnError_banks (s : State) (r : RingId) (st : Status) : (s.stopOnError r st).banks = s.banks := by
  unfold State.stopOnError; try dsimp only
  (repeat' split) <;> simp
@[simp] theorem State.stopOnError_writer (s : State) (r : RingId) (st : Status) : (s.stopOnError r st).writer = s.writer := by
  unfold State.stopOnError; try dsimp only
  (repeat' split) <;> simp
@[simp] theorem State.stopOnError_coalescer (s : State) (r : RingId) (st : Status) : (s.stopOnError r st).coalescer = s.coalescer := by
  unfold State.stopOnError; try dsimp only
  (repeat' split) <;> simp
@[simp] theorem State.stopOnError_mport (s : State) (r : RingId) (st : Status) : (s.stopOnError r st).mport = s.mport := by
  unfold State.stopOnError; try dsimp only
  (repeat' split) <;> simp
@[simp] theorem State.stopOnError_mailbox (s : State) (r : RingId) (st : Status) : (s.stopOnError r st).mailbox = s.mailbox := by
  unfold State.stopOnError; try dsimp only
  (repeat' split) <;> simp
@[simp] theorem State.stopOnError_freeIndex (s : State) (r : RingId) (st : Status) : (s.stopOnError r st).freeIndex = s.freeIndex := by
  unfold State.stopOnError; try dsimp only
  (repeat' split) <;> simp
@[simp] theorem State.stopOnError_pending (s : State) (r : RingId) (st : Status) : (s.stopOnError r st).pending = s.pending := by
  unfold State.stopOnError; try dsimp only
  (repeat' split) <;> simp

@[simp] theorem State.handEntry_control (s : State) (e : Completion) : (s.handEntry e).control = s.control := by
  simp [State.handEntry]
@[simp] theorem State.handEntry_issue (s : State) (e : Completion) : (s.handEntry e).issue = s.issue := by
  simp [State.handEntry]
@[simp] theorem State.handEntry_map (s : State) (e : Completion) : (s.handEntry e).map = s.map := by
  simp [State.handEntry]
@[simp] theorem State.handEntry_channels (s : State) (e : Completion) : (s.handEntry e).channels = s.channels := by
  simp [State.handEntry]
@[simp] theorem State.handEntry_ports (s : State) (e : Completion) : (s.handEntry e).ports = s.ports := by
  simp [State.handEntry]
@[simp] theorem State.handEntry_banks (s : State) (e : Completion) : (s.handEntry e).banks = s.banks := by
  simp [State.handEntry]
@[simp] theorem State.handEntry_coalescer (s : State) (e : Completion) : (s.handEntry e).coalescer = s.coalescer := by
  simp [State.handEntry]
@[simp] theorem State.handEntry_mport (s : State) (e : Completion) : (s.handEntry e).mport = s.mport := by
  simp [State.handEntry]
@[simp] theorem State.handEntry_mailbox (s : State) (e : Completion) : (s.handEntry e).mailbox = s.mailbox := by
  simp [State.handEntry]
@[simp] theorem State.handEntry_freeIndex (s : State) (e : Completion) : (s.handEntry e).freeIndex = s.freeIndex := by
  simp [State.handEntry]
@[simp] theorem State.handEntry_pending (s : State) (e : Completion) : (s.handEntry e).pending = s.pending := by
  simp [State.handEntry]

@[simp] theorem State.enterStopped_control (s : State) (r : RingId) : (s.enterStopped r).control = s.control := by
  simp [State.enterStopped]
@[simp] theorem State.enterStopped_issue (s : State) (r : RingId) : (s.enterStopped r).issue = s.issue := by
  simp [State.enterStopped]
@[simp] theorem State.enterStopped_map (s : State) (r : RingId) : (s.enterStopped r).map = s.map := by
  simp [State.enterStopped]
@[simp] theorem State.enterStopped_channels (s : State) (r : RingId) : (s.enterStopped r).channels = s.channels := by
  simp [State.enterStopped]
@[simp] theorem State.enterStopped_ports (s : State) (r : RingId) : (s.enterStopped r).ports = s.ports := by
  simp [State.enterStopped]
@[simp] theorem State.enterStopped_banks (s : State) (r : RingId) : (s.enterStopped r).banks = s.banks := by
  simp [State.enterStopped]
@[simp] theorem State.enterStopped_writer (s : State) (r : RingId) : (s.enterStopped r).writer = s.writer := by
  simp [State.enterStopped]
@[simp] theorem State.enterStopped_mport (s : State) (r : RingId) : (s.enterStopped r).mport = s.mport := by
  simp [State.enterStopped]
@[simp] theorem State.enterStopped_mailbox (s : State) (r : RingId) : (s.enterStopped r).mailbox = s.mailbox := by
  simp [State.enterStopped]
@[simp] theorem State.enterStopped_freeIndex (s : State) (r : RingId) : (s.enterStopped r).freeIndex = s.freeIndex := by
  simp [State.enterStopped]
@[simp] theorem State.enterStopped_pending (s : State) (r : RingId) : (s.enterStopped r).pending = s.pending := by
  simp [State.enterStopped]

@[simp] theorem State.endFlush_control (s : State) (r : RingId) : (s.endFlush r).control = s.control := by
  simp [State.endFlush]
@[simp] theorem State.endFlush_issue (s : State) (r : RingId) : (s.endFlush r).issue = s.issue := by
  simp [State.endFlush]
@[simp] theorem State.endFlush_map (s : State) (r : RingId) : (s.endFlush r).map = s.map := by
  simp [State.endFlush]
@[simp] theorem State.endFlush_channels (s : State) (r : RingId) : (s.endFlush r).channels = s.channels := by
  simp [State.endFlush]
@[simp] theorem State.endFlush_ports (s : State) (r : RingId) : (s.endFlush r).ports = s.ports := by
  simp [State.endFlush]
@[simp] theorem State.endFlush_banks (s : State) (r : RingId) : (s.endFlush r).banks = s.banks := by
  simp [State.endFlush]
@[simp] theorem State.endFlush_writer (s : State) (r : RingId) : (s.endFlush r).writer = s.writer := by
  simp [State.endFlush]
@[simp] theorem State.endFlush_mport (s : State) (r : RingId) : (s.endFlush r).mport = s.mport := by
  simp [State.endFlush]
@[simp] theorem State.endFlush_mailbox (s : State) (r : RingId) : (s.endFlush r).mailbox = s.mailbox := by
  simp [State.endFlush]
@[simp] theorem State.endFlush_freeIndex (s : State) (r : RingId) : (s.endFlush r).freeIndex = s.freeIndex := by
  simp [State.endFlush]
@[simp] theorem State.endFlush_pending (s : State) (r : RingId) : (s.endFlush r).pending = s.pending := by
  simp [State.endFlush]

@[simp] theorem State.refreshFlush_control (s : State) (r : RingId) : (s.refreshFlush r).control = s.control := by
  unfold State.refreshFlush; try dsimp only
  (repeat' split) <;> simp
@[simp] theorem State.refreshFlush_issue (s : State) (r : RingId) : (s.refreshFlush r).issue = s.issue := by
  unfold State.refreshFlush; try dsimp only
  (repeat' split) <;> simp
@[simp] theorem State.refreshFlush_map (s : State) (r : RingId) : (s.refreshFlush r).map = s.map := by
  unfold State.refreshFlush; try dsimp only
  (repeat' split) <;> simp
@[simp] theorem State.refreshFlush_channels (s : State) (r : RingId) : (s.refreshFlush r).channels = s.channels := by
  unfold State.refreshFlush; try dsimp only
  (repeat' split) <;> simp
@[simp] theorem State.refreshFlush_ports (s : State) (r : RingId) : (s.refreshFlush r).ports = s.ports := by
  unfold State.refreshFlush; try dsimp only
  (repeat' split) <;> simp
@[simp] theorem State.refreshFlush_banks (s : State) (r : RingId) : (s.refreshFlush r).banks = s.banks := by
  unfold State.refreshFlush; try dsimp only
  (repeat' split) <;> simp
@[simp] theorem State.refreshFlush_writer (s : State) (r : RingId) : (s.refreshFlush r).writer = s.writer := by
  unfold State.refreshFlush; try dsimp only
  (repeat' split) <;> simp
@[simp] theorem State.refreshFlush_coalescer (s : State) (r : RingId) : (s.refreshFlush r).coalescer = s.coalescer := by
  unfold State.refreshFlush; try dsimp only
  (repeat' split) <;> simp
@[simp] theorem State.refreshFlush_mport (s : State) (r : RingId) : (s.refreshFlush r).mport = s.mport := by
  unfold State.refreshFlush; try dsimp only
  (repeat' split) <;> simp
@[simp] theorem State.refreshFlush_mailbox (s : State) (r : RingId) : (s.refreshFlush r).mailbox = s.mailbox := by
  unfold State.refreshFlush; try dsimp only
  (repeat' split) <;> simp
@[simp] theorem State.refreshFlush_freeIndex (s : State) (r : RingId) : (s.refreshFlush r).freeIndex = s.freeIndex := by
  unfold State.refreshFlush; try dsimp only
  (repeat' split) <;> simp
@[simp] theorem State.refreshFlush_pending (s : State) (r : RingId) : (s.refreshFlush r).pending = s.pending := by
  unfold State.refreshFlush; try dsimp only
  (repeat' split) <;> simp

@[simp] theorem State.withdrawDisposal_control (s : State) (r : RingId) : (s.withdrawDisposal r).control = s.control := by
  unfold State.withdrawDisposal; try dsimp only
  (repeat' split) <;> simp
@[simp] theorem State.withdrawDisposal_map (s : State) (r : RingId) : (s.withdrawDisposal r).map = s.map := by
  unfold State.withdrawDisposal; try dsimp only
  (repeat' split) <;> simp
@[simp] theorem State.withdrawDisposal_channels (s : State) (r : RingId) : (s.withdrawDisposal r).channels = s.channels := by
  unfold State.withdrawDisposal; try dsimp only
  (repeat' split) <;> simp
@[simp] theorem State.withdrawDisposal_ports (s : State) (r : RingId) : (s.withdrawDisposal r).ports = s.ports := by
  unfold State.withdrawDisposal; try dsimp only
  (repeat' split) <;> simp
@[simp] theorem State.withdrawDisposal_banks (s : State) (r : RingId) : (s.withdrawDisposal r).banks = s.banks := by
  unfold State.withdrawDisposal; try dsimp only
  (repeat' split) <;> simp
@[simp] theorem State.withdrawDisposal_coalescer (s : State) (r : RingId) : (s.withdrawDisposal r).coalescer = s.coalescer := by
  unfold State.withdrawDisposal; try dsimp only
  (repeat' split) <;> simp
@[simp] theorem State.withdrawDisposal_mport (s : State) (r : RingId) : (s.withdrawDisposal r).mport = s.mport := by
  unfold State.withdrawDisposal; try dsimp only
  (repeat' split) <;> simp
@[simp] theorem State.withdrawDisposal_mailbox (s : State) (r : RingId) : (s.withdrawDisposal r).mailbox = s.mailbox := by
  unfold State.withdrawDisposal; try dsimp only
  (repeat' split) <;> simp
@[simp] theorem State.withdrawDisposal_freeIndex (s : State) (r : RingId) : (s.withdrawDisposal r).freeIndex = s.freeIndex := by
  unfold State.withdrawDisposal; try dsimp only
  (repeat' split) <;> simp
@[simp] theorem State.withdrawDisposal_pending (s : State) (r : RingId) : (s.withdrawDisposal r).pending = s.pending := by
  unfold State.withdrawDisposal; try dsimp only
  (repeat' split) <;> simp

@[simp] theorem State.drainPart_ringManager (s : State) : (s.drainPart).ringManager = s.ringManager := by
  unfold State.drainPart; try dsimp only
  (repeat' split) <;> simp
@[simp] theorem State.drainPart_issue (s : State) : (s.drainPart).issue = s.issue := by
  unfold State.drainPart; try dsimp only
  (repeat' split) <;> simp
@[simp] theorem State.drainPart_map (s : State) : (s.drainPart).map = s.map := by
  unfold State.drainPart; try dsimp only
  (repeat' split) <;> simp
@[simp] theorem State.drainPart_channels (s : State) : (s.drainPart).channels = s.channels := by
  unfold State.drainPart; try dsimp only
  (repeat' split) <;> simp
@[simp] theorem State.drainPart_ports (s : State) : (s.drainPart).ports = s.ports := by
  unfold State.drainPart; try dsimp only
  (repeat' split) <;> simp
@[simp] theorem State.drainPart_banks (s : State) : (s.drainPart).banks = s.banks := by
  unfold State.drainPart; try dsimp only
  (repeat' split) <;> simp
@[simp] theorem State.drainPart_writer (s : State) : (s.drainPart).writer = s.writer := by
  unfold State.drainPart; try dsimp only
  (repeat' split) <;> simp
@[simp] theorem State.drainPart_mport (s : State) : (s.drainPart).mport = s.mport := by
  unfold State.drainPart; try dsimp only
  (repeat' split) <;> simp
@[simp] theorem State.drainPart_mailbox (s : State) : (s.drainPart).mailbox = s.mailbox := by
  unfold State.drainPart; try dsimp only
  (repeat' split) <;> simp
@[simp] theorem State.drainPart_freeIndex (s : State) : (s.drainPart).freeIndex = s.freeIndex := by
  unfold State.drainPart; try dsimp only
  (repeat' split) <;> simp
@[simp] theorem State.drainPart_pending (s : State) : (s.drainPart).pending = s.pending := by
  unfold State.drainPart; try dsimp only
  (repeat' split) <;> simp

@[simp] theorem State.countConflict_control (s : State) (c : ChannelId) : (s.countConflict c).control = s.control := by
  unfold State.countConflict; try dsimp only
  (repeat' split) <;> simp
@[simp] theorem State.countConflict_ringManager (s : State) (c : ChannelId) : (s.countConflict c).ringManager = s.ringManager := by
  unfold State.countConflict; try dsimp only
  (repeat' split) <;> simp
@[simp] theorem State.countConflict_issue (s : State) (c : ChannelId) : (s.countConflict c).issue = s.issue := by
  unfold State.countConflict; try dsimp only
  (repeat' split) <;> simp
@[simp] theorem State.countConflict_map (s : State) (c : ChannelId) : (s.countConflict c).map = s.map := by
  unfold State.countConflict; try dsimp only
  (repeat' split) <;> simp
@[simp] theorem State.countConflict_ports (s : State) (c : ChannelId) : (s.countConflict c).ports = s.ports := by
  unfold State.countConflict; try dsimp only
  (repeat' split) <;> simp
@[simp] theorem State.countConflict_banks (s : State) (c : ChannelId) : (s.countConflict c).banks = s.banks := by
  unfold State.countConflict; try dsimp only
  (repeat' split) <;> simp
@[simp] theorem State.countConflict_writer (s : State) (c : ChannelId) : (s.countConflict c).writer = s.writer := by
  unfold State.countConflict; try dsimp only
  (repeat' split) <;> simp
@[simp] theorem State.countConflict_coalescer (s : State) (c : ChannelId) : (s.countConflict c).coalescer = s.coalescer := by
  unfold State.countConflict; try dsimp only
  (repeat' split) <;> simp
@[simp] theorem State.countConflict_mport (s : State) (c : ChannelId) : (s.countConflict c).mport = s.mport := by
  unfold State.countConflict; try dsimp only
  (repeat' split) <;> simp
@[simp] theorem State.countConflict_mailbox (s : State) (c : ChannelId) : (s.countConflict c).mailbox = s.mailbox := by
  unfold State.countConflict; try dsimp only
  (repeat' split) <;> simp
@[simp] theorem State.countConflict_freeIndex (s : State) (c : ChannelId) : (s.countConflict c).freeIndex = s.freeIndex := by
  unfold State.countConflict; try dsimp only
  (repeat' split) <;> simp
@[simp] theorem State.countConflict_pending (s : State) (c : ChannelId) : (s.countConflict c).pending = s.pending := by
  unfold State.countConflict; try dsimp only
  (repeat' split) <;> simp
@[simp] theorem State.countConflicts_control (s : State) (c : ChannelId) (n : Nat) : (s.countConflicts c n).control = s.control := by
  induction n generalizing s with
  | zero => rfl
  | succ n ih => simp [State.countConflicts, ih]
@[simp] theorem State.countConflicts_ringManager (s : State) (c : ChannelId) (n : Nat) : (s.countConflicts c n).ringManager = s.ringManager := by
  induction n generalizing s with
  | zero => rfl
  | succ n ih => simp [State.countConflicts, ih]
@[simp] theorem State.countConflicts_issue (s : State) (c : ChannelId) (n : Nat) : (s.countConflicts c n).issue = s.issue := by
  induction n generalizing s with
  | zero => rfl
  | succ n ih => simp [State.countConflicts, ih]
@[simp] theorem State.countConflicts_map (s : State) (c : ChannelId) (n : Nat) : (s.countConflicts c n).map = s.map := by
  induction n generalizing s with
  | zero => rfl
  | succ n ih => simp [State.countConflicts, ih]
@[simp] theorem State.countConflicts_ports (s : State) (c : ChannelId) (n : Nat) : (s.countConflicts c n).ports = s.ports := by
  induction n generalizing s with
  | zero => rfl
  | succ n ih => simp [State.countConflicts, ih]
@[simp] theorem State.countConflicts_banks (s : State) (c : ChannelId) (n : Nat) : (s.countConflicts c n).banks = s.banks := by
  induction n generalizing s with
  | zero => rfl
  | succ n ih => simp [State.countConflicts, ih]
@[simp] theorem State.countConflicts_writer (s : State) (c : ChannelId) (n : Nat) : (s.countConflicts c n).writer = s.writer := by
  induction n generalizing s with
  | zero => rfl
  | succ n ih => simp [State.countConflicts, ih]
@[simp] theorem State.countConflicts_coalescer (s : State) (c : ChannelId) (n : Nat) : (s.countConflicts c n).coalescer = s.coalescer := by
  induction n generalizing s with
  | zero => rfl
  | succ n ih => simp [State.countConflicts, ih]
@[simp] theorem State.countConflicts_mport (s : State) (c : ChannelId) (n : Nat) : (s.countConflicts c n).mport = s.mport := by
  induction n generalizing s with
  | zero => rfl
  | succ n ih => simp [State.countConflicts, ih]
@[simp] theorem State.countConflicts_mailbox (s : State) (c : ChannelId) (n : Nat) : (s.countConflicts c n).mailbox = s.mailbox := by
  induction n generalizing s with
  | zero => rfl
  | succ n ih => simp [State.countConflicts, ih]
@[simp] theorem State.countConflicts_freeIndex (s : State) (c : ChannelId) (n : Nat) : (s.countConflicts c n).freeIndex = s.freeIndex := by
  induction n generalizing s with
  | zero => rfl
  | succ n ih => simp [State.countConflicts, ih]
@[simp] theorem State.countConflicts_pending (s : State) (c : ChannelId) (n : Nat) : (s.countConflicts c n).pending = s.pending := by
  induction n generalizing s with
  | zero => rfl
  | succ n ih => simp [State.countConflicts, ih]

@[simp] theorem State.requestBeat_control (s : State) (b : Beat) : (s.requestBeat b).control = s.control := by
  unfold State.requestBeat; try dsimp only
  (repeat' split) <;> simp
@[simp] theorem State.requestBeat_ringManager (s : State) (b : Beat) : (s.requestBeat b).ringManager = s.ringManager := by
  unfold State.requestBeat; try dsimp only
  (repeat' split) <;> simp
@[simp] theorem State.requestBeat_issue (s : State) (b : Beat) : (s.requestBeat b).issue = s.issue := by
  unfold State.requestBeat; try dsimp only
  (repeat' split) <;> simp
@[simp] theorem State.requestBeat_map (s : State) (b : Beat) : (s.requestBeat b).map = s.map := by
  unfold State.requestBeat; try dsimp only
  (repeat' split) <;> simp
@[simp] theorem State.requestBeat_banks (s : State) (b : Beat) : (s.requestBeat b).banks = s.banks := by
  unfold State.requestBeat; try dsimp only
  (repeat' split) <;> simp
@[simp] theorem State.requestBeat_writer (s : State) (b : Beat) : (s.requestBeat b).writer = s.writer := by
  unfold State.requestBeat; try dsimp only
  (repeat' split) <;> simp
@[simp] theorem State.requestBeat_coalescer (s : State) (b : Beat) : (s.requestBeat b).coalescer = s.coalescer := by
  unfold State.requestBeat; try dsimp only
  (repeat' split) <;> simp
@[simp] theorem State.requestBeat_mport (s : State) (b : Beat) : (s.requestBeat b).mport = s.mport := by
  unfold State.requestBeat; try dsimp only
  (repeat' split) <;> simp
@[simp] theorem State.requestBeat_mailbox (s : State) (b : Beat) : (s.requestBeat b).mailbox = s.mailbox := by
  unfold State.requestBeat; try dsimp only
  (repeat' split) <;> simp
@[simp] theorem State.requestBeat_freeIndex (s : State) (b : Beat) : (s.requestBeat b).freeIndex = s.freeIndex := by
  unfold State.requestBeat; try dsimp only
  (repeat' split) <;> simp
@[simp] theorem State.requestBeat_pending (s : State) (b : Beat) : (s.requestBeat b).pending = s.pending := by
  unfold State.requestBeat; try dsimp only
  (repeat' split) <;> simp
@[simp] theorem State.requestBeats_control (s : State) (bs : List Beat) : (s.requestBeats bs).control = s.control := by
  unfold State.requestBeats
  induction bs generalizing s with
  | nil => rfl
  | cons b rest ih => simp [ih]
@[simp] theorem State.requestBeats_ringManager (s : State) (bs : List Beat) : (s.requestBeats bs).ringManager = s.ringManager := by
  unfold State.requestBeats
  induction bs generalizing s with
  | nil => rfl
  | cons b rest ih => simp [ih]
@[simp] theorem State.requestBeats_issue (s : State) (bs : List Beat) : (s.requestBeats bs).issue = s.issue := by
  unfold State.requestBeats
  induction bs generalizing s with
  | nil => rfl
  | cons b rest ih => simp [ih]
@[simp] theorem State.requestBeats_map (s : State) (bs : List Beat) : (s.requestBeats bs).map = s.map := by
  unfold State.requestBeats
  induction bs generalizing s with
  | nil => rfl
  | cons b rest ih => simp [ih]
@[simp] theorem State.requestBeats_banks (s : State) (bs : List Beat) : (s.requestBeats bs).banks = s.banks := by
  unfold State.requestBeats
  induction bs generalizing s with
  | nil => rfl
  | cons b rest ih => simp [ih]
@[simp] theorem State.requestBeats_writer (s : State) (bs : List Beat) : (s.requestBeats bs).writer = s.writer := by
  unfold State.requestBeats
  induction bs generalizing s with
  | nil => rfl
  | cons b rest ih => simp [ih]
@[simp] theorem State.requestBeats_coalescer (s : State) (bs : List Beat) : (s.requestBeats bs).coalescer = s.coalescer := by
  unfold State.requestBeats
  induction bs generalizing s with
  | nil => rfl
  | cons b rest ih => simp [ih]
@[simp] theorem State.requestBeats_mport (s : State) (bs : List Beat) : (s.requestBeats bs).mport = s.mport := by
  unfold State.requestBeats
  induction bs generalizing s with
  | nil => rfl
  | cons b rest ih => simp [ih]
@[simp] theorem State.requestBeats_mailbox (s : State) (bs : List Beat) : (s.requestBeats bs).mailbox = s.mailbox := by
  unfold State.requestBeats
  induction bs generalizing s with
  | nil => rfl
  | cons b rest ih => simp [ih]
@[simp] theorem State.requestBeats_freeIndex (s : State) (bs : List Beat) : (s.requestBeats bs).freeIndex = s.freeIndex := by
  unfold State.requestBeats
  induction bs generalizing s with
  | nil => rfl
  | cons b rest ih => simp [ih]
@[simp] theorem State.requestBeats_pending (s : State) (bs : List Beat) : (s.requestBeats bs).pending = s.pending := by
  unfold State.requestBeats
  induction bs generalizing s with
  | nil => rfl
  | cons b rest ih => simp [ih]

/-! ## Steps -/

@[simp] theorem State.beginPhase_control (s : State) (c : ChannelId) (x : Context) (p : StepPhase) (rs : List BeatResult) (bs : List Beat) : (s.beginPhase c x p rs bs).control = s.control := by
  simp [State.beginPhase, State.requestBeats_control]
@[simp] theorem State.beginPhase_ringManager (s : State) (c : ChannelId) (x : Context) (p : StepPhase) (rs : List BeatResult) (bs : List Beat) : (s.beginPhase c x p rs bs).ringManager = s.ringManager := by
  simp [State.beginPhase, State.requestBeats_ringManager]
@[simp] theorem State.beginPhase_issue (s : State) (c : ChannelId) (x : Context) (p : StepPhase) (rs : List BeatResult) (bs : List Beat) : (s.beginPhase c x p rs bs).issue = s.issue := by
  simp [State.beginPhase, State.requestBeats_issue]
@[simp] theorem State.beginPhase_map (s : State) (c : ChannelId) (x : Context) (p : StepPhase) (rs : List BeatResult) (bs : List Beat) : (s.beginPhase c x p rs bs).map = s.map := by
  simp [State.beginPhase, State.requestBeats_map]
@[simp] theorem State.beginPhase_banks (s : State) (c : ChannelId) (x : Context) (p : StepPhase) (rs : List BeatResult) (bs : List Beat) : (s.beginPhase c x p rs bs).banks = s.banks := by
  simp [State.beginPhase, State.requestBeats_banks]
@[simp] theorem State.beginPhase_writer (s : State) (c : ChannelId) (x : Context) (p : StepPhase) (rs : List BeatResult) (bs : List Beat) : (s.beginPhase c x p rs bs).writer = s.writer := by
  simp [State.beginPhase, State.requestBeats_writer]
@[simp] theorem State.beginPhase_coalescer (s : State) (c : ChannelId) (x : Context) (p : StepPhase) (rs : List BeatResult) (bs : List Beat) : (s.beginPhase c x p rs bs).coalescer = s.coalescer := by
  simp [State.beginPhase, State.requestBeats_coalescer]
@[simp] theorem State.beginPhase_mport (s : State) (c : ChannelId) (x : Context) (p : StepPhase) (rs : List BeatResult) (bs : List Beat) : (s.beginPhase c x p rs bs).mport = s.mport := by
  simp [State.beginPhase, State.requestBeats_mport]
@[simp] theorem State.beginPhase_mailbox (s : State) (c : ChannelId) (x : Context) (p : StepPhase) (rs : List BeatResult) (bs : List Beat) : (s.beginPhase c x p rs bs).mailbox = s.mailbox := by
  simp [State.beginPhase, State.requestBeats_mailbox]
@[simp] theorem State.beginPhase_freeIndex (s : State) (c : ChannelId) (x : Context) (p : StepPhase) (rs : List BeatResult) (bs : List Beat) : (s.beginPhase c x p rs bs).freeIndex = s.freeIndex := by
  simp [State.beginPhase, State.requestBeats_freeIndex]
@[simp] theorem State.beginPhase_pending (s : State) (c : ChannelId) (x : Context) (p : StepPhase) (rs : List BeatResult) (bs : List Beat) : (s.beginPhase c x p rs bs).pending = s.pending := by
  simp [State.beginPhase, State.requestBeats_pending]

@[simp] theorem State.beginStep_control (s : State) (c : ChannelId) (x : Context) : (s.beginStep c x).control = s.control := by
  unfold State.beginStep; try dsimp only
  (repeat' split) <;> simp
@[simp] theorem State.beginStep_ringManager (s : State) (c : ChannelId) (x : Context) : (s.beginStep c x).ringManager = s.ringManager := by
  unfold State.beginStep; try dsimp only
  (repeat' split) <;> simp
@[simp] theorem State.beginStep_issue (s : State) (c : ChannelId) (x : Context) : (s.beginStep c x).issue = s.issue := by
  unfold State.beginStep; try dsimp only
  (repeat' split) <;> simp
@[simp] theorem State.beginStep_map (s : State) (c : ChannelId) (x : Context) : (s.beginStep c x).map = s.map := by
  unfold State.beginStep; try dsimp only
  (repeat' split) <;> simp
@[simp] theorem State.beginStep_banks (s : State) (c : ChannelId) (x : Context) : (s.beginStep c x).banks = s.banks := by
  unfold State.beginStep; try dsimp only
  (repeat' split) <;> simp
@[simp] theorem State.beginStep_writer (s : State) (c : ChannelId) (x : Context) : (s.beginStep c x).writer = s.writer := by
  unfold State.beginStep; try dsimp only
  (repeat' split) <;> simp
@[simp] theorem State.beginStep_coalescer (s : State) (c : ChannelId) (x : Context) : (s.beginStep c x).coalescer = s.coalescer := by
  unfold State.beginStep; try dsimp only
  (repeat' split) <;> simp
@[simp] theorem State.beginStep_mport (s : State) (c : ChannelId) (x : Context) : (s.beginStep c x).mport = s.mport := by
  unfold State.beginStep; try dsimp only
  (repeat' split) <;> simp
@[simp] theorem State.beginStep_mailbox (s : State) (c : ChannelId) (x : Context) : (s.beginStep c x).mailbox = s.mailbox := by
  unfold State.beginStep; try dsimp only
  (repeat' split) <;> simp
@[simp] theorem State.beginStep_freeIndex (s : State) (c : ChannelId) (x : Context) : (s.beginStep c x).freeIndex = s.freeIndex := by
  unfold State.beginStep; try dsimp only
  (repeat' split) <;> simp
@[simp] theorem State.beginStep_pending (s : State) (c : ChannelId) (x : Context) : (s.beginStep c x).pending = s.pending := by
  unfold State.beginStep; try dsimp only
  (repeat' split) <;> simp

@[simp] theorem State.endTransfer_control (s : State) (c : ChannelId) (x : Context) (st : Status) (d : Detail) : (s.endTransfer c x st d).control = s.control := by
  unfold State.endTransfer; try dsimp only
  (repeat' split) <;> simp
@[simp] theorem State.endTransfer_ringManager (s : State) (c : ChannelId) (x : Context) (st : Status) (d : Detail) : (s.endTransfer c x st d).ringManager = s.ringManager := by
  unfold State.endTransfer; try dsimp only
  (repeat' split) <;> simp
@[simp] theorem State.endTransfer_issue (s : State) (c : ChannelId) (x : Context) (st : Status) (d : Detail) : (s.endTransfer c x st d).issue = s.issue := by
  unfold State.endTransfer; try dsimp only
  (repeat' split) <;> simp
@[simp] theorem State.endTransfer_map (s : State) (c : ChannelId) (x : Context) (st : Status) (d : Detail) : (s.endTransfer c x st d).map = s.map := by
  unfold State.endTransfer; try dsimp only
  (repeat' split) <;> simp
@[simp] theorem State.endTransfer_banks (s : State) (c : ChannelId) (x : Context) (st : Status) (d : Detail) : (s.endTransfer c x st d).banks = s.banks := by
  unfold State.endTransfer; try dsimp only
  (repeat' split) <;> simp
@[simp] theorem State.endTransfer_writer (s : State) (c : ChannelId) (x : Context) (st : Status) (d : Detail) : (s.endTransfer c x st d).writer = s.writer := by
  unfold State.endTransfer; try dsimp only
  (repeat' split) <;> simp
@[simp] theorem State.endTransfer_coalescer (s : State) (c : ChannelId) (x : Context) (st : Status) (d : Detail) : (s.endTransfer c x st d).coalescer = s.coalescer := by
  unfold State.endTransfer; try dsimp only
  (repeat' split) <;> simp
@[simp] theorem State.endTransfer_mport (s : State) (c : ChannelId) (x : Context) (st : Status) (d : Detail) : (s.endTransfer c x st d).mport = s.mport := by
  unfold State.endTransfer; try dsimp only
  (repeat' split) <;> simp
@[simp] theorem State.endTransfer_mailbox (s : State) (c : ChannelId) (x : Context) (st : Status) (d : Detail) : (s.endTransfer c x st d).mailbox = s.mailbox := by
  unfold State.endTransfer; try dsimp only
  (repeat' split) <;> simp
@[simp] theorem State.endTransfer_freeIndex (s : State) (c : ChannelId) (x : Context) (st : Status) (d : Detail) : (s.endTransfer c x st d).freeIndex = s.freeIndex := by
  unfold State.endTransfer; try dsimp only
  (repeat' split) <;> simp
@[simp] theorem State.endTransfer_pending (s : State) (c : ChannelId) (x : Context) (st : Status) (d : Detail) : (s.endTransfer c x st d).pending = s.pending := by
  unfold State.endTransfer; try dsimp only
  (repeat' split) <;> simp

@[simp] theorem State.stepBoundary_control (s : State) (c : ChannelId) (x : Context) : (s.stepBoundary c x).control = s.control := by
  unfold State.stepBoundary; try dsimp only
  (repeat' split) <;> simp
@[simp] theorem State.stepBoundary_ringManager (s : State) (c : ChannelId) (x : Context) : (s.stepBoundary c x).ringManager = s.ringManager := by
  unfold State.stepBoundary; try dsimp only
  (repeat' split) <;> simp
@[simp] theorem State.stepBoundary_issue (s : State) (c : ChannelId) (x : Context) : (s.stepBoundary c x).issue = s.issue := by
  unfold State.stepBoundary; try dsimp only
  (repeat' split) <;> simp
@[simp] theorem State.stepBoundary_map (s : State) (c : ChannelId) (x : Context) : (s.stepBoundary c x).map = s.map := by
  unfold State.stepBoundary; try dsimp only
  (repeat' split) <;> simp
@[simp] theorem State.stepBoundary_banks (s : State) (c : ChannelId) (x : Context) : (s.stepBoundary c x).banks = s.banks := by
  unfold State.stepBoundary; try dsimp only
  (repeat' split) <;> simp
@[simp] theorem State.stepBoundary_writer (s : State) (c : ChannelId) (x : Context) : (s.stepBoundary c x).writer = s.writer := by
  unfold State.stepBoundary; try dsimp only
  (repeat' split) <;> simp
@[simp] theorem State.stepBoundary_coalescer (s : State) (c : ChannelId) (x : Context) : (s.stepBoundary c x).coalescer = s.coalescer := by
  unfold State.stepBoundary; try dsimp only
  (repeat' split) <;> simp
@[simp] theorem State.stepBoundary_mport (s : State) (c : ChannelId) (x : Context) : (s.stepBoundary c x).mport = s.mport := by
  unfold State.stepBoundary; try dsimp only
  (repeat' split) <;> simp
@[simp] theorem State.stepBoundary_mailbox (s : State) (c : ChannelId) (x : Context) : (s.stepBoundary c x).mailbox = s.mailbox := by
  unfold State.stepBoundary; try dsimp only
  (repeat' split) <;> simp
@[simp] theorem State.stepBoundary_freeIndex (s : State) (c : ChannelId) (x : Context) : (s.stepBoundary c x).freeIndex = s.freeIndex := by
  unfold State.stepBoundary; try dsimp only
  (repeat' split) <;> simp
@[simp] theorem State.stepBoundary_pending (s : State) (c : ChannelId) (x : Context) : (s.stepBoundary c x).pending = s.pending := by
  unfold State.stepBoundary; try dsimp only
  (repeat' split) <;> simp

@[simp] theorem State.finishStep_control (s : State) (c : ChannelId) (x : Context) (r : Option W16) : (s.finishStep c x r).control = s.control := by
  exact State.stepBoundary_control ..
@[simp] theorem State.finishStep_ringManager (s : State) (c : ChannelId) (x : Context) (r : Option W16) : (s.finishStep c x r).ringManager = s.ringManager := by
  exact State.stepBoundary_ringManager ..
@[simp] theorem State.finishStep_issue (s : State) (c : ChannelId) (x : Context) (r : Option W16) : (s.finishStep c x r).issue = s.issue := by
  exact State.stepBoundary_issue ..
@[simp] theorem State.finishStep_map (s : State) (c : ChannelId) (x : Context) (r : Option W16) : (s.finishStep c x r).map = s.map := by
  exact State.stepBoundary_map ..
@[simp] theorem State.finishStep_banks (s : State) (c : ChannelId) (x : Context) (r : Option W16) : (s.finishStep c x r).banks = s.banks := by
  exact State.stepBoundary_banks ..
@[simp] theorem State.finishStep_writer (s : State) (c : ChannelId) (x : Context) (r : Option W16) : (s.finishStep c x r).writer = s.writer := by
  exact State.stepBoundary_writer ..
@[simp] theorem State.finishStep_coalescer (s : State) (c : ChannelId) (x : Context) (r : Option W16) : (s.finishStep c x r).coalescer = s.coalescer := by
  exact State.stepBoundary_coalescer ..
@[simp] theorem State.finishStep_mport (s : State) (c : ChannelId) (x : Context) (r : Option W16) : (s.finishStep c x r).mport = s.mport := by
  exact State.stepBoundary_mport ..
@[simp] theorem State.finishStep_mailbox (s : State) (c : ChannelId) (x : Context) (r : Option W16) : (s.finishStep c x r).mailbox = s.mailbox := by
  exact State.stepBoundary_mailbox ..
@[simp] theorem State.finishStep_freeIndex (s : State) (c : ChannelId) (x : Context) (r : Option W16) : (s.finishStep c x r).freeIndex = s.freeIndex := by
  exact State.stepBoundary_freeIndex ..
@[simp] theorem State.finishStep_pending (s : State) (c : ChannelId) (x : Context) (r : Option W16) : (s.finishStep c x r).pending = s.pending := by
  exact State.stepBoundary_pending ..

@[simp] theorem State.failStep_control (s : State) (c : ChannelId) (x : Context) (f : BeatResult) : (s.failStep c x f).control = s.control := by
  exact State.endTransfer_control ..
@[simp] theorem State.failStep_ringManager (s : State) (c : ChannelId) (x : Context) (f : BeatResult) : (s.failStep c x f).ringManager = s.ringManager := by
  exact State.endTransfer_ringManager ..
@[simp] theorem State.failStep_issue (s : State) (c : ChannelId) (x : Context) (f : BeatResult) : (s.failStep c x f).issue = s.issue := by
  exact State.endTransfer_issue ..
@[simp] theorem State.failStep_map (s : State) (c : ChannelId) (x : Context) (f : BeatResult) : (s.failStep c x f).map = s.map := by
  exact State.endTransfer_map ..
@[simp] theorem State.failStep_banks (s : State) (c : ChannelId) (x : Context) (f : BeatResult) : (s.failStep c x f).banks = s.banks := by
  exact State.endTransfer_banks ..
@[simp] theorem State.failStep_writer (s : State) (c : ChannelId) (x : Context) (f : BeatResult) : (s.failStep c x f).writer = s.writer := by
  exact State.endTransfer_writer ..
@[simp] theorem State.failStep_coalescer (s : State) (c : ChannelId) (x : Context) (f : BeatResult) : (s.failStep c x f).coalescer = s.coalescer := by
  exact State.endTransfer_coalescer ..
@[simp] theorem State.failStep_mport (s : State) (c : ChannelId) (x : Context) (f : BeatResult) : (s.failStep c x f).mport = s.mport := by
  exact State.endTransfer_mport ..
@[simp] theorem State.failStep_mailbox (s : State) (c : ChannelId) (x : Context) (f : BeatResult) : (s.failStep c x f).mailbox = s.mailbox := by
  exact State.endTransfer_mailbox ..
@[simp] theorem State.failStep_freeIndex (s : State) (c : ChannelId) (x : Context) (f : BeatResult) : (s.failStep c x f).freeIndex = s.freeIndex := by
  exact State.endTransfer_freeIndex ..
@[simp] theorem State.failStep_pending (s : State) (c : ChannelId) (x : Context) (f : BeatResult) : (s.failStep c x f).pending = s.pending := by
  exact State.endTransfer_pending ..

@[simp] theorem State.readsEnded_control (s : State) (c : ChannelId) (x : Context) (rs : List BeatResult) : (s.readsEnded c x rs).control = s.control := by
  unfold State.readsEnded; try dsimp only
  (repeat' split) <;> simp
@[simp] theorem State.readsEnded_ringManager (s : State) (c : ChannelId) (x : Context) (rs : List BeatResult) : (s.readsEnded c x rs).ringManager = s.ringManager := by
  unfold State.readsEnded; try dsimp only
  (repeat' split) <;> simp
@[simp] theorem State.readsEnded_issue (s : State) (c : ChannelId) (x : Context) (rs : List BeatResult) : (s.readsEnded c x rs).issue = s.issue := by
  unfold State.readsEnded; try dsimp only
  (repeat' split) <;> simp
@[simp] theorem State.readsEnded_map (s : State) (c : ChannelId) (x : Context) (rs : List BeatResult) : (s.readsEnded c x rs).map = s.map := by
  unfold State.readsEnded; try dsimp only
  (repeat' split) <;> simp
@[simp] theorem State.readsEnded_banks (s : State) (c : ChannelId) (x : Context) (rs : List BeatResult) : (s.readsEnded c x rs).banks = s.banks := by
  unfold State.readsEnded; try dsimp only
  (repeat' split) <;> simp
@[simp] theorem State.readsEnded_writer (s : State) (c : ChannelId) (x : Context) (rs : List BeatResult) : (s.readsEnded c x rs).writer = s.writer := by
  unfold State.readsEnded; try dsimp only
  (repeat' split) <;> simp
@[simp] theorem State.readsEnded_coalescer (s : State) (c : ChannelId) (x : Context) (rs : List BeatResult) : (s.readsEnded c x rs).coalescer = s.coalescer := by
  unfold State.readsEnded; try dsimp only
  (repeat' split) <;> simp
@[simp] theorem State.readsEnded_mport (s : State) (c : ChannelId) (x : Context) (rs : List BeatResult) : (s.readsEnded c x rs).mport = s.mport := by
  unfold State.readsEnded; try dsimp only
  (repeat' split) <;> simp
@[simp] theorem State.readsEnded_mailbox (s : State) (c : ChannelId) (x : Context) (rs : List BeatResult) : (s.readsEnded c x rs).mailbox = s.mailbox := by
  unfold State.readsEnded; try dsimp only
  (repeat' split) <;> simp
@[simp] theorem State.readsEnded_freeIndex (s : State) (c : ChannelId) (x : Context) (rs : List BeatResult) : (s.readsEnded c x rs).freeIndex = s.freeIndex := by
  unfold State.readsEnded; try dsimp only
  (repeat' split) <;> simp
@[simp] theorem State.readsEnded_pending (s : State) (c : ChannelId) (x : Context) (rs : List BeatResult) : (s.readsEnded c x rs).pending = s.pending := by
  unfold State.readsEnded; try dsimp only
  (repeat' split) <;> simp

@[simp] theorem State.writesEnded_control (s : State) (c : ChannelId) (x : Context) (rs : List BeatResult) : (s.writesEnded c x rs).control = s.control := by
  unfold State.writesEnded; try dsimp only
  (repeat' split) <;> simp
@[simp] theorem State.writesEnded_ringManager (s : State) (c : ChannelId) (x : Context) (rs : List BeatResult) : (s.writesEnded c x rs).ringManager = s.ringManager := by
  unfold State.writesEnded; try dsimp only
  (repeat' split) <;> simp
@[simp] theorem State.writesEnded_issue (s : State) (c : ChannelId) (x : Context) (rs : List BeatResult) : (s.writesEnded c x rs).issue = s.issue := by
  unfold State.writesEnded; try dsimp only
  (repeat' split) <;> simp
@[simp] theorem State.writesEnded_map (s : State) (c : ChannelId) (x : Context) (rs : List BeatResult) : (s.writesEnded c x rs).map = s.map := by
  unfold State.writesEnded; try dsimp only
  (repeat' split) <;> simp
@[simp] theorem State.writesEnded_banks (s : State) (c : ChannelId) (x : Context) (rs : List BeatResult) : (s.writesEnded c x rs).banks = s.banks := by
  unfold State.writesEnded; try dsimp only
  (repeat' split) <;> simp
@[simp] theorem State.writesEnded_writer (s : State) (c : ChannelId) (x : Context) (rs : List BeatResult) : (s.writesEnded c x rs).writer = s.writer := by
  unfold State.writesEnded; try dsimp only
  (repeat' split) <;> simp
@[simp] theorem State.writesEnded_coalescer (s : State) (c : ChannelId) (x : Context) (rs : List BeatResult) : (s.writesEnded c x rs).coalescer = s.coalescer := by
  unfold State.writesEnded; try dsimp only
  (repeat' split) <;> simp
@[simp] theorem State.writesEnded_mport (s : State) (c : ChannelId) (x : Context) (rs : List BeatResult) : (s.writesEnded c x rs).mport = s.mport := by
  unfold State.writesEnded; try dsimp only
  (repeat' split) <;> simp
@[simp] theorem State.writesEnded_mailbox (s : State) (c : ChannelId) (x : Context) (rs : List BeatResult) : (s.writesEnded c x rs).mailbox = s.mailbox := by
  unfold State.writesEnded; try dsimp only
  (repeat' split) <;> simp
@[simp] theorem State.writesEnded_freeIndex (s : State) (c : ChannelId) (x : Context) (rs : List BeatResult) : (s.writesEnded c x rs).freeIndex = s.freeIndex := by
  unfold State.writesEnded; try dsimp only
  (repeat' split) <;> simp
@[simp] theorem State.writesEnded_pending (s : State) (c : ChannelId) (x : Context) (rs : List BeatResult) : (s.writesEnded c x rs).pending = s.pending := by
  unfold State.writesEnded; try dsimp only
  (repeat' split) <;> simp

@[simp] theorem State.earlyEnded_control (s : State) (c : ChannelId) (x : Context) (rs : List BeatResult) : (s.earlyEnded c x rs).control = s.control := by
  rfl
@[simp] theorem State.earlyEnded_ringManager (s : State) (c : ChannelId) (x : Context) (rs : List BeatResult) : (s.earlyEnded c x rs).ringManager = s.ringManager := by
  rfl
@[simp] theorem State.earlyEnded_issue (s : State) (c : ChannelId) (x : Context) (rs : List BeatResult) : (s.earlyEnded c x rs).issue = s.issue := by
  rfl
@[simp] theorem State.earlyEnded_map (s : State) (c : ChannelId) (x : Context) (rs : List BeatResult) : (s.earlyEnded c x rs).map = s.map := by
  rfl
@[simp] theorem State.earlyEnded_ports (s : State) (c : ChannelId) (x : Context) (rs : List BeatResult) : (s.earlyEnded c x rs).ports = s.ports := by
  rfl
@[simp] theorem State.earlyEnded_banks (s : State) (c : ChannelId) (x : Context) (rs : List BeatResult) : (s.earlyEnded c x rs).banks = s.banks := by
  rfl
@[simp] theorem State.earlyEnded_writer (s : State) (c : ChannelId) (x : Context) (rs : List BeatResult) : (s.earlyEnded c x rs).writer = s.writer := by
  rfl
@[simp] theorem State.earlyEnded_coalescer (s : State) (c : ChannelId) (x : Context) (rs : List BeatResult) : (s.earlyEnded c x rs).coalescer = s.coalescer := by
  rfl
@[simp] theorem State.earlyEnded_mport (s : State) (c : ChannelId) (x : Context) (rs : List BeatResult) : (s.earlyEnded c x rs).mport = s.mport := by
  rfl
@[simp] theorem State.earlyEnded_mailbox (s : State) (c : ChannelId) (x : Context) (rs : List BeatResult) : (s.earlyEnded c x rs).mailbox = s.mailbox := by
  rfl
@[simp] theorem State.earlyEnded_freeIndex (s : State) (c : ChannelId) (x : Context) (rs : List BeatResult) : (s.earlyEnded c x rs).freeIndex = s.freeIndex := by
  rfl
@[simp] theorem State.earlyEnded_pending (s : State) (c : ChannelId) (x : Context) (rs : List BeatResult) : (s.earlyEnded c x rs).pending = s.pending := by
  rfl

@[simp] theorem State.phaseEnded_control (s : State) (c : ChannelId) (x : Context) (run : StepRun) : (s.phaseEnded c x run).control = s.control := by
  unfold State.phaseEnded; try dsimp only
  (repeat' split) <;> simp
@[simp] theorem State.phaseEnded_ringManager (s : State) (c : ChannelId) (x : Context) (run : StepRun) : (s.phaseEnded c x run).ringManager = s.ringManager := by
  unfold State.phaseEnded; try dsimp only
  (repeat' split) <;> simp
@[simp] theorem State.phaseEnded_issue (s : State) (c : ChannelId) (x : Context) (run : StepRun) : (s.phaseEnded c x run).issue = s.issue := by
  unfold State.phaseEnded; try dsimp only
  (repeat' split) <;> simp
@[simp] theorem State.phaseEnded_map (s : State) (c : ChannelId) (x : Context) (run : StepRun) : (s.phaseEnded c x run).map = s.map := by
  unfold State.phaseEnded; try dsimp only
  (repeat' split) <;> simp
@[simp] theorem State.phaseEnded_banks (s : State) (c : ChannelId) (x : Context) (run : StepRun) : (s.phaseEnded c x run).banks = s.banks := by
  unfold State.phaseEnded; try dsimp only
  (repeat' split) <;> simp
@[simp] theorem State.phaseEnded_writer (s : State) (c : ChannelId) (x : Context) (run : StepRun) : (s.phaseEnded c x run).writer = s.writer := by
  unfold State.phaseEnded; try dsimp only
  (repeat' split) <;> simp
@[simp] theorem State.phaseEnded_coalescer (s : State) (c : ChannelId) (x : Context) (run : StepRun) : (s.phaseEnded c x run).coalescer = s.coalescer := by
  unfold State.phaseEnded; try dsimp only
  (repeat' split) <;> simp
@[simp] theorem State.phaseEnded_mport (s : State) (c : ChannelId) (x : Context) (run : StepRun) : (s.phaseEnded c x run).mport = s.mport := by
  unfold State.phaseEnded; try dsimp only
  (repeat' split) <;> simp
@[simp] theorem State.phaseEnded_mailbox (s : State) (c : ChannelId) (x : Context) (run : StepRun) : (s.phaseEnded c x run).mailbox = s.mailbox := by
  unfold State.phaseEnded; try dsimp only
  (repeat' split) <;> simp
@[simp] theorem State.phaseEnded_freeIndex (s : State) (c : ChannelId) (x : Context) (run : StepRun) : (s.phaseEnded c x run).freeIndex = s.freeIndex := by
  unfold State.phaseEnded; try dsimp only
  (repeat' split) <;> simp
@[simp] theorem State.phaseEnded_pending (s : State) (c : ChannelId) (x : Context) (run : StepRun) : (s.phaseEnded c x run).pending = s.pending := by
  unfold State.phaseEnded; try dsimp only
  (repeat' split) <;> simp

@[simp] theorem State.beatReturns_control (s : State) (b : Beat) (o : BeatOutcome) : (s.beatReturns b o).control = s.control := by
  unfold State.beatReturns; try dsimp only
  (repeat' split) <;> simp
@[simp] theorem State.beatReturns_ringManager (s : State) (b : Beat) (o : BeatOutcome) : (s.beatReturns b o).ringManager = s.ringManager := by
  unfold State.beatReturns; try dsimp only
  (repeat' split) <;> simp
@[simp] theorem State.beatReturns_issue (s : State) (b : Beat) (o : BeatOutcome) : (s.beatReturns b o).issue = s.issue := by
  unfold State.beatReturns; try dsimp only
  (repeat' split) <;> simp
@[simp] theorem State.beatReturns_map (s : State) (b : Beat) (o : BeatOutcome) : (s.beatReturns b o).map = s.map := by
  unfold State.beatReturns; try dsimp only
  (repeat' split) <;> simp
@[simp] theorem State.beatReturns_banks (s : State) (b : Beat) (o : BeatOutcome) : (s.beatReturns b o).banks = s.banks := by
  unfold State.beatReturns; try dsimp only
  (repeat' split) <;> simp
@[simp] theorem State.beatReturns_writer (s : State) (b : Beat) (o : BeatOutcome) : (s.beatReturns b o).writer = s.writer := by
  unfold State.beatReturns; try dsimp only
  (repeat' split) <;> simp
@[simp] theorem State.beatReturns_coalescer (s : State) (b : Beat) (o : BeatOutcome) : (s.beatReturns b o).coalescer = s.coalescer := by
  unfold State.beatReturns; try dsimp only
  (repeat' split) <;> simp
@[simp] theorem State.beatReturns_mport (s : State) (b : Beat) (o : BeatOutcome) : (s.beatReturns b o).mport = s.mport := by
  unfold State.beatReturns; try dsimp only
  (repeat' split) <;> simp
@[simp] theorem State.beatReturns_mailbox (s : State) (b : Beat) (o : BeatOutcome) : (s.beatReturns b o).mailbox = s.mailbox := by
  unfold State.beatReturns; try dsimp only
  (repeat' split) <;> simp
@[simp] theorem State.beatReturns_freeIndex (s : State) (b : Beat) (o : BeatOutcome) : (s.beatReturns b o).freeIndex = s.freeIndex := by
  unfold State.beatReturns; try dsimp only
  (repeat' split) <;> simp
@[simp] theorem State.beatReturns_pending (s : State) (b : Beat) (o : BeatOutcome) : (s.beatReturns b o).pending = s.pending := by
  unfold State.beatReturns; try dsimp only
  (repeat' split) <;> simp

/-! ## Beats -/

@[simp] theorem State.grantBeat_control (s : State) (i : ArbiterId) : (s.grantBeat i).control = s.control := by
  unfold State.grantBeat; try dsimp only
  (repeat' split) <;> simp
@[simp] theorem State.grantBeat_ringManager (s : State) (i : ArbiterId) : (s.grantBeat i).ringManager = s.ringManager := by
  unfold State.grantBeat; try dsimp only
  (repeat' split) <;> simp
@[simp] theorem State.grantBeat_issue (s : State) (i : ArbiterId) : (s.grantBeat i).issue = s.issue := by
  unfold State.grantBeat; try dsimp only
  (repeat' split) <;> simp
@[simp] theorem State.grantBeat_map (s : State) (i : ArbiterId) : (s.grantBeat i).map = s.map := by
  unfold State.grantBeat; try dsimp only
  (repeat' split) <;> simp
@[simp] theorem State.grantBeat_banks (s : State) (i : ArbiterId) : (s.grantBeat i).banks = s.banks := by
  unfold State.grantBeat; try dsimp only
  (repeat' split) <;> simp
@[simp] theorem State.grantBeat_writer (s : State) (i : ArbiterId) : (s.grantBeat i).writer = s.writer := by
  unfold State.grantBeat; try dsimp only
  (repeat' split) <;> simp
@[simp] theorem State.grantBeat_coalescer (s : State) (i : ArbiterId) : (s.grantBeat i).coalescer = s.coalescer := by
  unfold State.grantBeat; try dsimp only
  (repeat' split) <;> simp
@[simp] theorem State.grantBeat_mport (s : State) (i : ArbiterId) : (s.grantBeat i).mport = s.mport := by
  unfold State.grantBeat; try dsimp only
  (repeat' split) <;> simp
@[simp] theorem State.grantBeat_mailbox (s : State) (i : ArbiterId) : (s.grantBeat i).mailbox = s.mailbox := by
  unfold State.grantBeat; try dsimp only
  (repeat' split) <;> simp
@[simp] theorem State.grantBeat_freeIndex (s : State) (i : ArbiterId) : (s.grantBeat i).freeIndex = s.freeIndex := by
  unfold State.grantBeat; try dsimp only
  (repeat' split) <;> simp
@[simp] theorem State.grantBeat_pending (s : State) (i : ArbiterId) : (s.grantBeat i).pending = s.pending := by
  unfold State.grantBeat; try dsimp only
  (repeat' split) <;> simp

@[simp] theorem State.freeArbiter_control (s : State) (i : ArbiterId) : (s.freeArbiter i).control = s.control := by
  rfl
@[simp] theorem State.freeArbiter_ringManager (s : State) (i : ArbiterId) : (s.freeArbiter i).ringManager = s.ringManager := by
  rfl
@[simp] theorem State.freeArbiter_issue (s : State) (i : ArbiterId) : (s.freeArbiter i).issue = s.issue := by
  rfl
@[simp] theorem State.freeArbiter_map (s : State) (i : ArbiterId) : (s.freeArbiter i).map = s.map := by
  rfl
@[simp] theorem State.freeArbiter_channels (s : State) (i : ArbiterId) : (s.freeArbiter i).channels = s.channels := by
  rfl
@[simp] theorem State.freeArbiter_banks (s : State) (i : ArbiterId) : (s.freeArbiter i).banks = s.banks := by
  rfl
@[simp] theorem State.freeArbiter_writer (s : State) (i : ArbiterId) : (s.freeArbiter i).writer = s.writer := by
  rfl
@[simp] theorem State.freeArbiter_coalescer (s : State) (i : ArbiterId) : (s.freeArbiter i).coalescer = s.coalescer := by
  rfl
@[simp] theorem State.freeArbiter_mport (s : State) (i : ArbiterId) : (s.freeArbiter i).mport = s.mport := by
  rfl
@[simp] theorem State.freeArbiter_mailbox (s : State) (i : ArbiterId) : (s.freeArbiter i).mailbox = s.mailbox := by
  rfl
@[simp] theorem State.freeArbiter_freeIndex (s : State) (i : ArbiterId) : (s.freeArbiter i).freeIndex = s.freeIndex := by
  rfl
@[simp] theorem State.freeArbiter_pending (s : State) (i : ArbiterId) : (s.freeArbiter i).pending = s.pending := by
  rfl

@[simp] theorem State.freeXPort_control (s : State) : (s.freeXPort).control = s.control := by
  rfl
@[simp] theorem State.freeXPort_ringManager (s : State) : (s.freeXPort).ringManager = s.ringManager := by
  rfl
@[simp] theorem State.freeXPort_issue (s : State) : (s.freeXPort).issue = s.issue := by
  rfl
@[simp] theorem State.freeXPort_map (s : State) : (s.freeXPort).map = s.map := by
  rfl
@[simp] theorem State.freeXPort_channels (s : State) : (s.freeXPort).channels = s.channels := by
  rfl
@[simp] theorem State.freeXPort_banks (s : State) : (s.freeXPort).banks = s.banks := by
  rfl
@[simp] theorem State.freeXPort_writer (s : State) : (s.freeXPort).writer = s.writer := by
  rfl
@[simp] theorem State.freeXPort_coalescer (s : State) : (s.freeXPort).coalescer = s.coalescer := by
  rfl
@[simp] theorem State.freeXPort_mport (s : State) : (s.freeXPort).mport = s.mport := by
  rfl
@[simp] theorem State.freeXPort_mailbox (s : State) : (s.freeXPort).mailbox = s.mailbox := by
  rfl
@[simp] theorem State.freeXPort_freeIndex (s : State) : (s.freeXPort).freeIndex = s.freeIndex := by
  rfl
@[simp] theorem State.freeXPort_pending (s : State) : (s.freeXPort).pending = s.pending := by
  rfl

/-! ## Completion -/

@[simp] theorem State.drainSwitch_control (s : State) (sw : Option PendingSwitch) : (s.drainSwitch sw).control = s.control := by
  unfold State.drainSwitch; try dsimp only
  (repeat' split) <;> simp
@[simp] theorem State.drainSwitch_issue (s : State) (sw : Option PendingSwitch) : (s.drainSwitch sw).issue = s.issue := by
  unfold State.drainSwitch; try dsimp only
  (repeat' split) <;> simp
@[simp] theorem State.drainSwitch_map (s : State) (sw : Option PendingSwitch) : (s.drainSwitch sw).map = s.map := by
  unfold State.drainSwitch; try dsimp only
  (repeat' split) <;> simp
@[simp] theorem State.drainSwitch_channels (s : State) (sw : Option PendingSwitch) : (s.drainSwitch sw).channels = s.channels := by
  unfold State.drainSwitch; try dsimp only
  (repeat' split) <;> simp
@[simp] theorem State.drainSwitch_ports (s : State) (sw : Option PendingSwitch) : (s.drainSwitch sw).ports = s.ports := by
  unfold State.drainSwitch; try dsimp only
  (repeat' split) <;> simp
@[simp] theorem State.drainSwitch_banks (s : State) (sw : Option PendingSwitch) : (s.drainSwitch sw).banks = s.banks := by
  unfold State.drainSwitch; try dsimp only
  (repeat' split) <;> simp
@[simp] theorem State.drainSwitch_coalescer (s : State) (sw : Option PendingSwitch) : (s.drainSwitch sw).coalescer = s.coalescer := by
  unfold State.drainSwitch; try dsimp only
  (repeat' split) <;> simp
@[simp] theorem State.drainSwitch_mport (s : State) (sw : Option PendingSwitch) : (s.drainSwitch sw).mport = s.mport := by
  unfold State.drainSwitch; try dsimp only
  (repeat' split) <;> simp
@[simp] theorem State.drainSwitch_mailbox (s : State) (sw : Option PendingSwitch) : (s.drainSwitch sw).mailbox = s.mailbox := by
  unfold State.drainSwitch; try dsimp only
  (repeat' split) <;> simp
@[simp] theorem State.drainSwitch_freeIndex (s : State) (sw : Option PendingSwitch) : (s.drainSwitch sw).freeIndex = s.freeIndex := by
  unfold State.drainSwitch; try dsimp only
  (repeat' split) <;> simp
@[simp] theorem State.drainSwitch_pending (s : State) (sw : Option PendingSwitch) : (s.drainSwitch sw).pending = s.pending := by
  unfold State.drainSwitch; try dsimp only
  (repeat' split) <;> simp

@[simp] theorem State.handOff_ports (s : State) (c : ChannelId) (x : Context) (e : Ending) : (s.handOff c x e).ports = s.ports := by
  simp [State.handOff]
@[simp] theorem State.handOff_banks (s : State) (c : ChannelId) (x : Context) (e : Ending) : (s.handOff c x e).banks = s.banks := by
  simp [State.handOff]
@[simp] theorem State.handOff_mport (s : State) (c : ChannelId) (x : Context) (e : Ending) : (s.handOff c x e).mport = s.mport := by
  simp [State.handOff]
@[simp] theorem State.handOff_mailbox (s : State) (c : ChannelId) (x : Context) (e : Ending) : (s.handOff c x e).mailbox = s.mailbox := by
  simp [State.handOff]
@[simp] theorem State.handOff_freeIndex (s : State) (c : ChannelId) (x : Context) (e : Ending) : (s.handOff c x e).freeIndex = s.freeIndex := by
  simp [State.handOff]
@[simp] theorem State.handOff_pending (s : State) (c : ChannelId) (x : Context) (e : Ending) : (s.handOff c x e).pending = s.pending := by
  simp [State.handOff]

@[simp] theorem State.reserveDisposal_control (s : State) (r : RingId) : (s.reserveDisposal r).control = s.control := by
  unfold State.reserveDisposal; try dsimp only
  (repeat' split) <;> simp
@[simp] theorem State.reserveDisposal_issue (s : State) (r : RingId) : (s.reserveDisposal r).issue = s.issue := by
  unfold State.reserveDisposal; try dsimp only
  (repeat' split) <;> simp
@[simp] theorem State.reserveDisposal_map (s : State) (r : RingId) : (s.reserveDisposal r).map = s.map := by
  unfold State.reserveDisposal; try dsimp only
  (repeat' split) <;> simp
@[simp] theorem State.reserveDisposal_channels (s : State) (r : RingId) : (s.reserveDisposal r).channels = s.channels := by
  unfold State.reserveDisposal; try dsimp only
  (repeat' split) <;> simp
@[simp] theorem State.reserveDisposal_ports (s : State) (r : RingId) : (s.reserveDisposal r).ports = s.ports := by
  unfold State.reserveDisposal; try dsimp only
  (repeat' split) <;> simp
@[simp] theorem State.reserveDisposal_banks (s : State) (r : RingId) : (s.reserveDisposal r).banks = s.banks := by
  unfold State.reserveDisposal; try dsimp only
  (repeat' split) <;> simp
@[simp] theorem State.reserveDisposal_coalescer (s : State) (r : RingId) : (s.reserveDisposal r).coalescer = s.coalescer := by
  unfold State.reserveDisposal; try dsimp only
  (repeat' split) <;> simp
@[simp] theorem State.reserveDisposal_mport (s : State) (r : RingId) : (s.reserveDisposal r).mport = s.mport := by
  unfold State.reserveDisposal; try dsimp only
  (repeat' split) <;> simp
@[simp] theorem State.reserveDisposal_mailbox (s : State) (r : RingId) : (s.reserveDisposal r).mailbox = s.mailbox := by
  unfold State.reserveDisposal; try dsimp only
  (repeat' split) <;> simp
@[simp] theorem State.reserveDisposal_freeIndex (s : State) (r : RingId) : (s.reserveDisposal r).freeIndex = s.freeIndex := by
  unfold State.reserveDisposal; try dsimp only
  (repeat' split) <;> simp
@[simp] theorem State.reserveDisposal_pending (s : State) (r : RingId) : (s.reserveDisposal r).pending = s.pending := by
  unfold State.reserveDisposal; try dsimp only
  (repeat' split) <;> simp

@[simp] theorem State.disposeHead_control (s : State) (r : RingId) (p : Prefetched) : (s.disposeHead r p).control = s.control := by
  simp [State.disposeHead]
@[simp] theorem State.disposeHead_issue (s : State) (r : RingId) (p : Prefetched) : (s.disposeHead r p).issue = s.issue := by
  simp [State.disposeHead]
@[simp] theorem State.disposeHead_map (s : State) (r : RingId) (p : Prefetched) : (s.disposeHead r p).map = s.map := by
  simp [State.disposeHead]
@[simp] theorem State.disposeHead_channels (s : State) (r : RingId) (p : Prefetched) : (s.disposeHead r p).channels = s.channels := by
  simp [State.disposeHead]
@[simp] theorem State.disposeHead_ports (s : State) (r : RingId) (p : Prefetched) : (s.disposeHead r p).ports = s.ports := by
  simp [State.disposeHead]
@[simp] theorem State.disposeHead_banks (s : State) (r : RingId) (p : Prefetched) : (s.disposeHead r p).banks = s.banks := by
  simp [State.disposeHead]
@[simp] theorem State.disposeHead_coalescer (s : State) (r : RingId) (p : Prefetched) : (s.disposeHead r p).coalescer = s.coalescer := by
  simp [State.disposeHead]
@[simp] theorem State.disposeHead_mport (s : State) (r : RingId) (p : Prefetched) : (s.disposeHead r p).mport = s.mport := by
  simp [State.disposeHead]
@[simp] theorem State.disposeHead_mailbox (s : State) (r : RingId) (p : Prefetched) : (s.disposeHead r p).mailbox = s.mailbox := by
  simp [State.disposeHead]
@[simp] theorem State.disposeHead_freeIndex (s : State) (r : RingId) (p : Prefetched) : (s.disposeHead r p).freeIndex = s.freeIndex := by
  simp [State.disposeHead]
@[simp] theorem State.disposeHead_pending (s : State) (r : RingId) (p : Prefetched) : (s.disposeHead r p).pending = s.pending := by
  simp [State.disposeHead]

/-! ## Mailbox -/

@[simp] theorem State.recordWritten_control (s : State) (r : RingId) : (s.recordWritten r).control = s.control := by
  unfold State.recordWritten; try dsimp only
  (repeat' split) <;> simp
@[simp] theorem State.recordWritten_issue (s : State) (r : RingId) : (s.recordWritten r).issue = s.issue := by
  unfold State.recordWritten; try dsimp only
  (repeat' split) <;> simp
@[simp] theorem State.recordWritten_map (s : State) (r : RingId) : (s.recordWritten r).map = s.map := by
  unfold State.recordWritten; try dsimp only
  (repeat' split) <;> simp
@[simp] theorem State.recordWritten_channels (s : State) (r : RingId) : (s.recordWritten r).channels = s.channels := by
  unfold State.recordWritten; try dsimp only
  (repeat' split) <;> simp
@[simp] theorem State.recordWritten_ports (s : State) (r : RingId) : (s.recordWritten r).ports = s.ports := by
  unfold State.recordWritten; try dsimp only
  (repeat' split) <;> simp
@[simp] theorem State.recordWritten_banks (s : State) (r : RingId) : (s.recordWritten r).banks = s.banks := by
  unfold State.recordWritten; try dsimp only
  (repeat' split) <;> simp
@[simp] theorem State.recordWritten_writer (s : State) (r : RingId) : (s.recordWritten r).writer = s.writer := by
  unfold State.recordWritten; try dsimp only
  (repeat' split) <;> simp
@[simp] theorem State.recordWritten_mport (s : State) (r : RingId) : (s.recordWritten r).mport = s.mport := by
  unfold State.recordWritten; try dsimp only
  (repeat' split) <;> simp
@[simp] theorem State.recordWritten_mailbox (s : State) (r : RingId) : (s.recordWritten r).mailbox = s.mailbox := by
  unfold State.recordWritten; try dsimp only
  (repeat' split) <;> simp
@[simp] theorem State.recordWritten_freeIndex (s : State) (r : RingId) : (s.recordWritten r).freeIndex = s.freeIndex := by
  unfold State.recordWritten; try dsimp only
  (repeat' split) <;> simp
@[simp] theorem State.recordWritten_pending (s : State) (r : RingId) : (s.recordWritten r).pending = s.pending := by
  unfold State.recordWritten; try dsimp only
  (repeat' split) <;> simp

@[simp] theorem State.dropHazard_control (s : State) (r : RingId) (k : Option Nat) : (s.dropHazard r k).control = s.control := by
  unfold State.dropHazard; try dsimp only
  (repeat' split) <;> simp
@[simp] theorem State.dropHazard_ringManager (s : State) (r : RingId) (k : Option Nat) : (s.dropHazard r k).ringManager = s.ringManager := by
  unfold State.dropHazard; try dsimp only
  (repeat' split) <;> simp
@[simp] theorem State.dropHazard_map (s : State) (r : RingId) (k : Option Nat) : (s.dropHazard r k).map = s.map := by
  unfold State.dropHazard; try dsimp only
  (repeat' split) <;> simp
@[simp] theorem State.dropHazard_channels (s : State) (r : RingId) (k : Option Nat) : (s.dropHazard r k).channels = s.channels := by
  unfold State.dropHazard; try dsimp only
  (repeat' split) <;> simp
@[simp] theorem State.dropHazard_ports (s : State) (r : RingId) (k : Option Nat) : (s.dropHazard r k).ports = s.ports := by
  unfold State.dropHazard; try dsimp only
  (repeat' split) <;> simp
@[simp] theorem State.dropHazard_banks (s : State) (r : RingId) (k : Option Nat) : (s.dropHazard r k).banks = s.banks := by
  unfold State.dropHazard; try dsimp only
  (repeat' split) <;> simp
@[simp] theorem State.dropHazard_writer (s : State) (r : RingId) (k : Option Nat) : (s.dropHazard r k).writer = s.writer := by
  unfold State.dropHazard; try dsimp only
  (repeat' split) <;> simp
@[simp] theorem State.dropHazard_coalescer (s : State) (r : RingId) (k : Option Nat) : (s.dropHazard r k).coalescer = s.coalescer := by
  unfold State.dropHazard; try dsimp only
  (repeat' split) <;> simp
@[simp] theorem State.dropHazard_mport (s : State) (r : RingId) (k : Option Nat) : (s.dropHazard r k).mport = s.mport := by
  unfold State.dropHazard; try dsimp only
  (repeat' split) <;> simp
@[simp] theorem State.dropHazard_mailbox (s : State) (r : RingId) (k : Option Nat) : (s.dropHazard r k).mailbox = s.mailbox := by
  unfold State.dropHazard; try dsimp only
  (repeat' split) <;> simp
@[simp] theorem State.dropHazard_freeIndex (s : State) (r : RingId) (k : Option Nat) : (s.dropHazard r k).freeIndex = s.freeIndex := by
  unfold State.dropHazard; try dsimp only
  (repeat' split) <;> simp
@[simp] theorem State.dropHazard_pending (s : State) (r : RingId) (k : Option Nat) : (s.dropHazard r k).pending = s.pending := by
  unfold State.dropHazard; try dsimp only
  (repeat' split) <;> simp

@[simp] theorem State.coalesce_control (s : State) (c : CqId) : (s.coalesce c).control = s.control := by
  rfl
@[simp] theorem State.coalesce_ringManager (s : State) (c : CqId) : (s.coalesce c).ringManager = s.ringManager := by
  rfl
@[simp] theorem State.coalesce_issue (s : State) (c : CqId) : (s.coalesce c).issue = s.issue := by
  rfl
@[simp] theorem State.coalesce_map (s : State) (c : CqId) : (s.coalesce c).map = s.map := by
  rfl
@[simp] theorem State.coalesce_channels (s : State) (c : CqId) : (s.coalesce c).channels = s.channels := by
  rfl
@[simp] theorem State.coalesce_ports (s : State) (c : CqId) : (s.coalesce c).ports = s.ports := by
  rfl
@[simp] theorem State.coalesce_banks (s : State) (c : CqId) : (s.coalesce c).banks = s.banks := by
  rfl
@[simp] theorem State.coalesce_writer (s : State) (c : CqId) : (s.coalesce c).writer = s.writer := by
  rfl
@[simp] theorem State.coalesce_mport (s : State) (c : CqId) : (s.coalesce c).mport = s.mport := by
  rfl
@[simp] theorem State.coalesce_mailbox (s : State) (c : CqId) : (s.coalesce c).mailbox = s.mailbox := by
  rfl
@[simp] theorem State.coalesce_freeIndex (s : State) (c : CqId) : (s.coalesce c).freeIndex = s.freeIndex := by
  rfl
@[simp] theorem State.coalesce_pending (s : State) (c : CqId) : (s.coalesce c).pending = s.pending := by
  rfl

@[simp] theorem State.entryWritten_control (s : State) (e : Completion) : (s.entryWritten e).control = s.control := by
  simp [State.entryWritten]
@[simp] theorem State.entryWritten_map (s : State) (e : Completion) : (s.entryWritten e).map = s.map := by
  simp [State.entryWritten]
@[simp] theorem State.entryWritten_channels (s : State) (e : Completion) : (s.entryWritten e).channels = s.channels := by
  simp [State.entryWritten]
@[simp] theorem State.entryWritten_ports (s : State) (e : Completion) : (s.entryWritten e).ports = s.ports := by
  simp [State.entryWritten]
@[simp] theorem State.entryWritten_banks (s : State) (e : Completion) : (s.entryWritten e).banks = s.banks := by
  simp [State.entryWritten]
@[simp] theorem State.entryWritten_mport (s : State) (e : Completion) : (s.entryWritten e).mport = s.mport := by
  simp [State.entryWritten]
@[simp] theorem State.entryWritten_mailbox (s : State) (e : Completion) : (s.entryWritten e).mailbox = s.mailbox := by
  simp [State.entryWritten]
@[simp] theorem State.entryWritten_freeIndex (s : State) (e : Completion) : (s.entryWritten e).freeIndex = s.freeIndex := by
  simp [State.entryWritten]
@[simp] theorem State.entryWritten_pending (s : State) (e : Completion) : (s.entryWritten e).pending = s.pending := by
  simp [State.entryWritten]

@[simp] theorem State.joinRecord_control (s : State) (r : RingId) (q : FetchRequest) : (s.joinRecord r q).control = s.control := by
  unfold State.joinRecord; try dsimp only
  (repeat' split) <;> simp
@[simp] theorem State.joinRecord_map (s : State) (r : RingId) (q : FetchRequest) : (s.joinRecord r q).map = s.map := by
  unfold State.joinRecord; try dsimp only
  (repeat' split) <;> simp
@[simp] theorem State.joinRecord_channels (s : State) (r : RingId) (q : FetchRequest) : (s.joinRecord r q).channels = s.channels := by
  unfold State.joinRecord; try dsimp only
  (repeat' split) <;> simp
@[simp] theorem State.joinRecord_ports (s : State) (r : RingId) (q : FetchRequest) : (s.joinRecord r q).ports = s.ports := by
  unfold State.joinRecord; try dsimp only
  (repeat' split) <;> simp
@[simp] theorem State.joinRecord_banks (s : State) (r : RingId) (q : FetchRequest) : (s.joinRecord r q).banks = s.banks := by
  unfold State.joinRecord; try dsimp only
  (repeat' split) <;> simp
@[simp] theorem State.joinRecord_writer (s : State) (r : RingId) (q : FetchRequest) : (s.joinRecord r q).writer = s.writer := by
  unfold State.joinRecord; try dsimp only
  (repeat' split) <;> simp
@[simp] theorem State.joinRecord_coalescer (s : State) (r : RingId) (q : FetchRequest) : (s.joinRecord r q).coalescer = s.coalescer := by
  unfold State.joinRecord; try dsimp only
  (repeat' split) <;> simp
@[simp] theorem State.joinRecord_mport (s : State) (r : RingId) (q : FetchRequest) : (s.joinRecord r q).mport = s.mport := by
  unfold State.joinRecord; try dsimp only
  (repeat' split) <;> simp
@[simp] theorem State.joinRecord_mailbox (s : State) (r : RingId) (q : FetchRequest) : (s.joinRecord r q).mailbox = s.mailbox := by
  unfold State.joinRecord; try dsimp only
  (repeat' split) <;> simp
@[simp] theorem State.joinRecord_freeIndex (s : State) (r : RingId) (q : FetchRequest) : (s.joinRecord r q).freeIndex = s.freeIndex := by
  unfold State.joinRecord; try dsimp only
  (repeat' split) <;> simp
@[simp] theorem State.joinRecord_pending (s : State) (r : RingId) (q : FetchRequest) : (s.joinRecord r q).pending = s.pending := by
  unfold State.joinRecord; try dsimp only
  (repeat' split) <;> simp

@[simp] theorem State.loseEntry_control (s : State) (k : FaultKind) : (s.loseEntry k).control = s.control := by
  unfold State.loseEntry; split <;> simp
@[simp] theorem State.loseEntry_ringManager (s : State) (k : FaultKind) : (s.loseEntry k).ringManager = s.ringManager := by
  unfold State.loseEntry; split <;> simp
@[simp] theorem State.loseEntry_issue (s : State) (k : FaultKind) : (s.loseEntry k).issue = s.issue := by
  unfold State.loseEntry; split <;> simp
@[simp] theorem State.loseEntry_map (s : State) (k : FaultKind) : (s.loseEntry k).map = s.map := by
  unfold State.loseEntry; split <;> simp
@[simp] theorem State.loseEntry_channels (s : State) (k : FaultKind) : (s.loseEntry k).channels = s.channels := by
  unfold State.loseEntry; split <;> simp
@[simp] theorem State.loseEntry_ports (s : State) (k : FaultKind) : (s.loseEntry k).ports = s.ports := by
  unfold State.loseEntry; split <;> simp
@[simp] theorem State.loseEntry_banks (s : State) (k : FaultKind) : (s.loseEntry k).banks = s.banks := by
  unfold State.loseEntry; split <;> simp
@[simp] theorem State.loseEntry_coalescer (s : State) (k : FaultKind) : (s.loseEntry k).coalescer = s.coalescer := by
  unfold State.loseEntry; split <;> simp
@[simp] theorem State.loseEntry_mport (s : State) (k : FaultKind) : (s.loseEntry k).mport = s.mport := by
  unfold State.loseEntry; split <;> simp
@[simp] theorem State.loseEntry_mailbox (s : State) (k : FaultKind) : (s.loseEntry k).mailbox = s.mailbox := by
  unfold State.loseEntry; split <;> simp
@[simp] theorem State.loseEntry_freeIndex (s : State) (k : FaultKind) : (s.loseEntry k).freeIndex = s.freeIndex := by
  unfold State.loseEntry; split <;> simp
@[simp] theorem State.loseEntry_pending (s : State) (k : FaultKind) : (s.loseEntry k).pending = s.pending := by
  unfold State.loseEntry; split <;> simp

@[simp] theorem State.halt_ringManager (s : State) (f : FaultRecord) : (s.halt f).ringManager = s.ringManager := by
  rfl
@[simp] theorem State.halt_issue (s : State) (f : FaultRecord) : (s.halt f).issue = s.issue := by
  rfl
@[simp] theorem State.halt_map (s : State) (f : FaultRecord) : (s.halt f).map = s.map := by
  rfl
@[simp] theorem State.halt_channels (s : State) (f : FaultRecord) : (s.halt f).channels = s.channels := by
  rfl
@[simp] theorem State.halt_ports (s : State) (f : FaultRecord) : (s.halt f).ports = s.ports := by
  rfl
@[simp] theorem State.halt_banks (s : State) (f : FaultRecord) : (s.halt f).banks = s.banks := by
  rfl
@[simp] theorem State.halt_writer (s : State) (f : FaultRecord) : (s.halt f).writer = s.writer := by
  rfl
@[simp] theorem State.halt_mport (s : State) (f : FaultRecord) : (s.halt f).mport = s.mport := by
  rfl
@[simp] theorem State.halt_mailbox (s : State) (f : FaultRecord) : (s.halt f).mailbox = s.mailbox := by
  rfl
@[simp] theorem State.halt_freeIndex (s : State) (f : FaultRecord) : (s.halt f).freeIndex = s.freeIndex := by
  rfl
@[simp] theorem State.halt_pending (s : State) (f : FaultRecord) : (s.halt f).pending = s.pending := by
  rfl

/-! ## Issue -/

@[simp] theorem State.setWaits_control (s : State) : (s.setWaits).control = s.control := by
  rfl
@[simp] theorem State.setWaits_issue (s : State) : (s.setWaits).issue = s.issue := by
  rfl
@[simp] theorem State.setWaits_map (s : State) : (s.setWaits).map = s.map := by
  rfl
@[simp] theorem State.setWaits_channels (s : State) : (s.setWaits).channels = s.channels := by
  rfl
@[simp] theorem State.setWaits_ports (s : State) : (s.setWaits).ports = s.ports := by
  rfl
@[simp] theorem State.setWaits_banks (s : State) : (s.setWaits).banks = s.banks := by
  rfl
@[simp] theorem State.setWaits_writer (s : State) : (s.setWaits).writer = s.writer := by
  rfl
@[simp] theorem State.setWaits_coalescer (s : State) : (s.setWaits).coalescer = s.coalescer := by
  rfl
@[simp] theorem State.setWaits_mport (s : State) : (s.setWaits).mport = s.mport := by
  rfl
@[simp] theorem State.setWaits_mailbox (s : State) : (s.setWaits).mailbox = s.mailbox := by
  rfl
@[simp] theorem State.setWaits_freeIndex (s : State) : (s.setWaits).freeIndex = s.freeIndex := by
  rfl
@[simp] theorem State.setWaits_pending (s : State) : (s.setWaits).pending = s.pending := by
  rfl

@[simp] theorem State.movePointer_control (s : State) (r : RingId) : (s.movePointer r).control = s.control := by
  unfold State.movePointer; try dsimp only
  (repeat' split) <;> simp
@[simp] theorem State.movePointer_ringManager (s : State) (r : RingId) : (s.movePointer r).ringManager = s.ringManager := by
  unfold State.movePointer; try dsimp only
  (repeat' split) <;> simp
@[simp] theorem State.movePointer_map (s : State) (r : RingId) : (s.movePointer r).map = s.map := by
  unfold State.movePointer; try dsimp only
  (repeat' split) <;> simp
@[simp] theorem State.movePointer_channels (s : State) (r : RingId) : (s.movePointer r).channels = s.channels := by
  unfold State.movePointer; try dsimp only
  (repeat' split) <;> simp
@[simp] theorem State.movePointer_ports (s : State) (r : RingId) : (s.movePointer r).ports = s.ports := by
  unfold State.movePointer; try dsimp only
  (repeat' split) <;> simp
@[simp] theorem State.movePointer_banks (s : State) (r : RingId) : (s.movePointer r).banks = s.banks := by
  unfold State.movePointer; try dsimp only
  (repeat' split) <;> simp
@[simp] theorem State.movePointer_writer (s : State) (r : RingId) : (s.movePointer r).writer = s.writer := by
  unfold State.movePointer; try dsimp only
  (repeat' split) <;> simp
@[simp] theorem State.movePointer_coalescer (s : State) (r : RingId) : (s.movePointer r).coalescer = s.coalescer := by
  unfold State.movePointer; try dsimp only
  (repeat' split) <;> simp
@[simp] theorem State.movePointer_mport (s : State) (r : RingId) : (s.movePointer r).mport = s.mport := by
  unfold State.movePointer; try dsimp only
  (repeat' split) <;> simp
@[simp] theorem State.movePointer_mailbox (s : State) (r : RingId) : (s.movePointer r).mailbox = s.mailbox := by
  unfold State.movePointer; try dsimp only
  (repeat' split) <;> simp
@[simp] theorem State.movePointer_freeIndex (s : State) (r : RingId) : (s.movePointer r).freeIndex = s.freeIndex := by
  unfold State.movePointer; try dsimp only
  (repeat' split) <;> simp
@[simp] theorem State.movePointer_pending (s : State) (r : RingId) : (s.movePointer r).pending = s.pending := by
  unfold State.movePointer; try dsimp only
  (repeat' split) <;> simp

@[simp] theorem State.takeHead_control (s : State) (r : RingId) : (s.takeHead r).control = s.control := by
  simp [State.takeHead]
@[simp] theorem State.takeHead_map (s : State) (r : RingId) : (s.takeHead r).map = s.map := by
  simp [State.takeHead]
@[simp] theorem State.takeHead_channels (s : State) (r : RingId) : (s.takeHead r).channels = s.channels := by
  simp [State.takeHead]
@[simp] theorem State.takeHead_ports (s : State) (r : RingId) : (s.takeHead r).ports = s.ports := by
  simp [State.takeHead]
@[simp] theorem State.takeHead_banks (s : State) (r : RingId) : (s.takeHead r).banks = s.banks := by
  simp [State.takeHead]
@[simp] theorem State.takeHead_coalescer (s : State) (r : RingId) : (s.takeHead r).coalescer = s.coalescer := by
  simp [State.takeHead]
@[simp] theorem State.takeHead_mport (s : State) (r : RingId) : (s.takeHead r).mport = s.mport := by
  simp [State.takeHead]
@[simp] theorem State.takeHead_mailbox (s : State) (r : RingId) : (s.takeHead r).mailbox = s.mailbox := by
  simp [State.takeHead]
@[simp] theorem State.takeHead_freeIndex (s : State) (r : RingId) : (s.takeHead r).freeIndex = s.freeIndex := by
  simp [State.takeHead]
@[simp] theorem State.takeHead_pending (s : State) (r : RingId) : (s.takeHead r).pending = s.pending := by
  simp [State.takeHead]

@[simp] theorem State.completeHead_control (s : State) (r : RingId) (p : Prefetched) (st : Status) (d : Detail) : (s.completeHead r p st d).control = s.control := by
  exact State.handEntry_control ..
@[simp] theorem State.completeHead_issue (s : State) (r : RingId) (p : Prefetched) (st : Status) (d : Detail) : (s.completeHead r p st d).issue = s.issue := by
  exact State.handEntry_issue ..
@[simp] theorem State.completeHead_map (s : State) (r : RingId) (p : Prefetched) (st : Status) (d : Detail) : (s.completeHead r p st d).map = s.map := by
  exact State.handEntry_map ..
@[simp] theorem State.completeHead_channels (s : State) (r : RingId) (p : Prefetched) (st : Status) (d : Detail) : (s.completeHead r p st d).channels = s.channels := by
  exact State.handEntry_channels ..
@[simp] theorem State.completeHead_ports (s : State) (r : RingId) (p : Prefetched) (st : Status) (d : Detail) : (s.completeHead r p st d).ports = s.ports := by
  exact State.handEntry_ports ..
@[simp] theorem State.completeHead_banks (s : State) (r : RingId) (p : Prefetched) (st : Status) (d : Detail) : (s.completeHead r p st d).banks = s.banks := by
  exact State.handEntry_banks ..
@[simp] theorem State.completeHead_coalescer (s : State) (r : RingId) (p : Prefetched) (st : Status) (d : Detail) : (s.completeHead r p st d).coalescer = s.coalescer := by
  exact State.handEntry_coalescer ..
@[simp] theorem State.completeHead_mport (s : State) (r : RingId) (p : Prefetched) (st : Status) (d : Detail) : (s.completeHead r p st d).mport = s.mport := by
  exact State.handEntry_mport ..
@[simp] theorem State.completeHead_mailbox (s : State) (r : RingId) (p : Prefetched) (st : Status) (d : Detail) : (s.completeHead r p st d).mailbox = s.mailbox := by
  exact State.handEntry_mailbox ..
@[simp] theorem State.completeHead_freeIndex (s : State) (r : RingId) (p : Prefetched) (st : Status) (d : Detail) : (s.completeHead r p st d).freeIndex = s.freeIndex := by
  exact State.handEntry_freeIndex ..
@[simp] theorem State.completeHead_pending (s : State) (r : RingId) (p : Prefetched) (st : Status) (d : Detail) : (s.completeHead r p st d).pending = s.pending := by
  exact State.handEntry_pending ..

@[simp] theorem State.issueTransfer_control (s : State) (r : RingId) (p : Prefetched) (k : Kind) (a b c : Option Extent) (d : Direction) : (s.issueTransfer r p k a b c d).control = s.control := by
  simp [State.issueTransfer]
@[simp] theorem State.issueTransfer_ringManager (s : State) (r : RingId) (p : Prefetched) (k : Kind) (a b c : Option Extent) (d : Direction) : (s.issueTransfer r p k a b c d).ringManager = s.ringManager := by
  simp [State.issueTransfer]
@[simp] theorem State.issueTransfer_banks (s : State) (r : RingId) (p : Prefetched) (k : Kind) (a b c : Option Extent) (d : Direction) : (s.issueTransfer r p k a b c d).banks = s.banks := by
  simp [State.issueTransfer]
@[simp] theorem State.issueTransfer_writer (s : State) (r : RingId) (p : Prefetched) (k : Kind) (a b c : Option Extent) (d : Direction) : (s.issueTransfer r p k a b c d).writer = s.writer := by
  simp [State.issueTransfer]
@[simp] theorem State.issueTransfer_coalescer (s : State) (r : RingId) (p : Prefetched) (k : Kind) (a b c : Option Extent) (d : Direction) : (s.issueTransfer r p k a b c d).coalescer = s.coalescer := by
  simp [State.issueTransfer]
@[simp] theorem State.issueTransfer_mport (s : State) (r : RingId) (p : Prefetched) (k : Kind) (a b c : Option Extent) (d : Direction) : (s.issueTransfer r p k a b c d).mport = s.mport := by
  simp [State.issueTransfer]
@[simp] theorem State.issueTransfer_mailbox (s : State) (r : RingId) (p : Prefetched) (k : Kind) (a b c : Option Extent) (d : Direction) : (s.issueTransfer r p k a b c d).mailbox = s.mailbox := by
  simp [State.issueTransfer]
@[simp] theorem State.issueTransfer_freeIndex (s : State) (r : RingId) (p : Prefetched) (k : Kind) (a b c : Option Extent) (d : Direction) : (s.issueTransfer r p k a b c d).freeIndex = s.freeIndex := by
  simp [State.issueTransfer]
@[simp] theorem State.issueTransfer_pending (s : State) (r : RingId) (p : Prefetched) (k : Kind) (a b c : Option Extent) (d : Direction) : (s.issueTransfer r p k a b c d).pending = s.pending := by
  simp [State.issueTransfer]

@[simp] theorem State.carryOut_control (s : State) (r : RingId) (p : Prefetched) (q : Plan) : (s.carryOut r p q).control = s.control := by
  unfold State.carryOut; try dsimp only
  (repeat' split) <;> simp
@[simp] theorem State.carryOut_banks (s : State) (r : RingId) (p : Prefetched) (q : Plan) : (s.carryOut r p q).banks = s.banks := by
  unfold State.carryOut; try dsimp only
  (repeat' split) <;> simp
@[simp] theorem State.carryOut_coalescer (s : State) (r : RingId) (p : Prefetched) (q : Plan) : (s.carryOut r p q).coalescer = s.coalescer := by
  unfold State.carryOut; try dsimp only
  (repeat' split) <;> simp
@[simp] theorem State.carryOut_mport (s : State) (r : RingId) (p : Prefetched) (q : Plan) : (s.carryOut r p q).mport = s.mport := by
  unfold State.carryOut; try dsimp only
  (repeat' split) <;> simp
@[simp] theorem State.carryOut_mailbox (s : State) (r : RingId) (p : Prefetched) (q : Plan) : (s.carryOut r p q).mailbox = s.mailbox := by
  unfold State.carryOut; try dsimp only
  (repeat' split) <;> simp
@[simp] theorem State.carryOut_freeIndex (s : State) (r : RingId) (p : Prefetched) (q : Plan) : (s.carryOut r p q).freeIndex = s.freeIndex := by
  unfold State.carryOut; try dsimp only
  (repeat' split) <;> simp
@[simp] theorem State.carryOut_pending (s : State) (r : RingId) (p : Prefetched) (q : Plan) : (s.carryOut r p q).pending = s.pending := by
  unfold State.carryOut; try dsimp only
  (repeat' split) <;> simp

@[simp] theorem State.examine_control (s : State) : (s.examine).control = s.control := by
  unfold State.examine; try dsimp only
  (repeat' split) <;> simp
@[simp] theorem State.examine_banks (s : State) : (s.examine).banks = s.banks := by
  unfold State.examine; try dsimp only
  (repeat' split) <;> simp
@[simp] theorem State.examine_coalescer (s : State) : (s.examine).coalescer = s.coalescer := by
  unfold State.examine; try dsimp only
  (repeat' split) <;> simp
@[simp] theorem State.examine_mport (s : State) : (s.examine).mport = s.mport := by
  unfold State.examine; try dsimp only
  (repeat' split) <;> simp
@[simp] theorem State.examine_mailbox (s : State) : (s.examine).mailbox = s.mailbox := by
  unfold State.examine; try dsimp only
  (repeat' split) <;> simp
@[simp] theorem State.examine_freeIndex (s : State) : (s.examine).freeIndex = s.freeIndex := by
  unfold State.examine; try dsimp only
  (repeat' split) <;> simp
@[simp] theorem State.examine_pending (s : State) : (s.examine).pending = s.pending := by
  unfold State.examine; try dsimp only
  (repeat' split) <;> simp

/-! ## Setup -/

@[simp] theorem State.failLoad_ringManager (s : State) (e : SetupError) : (s.failLoad e).ringManager = s.ringManager := by
  rfl
@[simp] theorem State.failLoad_issue (s : State) (e : SetupError) : (s.failLoad e).issue = s.issue := by
  rfl
@[simp] theorem State.failLoad_map (s : State) (e : SetupError) : (s.failLoad e).map = s.map := by
  rfl
@[simp] theorem State.failLoad_channels (s : State) (e : SetupError) : (s.failLoad e).channels = s.channels := by
  rfl
@[simp] theorem State.failLoad_ports (s : State) (e : SetupError) : (s.failLoad e).ports = s.ports := by
  rfl
@[simp] theorem State.failLoad_banks (s : State) (e : SetupError) : (s.failLoad e).banks = s.banks := by
  rfl
@[simp] theorem State.failLoad_writer (s : State) (e : SetupError) : (s.failLoad e).writer = s.writer := by
  rfl
@[simp] theorem State.failLoad_mport (s : State) (e : SetupError) : (s.failLoad e).mport = s.mport := by
  rfl
@[simp] theorem State.failLoad_mailbox (s : State) (e : SetupError) : (s.failLoad e).mailbox = s.mailbox := by
  rfl
@[simp] theorem State.failLoad_freeIndex (s : State) (e : SetupError) : (s.failLoad e).freeIndex = s.freeIndex := by
  rfl
@[simp] theorem State.failLoad_pending (s : State) (e : SetupError) : (s.failLoad e).pending = s.pending := by
  rfl

@[simp] theorem State.beginLoad_ringManager (s : State) : (s.beginLoad).ringManager = s.ringManager := by
  unfold State.beginLoad; try dsimp only
  (repeat' split) <;> simp
@[simp] theorem State.beginLoad_issue (s : State) : (s.beginLoad).issue = s.issue := by
  unfold State.beginLoad; try dsimp only
  (repeat' split) <;> simp
@[simp] theorem State.beginLoad_map (s : State) : (s.beginLoad).map = s.map := by
  unfold State.beginLoad; try dsimp only
  (repeat' split) <;> simp
@[simp] theorem State.beginLoad_channels (s : State) : (s.beginLoad).channels = s.channels := by
  unfold State.beginLoad; try dsimp only
  (repeat' split) <;> simp
@[simp] theorem State.beginLoad_ports (s : State) : (s.beginLoad).ports = s.ports := by
  unfold State.beginLoad; try dsimp only
  (repeat' split) <;> simp
@[simp] theorem State.beginLoad_banks (s : State) : (s.beginLoad).banks = s.banks := by
  unfold State.beginLoad; try dsimp only
  (repeat' split) <;> simp
@[simp] theorem State.beginLoad_writer (s : State) : (s.beginLoad).writer = s.writer := by
  unfold State.beginLoad; try dsimp only
  (repeat' split) <;> simp
@[simp] theorem State.beginLoad_mailbox (s : State) : (s.beginLoad).mailbox = s.mailbox := by
  unfold State.beginLoad; try dsimp only
  (repeat' split) <;> simp
@[simp] theorem State.beginLoad_freeIndex (s : State) : (s.beginLoad).freeIndex = s.freeIndex := by
  unfold State.beginLoad; try dsimp only
  (repeat' split) <;> simp
@[simp] theorem State.beginLoad_pending (s : State) : (s.beginLoad).pending = s.pending := by
  unfold State.beginLoad; try dsimp only
  (repeat' split) <;> simp

@[simp] theorem State.flagAborts_control (s : State) : (s.flagAborts).control = s.control := by
  rfl
@[simp] theorem State.flagAborts_ringManager (s : State) : (s.flagAborts).ringManager = s.ringManager := by
  rfl
@[simp] theorem State.flagAborts_issue (s : State) : (s.flagAborts).issue = s.issue := by
  rfl
@[simp] theorem State.flagAborts_map (s : State) : (s.flagAborts).map = s.map := by
  rfl
@[simp] theorem State.flagAborts_ports (s : State) : (s.flagAborts).ports = s.ports := by
  rfl
@[simp] theorem State.flagAborts_banks (s : State) : (s.flagAborts).banks = s.banks := by
  rfl
@[simp] theorem State.flagAborts_writer (s : State) : (s.flagAborts).writer = s.writer := by
  rfl
@[simp] theorem State.flagAborts_coalescer (s : State) : (s.flagAborts).coalescer = s.coalescer := by
  rfl
@[simp] theorem State.flagAborts_mport (s : State) : (s.flagAborts).mport = s.mport := by
  rfl
@[simp] theorem State.flagAborts_mailbox (s : State) : (s.flagAborts).mailbox = s.mailbox := by
  rfl
@[simp] theorem State.flagAborts_freeIndex (s : State) : (s.flagAborts).freeIndex = s.freeIndex := by
  rfl
@[simp] theorem State.flagAborts_pending (s : State) : (s.flagAborts).pending = s.pending := by
  rfl

@[simp] theorem State.finishLoad_map (s : State) (b : SetupBlock) : (s.finishLoad b).map = s.map := by
  rfl
@[simp] theorem State.finishLoad_channels (s : State) (b : SetupBlock) : (s.finishLoad b).channels = s.channels := by
  rfl
@[simp] theorem State.finishLoad_banks (s : State) (b : SetupBlock) : (s.finishLoad b).banks = s.banks := by
  rfl
@[simp] theorem State.finishLoad_mport (s : State) (b : SetupBlock) : (s.finishLoad b).mport = s.mport := by
  rfl
@[simp] theorem State.finishLoad_mailbox (s : State) (b : SetupBlock) : (s.finishLoad b).mailbox = s.mailbox := by
  rfl
@[simp] theorem State.finishLoad_freeIndex (s : State) (b : SetupBlock) : (s.finishLoad b).freeIndex = s.freeIndex := by
  rfl
@[simp] theorem State.finishLoad_pending (s : State) (b : SetupBlock) : (s.finishLoad b).pending = s.pending := by
  rfl

@[simp] theorem State.loadBlock_map (s : State) (b : SetupBlock) : (s.loadBlock b).map = s.map := by
  unfold State.loadBlock; try dsimp only
  (repeat' split) <;> simp
@[simp] theorem State.loadBlock_channels (s : State) (b : SetupBlock) : (s.loadBlock b).channels = s.channels := by
  unfold State.loadBlock; try dsimp only
  (repeat' split) <;> simp
@[simp] theorem State.loadBlock_banks (s : State) (b : SetupBlock) : (s.loadBlock b).banks = s.banks := by
  unfold State.loadBlock; try dsimp only
  (repeat' split) <;> simp
@[simp] theorem State.loadBlock_mport (s : State) (b : SetupBlock) : (s.loadBlock b).mport = s.mport := by
  unfold State.loadBlock; try dsimp only
  (repeat' split) <;> simp
@[simp] theorem State.loadBlock_mailbox (s : State) (b : SetupBlock) : (s.loadBlock b).mailbox = s.mailbox := by
  unfold State.loadBlock; try dsimp only
  (repeat' split) <;> simp
@[simp] theorem State.loadBlock_freeIndex (s : State) (b : SetupBlock) : (s.loadBlock b).freeIndex = s.freeIndex := by
  unfold State.loadBlock; try dsimp only
  (repeat' split) <;> simp
@[simp] theorem State.loadBlock_pending (s : State) (b : SetupBlock) : (s.loadBlock b).pending = s.pending := by
  unfold State.loadBlock; try dsimp only
  (repeat' split) <;> simp

/-! ## RingControl -/

@[simp] theorem State.activate_control (s : State) (r : RingId) : (s.activate r).control = s.control := by
  rfl
@[simp] theorem State.activate_map (s : State) (r : RingId) : (s.activate r).map = s.map := by
  rfl
@[simp] theorem State.activate_channels (s : State) (r : RingId) : (s.activate r).channels = s.channels := by
  rfl
@[simp] theorem State.activate_ports (s : State) (r : RingId) : (s.activate r).ports = s.ports := by
  rfl
@[simp] theorem State.activate_banks (s : State) (r : RingId) : (s.activate r).banks = s.banks := by
  rfl
@[simp] theorem State.activate_writer (s : State) (r : RingId) : (s.activate r).writer = s.writer := by
  rfl
@[simp] theorem State.activate_coalescer (s : State) (r : RingId) : (s.activate r).coalescer = s.coalescer := by
  rfl
@[simp] theorem State.activate_mport (s : State) (r : RingId) : (s.activate r).mport = s.mport := by
  rfl
@[simp] theorem State.activate_mailbox (s : State) (r : RingId) : (s.activate r).mailbox = s.mailbox := by
  rfl
@[simp] theorem State.activate_freeIndex (s : State) (r : RingId) : (s.activate r).freeIndex = s.freeIndex := by
  rfl
@[simp] theorem State.activate_pending (s : State) (r : RingId) : (s.activate r).pending = s.pending := by
  rfl

@[simp] theorem State.postFault_control (s : State) (r : RingId) (c : FaultCause) : (s.postFault r c).control = s.control := by
  unfold State.postFault; try dsimp only
  (repeat' split) <;> simp
@[simp] theorem State.postFault_map (s : State) (r : RingId) (c : FaultCause) : (s.postFault r c).map = s.map := by
  unfold State.postFault; try dsimp only
  (repeat' split) <;> simp
@[simp] theorem State.postFault_channels (s : State) (r : RingId) (c : FaultCause) : (s.postFault r c).channels = s.channels := by
  unfold State.postFault; try dsimp only
  (repeat' split) <;> simp
@[simp] theorem State.postFault_ports (s : State) (r : RingId) (c : FaultCause) : (s.postFault r c).ports = s.ports := by
  unfold State.postFault; try dsimp only
  (repeat' split) <;> simp
@[simp] theorem State.postFault_banks (s : State) (r : RingId) (c : FaultCause) : (s.postFault r c).banks = s.banks := by
  unfold State.postFault; try dsimp only
  (repeat' split) <;> simp
@[simp] theorem State.postFault_mport (s : State) (r : RingId) (c : FaultCause) : (s.postFault r c).mport = s.mport := by
  unfold State.postFault; try dsimp only
  (repeat' split) <;> simp
@[simp] theorem State.postFault_mailbox (s : State) (r : RingId) (c : FaultCause) : (s.postFault r c).mailbox = s.mailbox := by
  unfold State.postFault; try dsimp only
  (repeat' split) <;> simp
@[simp] theorem State.postFault_freeIndex (s : State) (r : RingId) (c : FaultCause) : (s.postFault r c).freeIndex = s.freeIndex := by
  unfold State.postFault; try dsimp only
  (repeat' split) <;> simp
@[simp] theorem State.postFault_pending (s : State) (r : RingId) (c : FaultCause) : (s.postFault r c).pending = s.pending := by
  unfold State.postFault; try dsimp only
  (repeat' split) <;> simp

@[simp] theorem State.postApply_control (s : State) (r : RingId) (t : Count) : (s.postApply r t).control = s.control := by
  unfold State.postApply; try dsimp only
  (repeat' split) <;> simp
@[simp] theorem State.postApply_map (s : State) (r : RingId) (t : Count) : (s.postApply r t).map = s.map := by
  unfold State.postApply; try dsimp only
  (repeat' split) <;> simp
@[simp] theorem State.postApply_channels (s : State) (r : RingId) (t : Count) : (s.postApply r t).channels = s.channels := by
  unfold State.postApply; try dsimp only
  (repeat' split) <;> simp
@[simp] theorem State.postApply_ports (s : State) (r : RingId) (t : Count) : (s.postApply r t).ports = s.ports := by
  unfold State.postApply; try dsimp only
  (repeat' split) <;> simp
@[simp] theorem State.postApply_banks (s : State) (r : RingId) (t : Count) : (s.postApply r t).banks = s.banks := by
  unfold State.postApply; try dsimp only
  (repeat' split) <;> simp
@[simp] theorem State.postApply_writer (s : State) (r : RingId) (t : Count) : (s.postApply r t).writer = s.writer := by
  unfold State.postApply; try dsimp only
  (repeat' split) <;> simp
@[simp] theorem State.postApply_coalescer (s : State) (r : RingId) (t : Count) : (s.postApply r t).coalescer = s.coalescer := by
  unfold State.postApply; try dsimp only
  (repeat' split) <;> simp
@[simp] theorem State.postApply_mport (s : State) (r : RingId) (t : Count) : (s.postApply r t).mport = s.mport := by
  unfold State.postApply; try dsimp only
  (repeat' split) <;> simp
@[simp] theorem State.postApply_mailbox (s : State) (r : RingId) (t : Count) : (s.postApply r t).mailbox = s.mailbox := by
  unfold State.postApply; try dsimp only
  (repeat' split) <;> simp
@[simp] theorem State.postApply_freeIndex (s : State) (r : RingId) (t : Count) : (s.postApply r t).freeIndex = s.freeIndex := by
  unfold State.postApply; try dsimp only
  (repeat' split) <;> simp
@[simp] theorem State.postApply_pending (s : State) (r : RingId) (t : Count) : (s.postApply r t).pending = s.pending := by
  unfold State.postApply; try dsimp only
  (repeat' split) <;> simp

end Sys2Proof.Machine
end

