-- ==== Sys2Proof/Laws/PerInstr.lean ====
section
/-! SUPPORT. One family of statements about every command as syntax: the register that a command is written to (section 3.7). -/

namespace Sys2Proof.Laws

open Machine (Register)

/-- The register a host gives a command through; none for the part's own events (section 3.7). -/
def registerOf : Instr → Option Register
  | .enable _ | .quiesce _ | .abort _ | .resume _ | .softReset _ | .controlMaskWrite _ | .controlUnknownCommand _ _ => some .control
  | .select _ | .stop _ | .ringResume _ | .flush _ | .ringReset _ | .ringctlUnknownCommand _ _ => some .ringctl
  | .post _ _ => some .post
  | .ack _ _ => some .ack
  | .setupWrite _ => some .setup
  | .statusWrite _ => some .status
  | .intstatWrite _ => some .intstat
  | .powerOnReset | .fetchRequest _ | .mPortGrant | .fetchComplete _ _ | .setupLoadEnd _ _ | .mailboxFault | .examination
  | .beatGrant _ _ | .beatEnd _ | .ready _ _ | .readyTimeout | .handOff _ | .flushDisposal _ | .completionWrite _
  | .holdoffExpiry _ => none

/-- The word that gives a command is written to the command's register. -/
def RegisterWrite.Statement (i : Instr) : Prop := (encodeRegisterWrite i).map (·.1) = registerOf i

theorem RegisterWrite.powerOnReset : RegisterWrite.Statement .powerOnReset := rfl
theorem RegisterWrite.enable (m : Sources) : RegisterWrite.Statement (.enable m) := rfl
theorem RegisterWrite.quiesce (m : Sources) : RegisterWrite.Statement (.quiesce m) := rfl
theorem RegisterWrite.abort (m : Sources) : RegisterWrite.Statement (.abort m) := rfl
theorem RegisterWrite.resume (m : Sources) : RegisterWrite.Statement (.resume m) := rfl
theorem RegisterWrite.softReset (m : Sources) : RegisterWrite.Statement (.softReset m) := rfl
theorem RegisterWrite.controlMaskWrite (m : Sources) : RegisterWrite.Statement (.controlMaskWrite m) := rfl
theorem RegisterWrite.controlUnknownCommand (k : BitVec 3) (m : Sources) : RegisterWrite.Statement (.controlUnknownCommand k m) := rfl
theorem RegisterWrite.select (r : RingId) : RegisterWrite.Statement (.select r) := rfl
theorem RegisterWrite.stop (r : RingId) : RegisterWrite.Statement (.stop r) := rfl
theorem RegisterWrite.ringResume (r : RingId) : RegisterWrite.Statement (.ringResume r) := rfl
theorem RegisterWrite.flush (r : RingId) : RegisterWrite.Statement (.flush r) := rfl
theorem RegisterWrite.ringReset (r : RingId) : RegisterWrite.Statement (.ringReset r) := rfl
theorem RegisterWrite.ringctlUnknownCommand (k : BitVec 3) (r : RingId) : RegisterWrite.Statement (.ringctlUnknownCommand k r) := rfl
theorem RegisterWrite.post (r : RingId) (t : Count) : RegisterWrite.Statement (.post r t) := rfl
theorem RegisterWrite.ack (c : CqId) (h : Count) : RegisterWrite.Statement (.ack c h) := rfl
theorem RegisterWrite.setupWrite (a : MailboxAddr) : RegisterWrite.Statement (.setupWrite a) := rfl
theorem RegisterWrite.statusWrite (w : Word32) : RegisterWrite.Statement (.statusWrite w) := rfl
theorem RegisterWrite.intstatWrite (w : Word32) : RegisterWrite.Statement (.intstatWrite w) := rfl
theorem RegisterWrite.fetchRequest (r : RingId) : RegisterWrite.Statement (.fetchRequest r) := rfl
theorem RegisterWrite.mPortGrant : RegisterWrite.Statement .mPortGrant := rfl
theorem RegisterWrite.fetchComplete (h : List HostWrite) (ok : Bool) : RegisterWrite.Statement (.fetchComplete h ok) := rfl
theorem RegisterWrite.setupLoadEnd (h : List HostWrite) (ok : Bool) : RegisterWrite.Statement (.setupLoadEnd h ok) := rfl
theorem RegisterWrite.mailboxFault : RegisterWrite.Statement .mailboxFault := rfl
theorem RegisterWrite.examination : RegisterWrite.Statement .examination := rfl
theorem RegisterWrite.beatGrant (i : ArbiterId) (o : List OutsideWrite) : RegisterWrite.Statement (.beatGrant i o) := rfl
theorem RegisterWrite.beatEnd (b : BankId) : RegisterWrite.Statement (.beatEnd b) := rfl
theorem RegisterWrite.ready (d : DeviceId) (v : W24) : RegisterWrite.Statement (.ready d v) := rfl
theorem RegisterWrite.readyTimeout : RegisterWrite.Statement .readyTimeout := rfl
theorem RegisterWrite.handOff (c : ChannelId) : RegisterWrite.Statement (.handOff c) := rfl
theorem RegisterWrite.flushDisposal (r : RingId) : RegisterWrite.Statement (.flushDisposal r) := rfl
theorem RegisterWrite.completionWrite (e : WriteEnd) : RegisterWrite.Statement (.completionWrite e) := rfl
theorem RegisterWrite.holdoffExpiry (c : CqId) : RegisterWrite.Statement (.holdoffExpiry c) := rfl

end Sys2Proof.Laws
end

