-- ==== Sys2Proof/Laws/Spec.lean ====
section
/-! SUPPORT. What each shared operation can do, said once: the lemmas to cite in place of unfolding the operation. -/

namespace Sys2Proof.Machine

/-- R77: stop-on-error changes nothing, or takes an IDLE or ACTIVE ring with the setting to STOPPING. -/
theorem State.stopOnError_cases (s : State) (r : RingId) (st : Status) :
    s.stopOnError r st = s ∨
      ((s.ring r).dir.stopOnError = true ∧ st.triggersStop = true ∧ ((s.ring r).phase = .idle ∨ (s.ring r).phase = .active) ∧
        s.stopOnError r st = s.setRing r ((s.ring r).enter .stopping)) := by
  unfold State.stopOnError
  dsimp only
  split
  · next h =>
    simp only [Bool.and_eq_true, Bool.or_eq_true, decide_eq_true_eq] at h
    exact .inr ⟨h.1.1, h.1.2, h.2, rfl⟩
  · exact .inl rfl

/-- R52: an entry that triggers no stop leaves every ring alone. -/
theorem State.stopOnError_of_not_triggers (s : State) (r : RingId) {st : Status} (h : st.triggersStop = false) :
    s.stopOnError r st = s := by
  simp [State.stopOnError, h]

/-- R149: a handed entry stands at the tail of the post queue, and the completion rings are as they were. -/
@[simp] theorem State.handEntry_writer (s : State) (e : Completion) :
    (s.handEntry e).writer = { s.writer with postQueue := s.writer.postQueue ++ [e] } := by
  simp [State.handEntry]

@[simp] theorem State.handEntry_cq (s : State) (e : Completion) (c : CqId) : (s.handEntry e).cq c = s.cq c := by
  simp [State.cq]

/-- R77: of the rings, a handed entry can change the phase and the wait reason of its own alone. -/
theorem State.handEntry_ring (s : State) (e : Completion) (r : RingId) :
    (s.handEntry e).ring r = s.ring r ∨ (r = e.ring ∧ (s.handEntry e).ring r = (s.ring r).enter .stopping) := by
  unfold State.handEntry
  rcases State.stopOnError_cases (s.setPostQueue (s.writer.postQueue ++ [e])) e.ring e.status with h | ⟨-, -, -, h⟩
  · exact .inl (by rw [h]; rfl)
  · by_cases hr : r = e.ring
    · subst hr; exact .inr ⟨rfl, by rw [h]; simp⟩
    · exact .inl (by rw [h]; simp [hr])

/-- R148: a reservation taken. -/
@[simp] theorem State.cq_reserve_same (s : State) (c : CqId) :
    (s.reserve c).cq c = { s.cq c with reservations := (s.cq c).reservations + 1 } := by
  simp [State.reserve]

@[simp] theorem State.cq_reserve_other (s : State) {c c' : CqId} (h : c' ≠ c) : (s.reserve c).cq c' = s.cq c' := by
  simp [State.reserve, h]

/-- R148: a reservation given back. -/
@[simp] theorem State.cq_release_same (s : State) (c : CqId) :
    (s.release c).cq c = { s.cq c with reservations := (s.cq c).reservations - 1 } := by
  simp [State.release]

@[simp] theorem State.cq_release_other (s : State) {c c' : CqId} (h : c' ≠ c) : (s.release c).cq c' = s.cq c' := by
  simp [State.release, h]

/-- R172, R173: what lets an access end. -/
theorem accessCanEnd_iff (s : State) : accessCanEnd s = true ↔ s.control.part = .halted ∨ s.mport.errors = [] := by
  simp [accessCanEnd]

/-- R34, R172: outside HALTED a completion write that can end is that of the head of the post queue. -/
theorem writerEntry_of_accessCanEnd (s : State) (h : accessCanEnd s = true) (hp : s.control.part ≠ .halted) :
    writerEntry s = s.writer.postQueue.head? := by
  have he : s.mport.errors = [] := ((accessCanEnd_iff s).1 h).resolve_left hp
  simp [writerEntry, failedWrites, he, List.head?_eq_getElem?]

/-- R150, R153: a completion write waits exactly while the part is not HALTED and the post queue holds an entry behind those whose
write has failed. -/
theorem completionWriteWaiting_iff (s : State) :
    completionWriteWaiting s = true ↔ failedWrites s < s.writer.postQueue.length ∧ s.control.part ≠ .halted := by
  simp [completionWriteWaiting, writerEntry]

/-- R150, R153: behind the entries whose write has failed stands the entry the Completion Writer writes. -/
theorem writerEntry_append (s : State) {lost rest : List Completion} {e : Completion}
    (h : s.writer.postQueue = lost ++ e :: rest) (n : lost.length = failedWrites s) : writerEntry s = some e := by
  simp [writerEntry, h, ← n]

/-- R149, R151: the written entry leaves, and the others keep their order. -/
theorem State.writerEntryLeaves_postQueue (s : State) {lost rest : List Completion} {e : Completion}
    (h : s.writer.postQueue = lost ++ e :: rest) (n : lost.length = failedWrites s) :
    s.writerEntryLeaves.writer.postQueue = lost ++ rest := by
  simp [State.writerEntryLeaves, h, ← n, List.eraseIdx_append_of_length_le]

/-- A freed port leaves the count of failed writes. -/
@[simp] theorem failedWrites_freePort (s : State) : failedWrites s.freePort = failedWrites s := rfl

/-- R153, R172: a failed completion write counts once among those whose fault is not yet taken, another failed access not at all. -/
theorem failedWrites_reportFault (s : State) (k : FaultKind) (a : MailboxAddr) :
    failedWrites (s.reportFault k a) = failedWrites s + if k = .postWrite then 1 else 0 := by
  by_cases h : k = .postWrite <;> simp [failedWrites, State.reportFault, h]

/-- R153: of the Completion Writer, a lost entry changes the post queue alone. -/
theorem State.loseEntry_writer (s : State) (k : FaultKind) :
    (s.loseEntry k).writer =
      { s.writer with postQueue := if k = .postWrite then s.writer.postQueue.tail else s.writer.postQueue } := by
  unfold State.loseEntry
  split <;> simp_all

/-- R97: a listed transfer stands at the end of its ring's list, under the key that came next. -/
theorem State.listTransfer_hazards (s : State) (r r' : RingId) (reads writes : List PhysExtent) :
    (s.listTransfer r reads writes).issue.hazards.get r' =
      if r' = r then s.issue.hazards.get r ++ [⟨s.issue.nextKey, reads, writes⟩] else s.issue.hazards.get r' := by
  simp [PerRing.get_set]

/-- R97, R151: a dropped transfer leaves its ring's list, where its key names it; no other list changes, and nothing else of the Issue
Arbiter. -/
theorem State.dropHazard_issue (s : State) (r : RingId) (k : Option Nat) :
    (s.dropHazard r k).issue =
      { s.issue with
        hazards := s.issue.hazards.set r ((s.issue.hazards.get r).filter fun h => decide (k ≠ some h.key)) } := by
  cases k with
  | none => simp [State.dropHazard]
  | some k =>
    simp only [State.dropHazard, State.setHazards_issue]
    congr 3
    funext h
    simp [eq_comm]

/-- R78: an entry into STOPPED. -/
@[simp] theorem State.ring_enterStopped_same (s : State) (r : RingId) : (s.enterStopped r).ring r = (s.ring r).enter .stopped := by
  simp [State.enterStopped, State.reportRing, State.ring, State.setRing]

@[simp] theorem State.ring_enterStopped_other (s : State) {r r' : RingId} (h : r' ≠ r) :
    (s.enterStopped r).ring r' = s.ring r' := by
  simp [State.enterStopped, State.reportRing, State.ring, State.setRing, h]

/-- R169, R171: the part enters QUIESCED with EVENT set, or nothing changes. -/
theorem State.drainPart_cases (s : State) :
    (s.drainPart = s ∧
        ¬((s.control.part = .quiescing ∨ s.control.part = .aborting) ∧ channelsIdle s = true ∧ s.map.pendingSwitch = none)) ∨
      ((s.control.part = .quiescing ∨ s.control.part = .aborting) ∧ channelsIdle s = true ∧ s.map.pendingSwitch = none ∧
        s.drainPart = (s.setPart .quiesced).setEvent) := by
  unfold State.drainPart
  split
  · next h => exact .inr ⟨h.1, h.2.1, h.2.2, rfl⟩
  · next h => exact .inl ⟨rfl, h⟩

/-- R135: a conflict beat counted to a channel reaches no other channel. -/
@[simp] theorem State.channel_countConflict_other (s : State) {c c' : ChannelId} (h : c' ≠ c) :
    (s.countConflict c).channel c' = s.channel c' := by
  unfold State.countConflict
  split <;> simp [h]

/-- R135: counting a conflict beat leaves an IDLE channel IDLE and keeps every other channel state. -/
theorem State.channel_countConflict_same (s : State) (c : ChannelId) :
    (s.countConflict c).channel c = match s.channel c with
      | .idle => .idle
      | .running x => .running x.addConflict
      | .ending x => .ending x.addConflict := by
  unfold State.countConflict
  split <;> simp_all

/-- R133: a requested beat reaches the channel that makes it and no other. -/
@[simp] theorem State.channel_requestBeat_other (s : State) (b : Beat) {c : ChannelId} (h : c ≠ b.channel) :
    (s.requestBeat b).channel c = s.channel c := by
  unfold State.requestBeat
  dsimp only
  split <;> simp [h]

/-- R134: with one channel waiting that one is granted; with both, the one not last granted. -/
theorem grantedChannel_cases (a : Arbiter) :
    (grantedChannel a = none ∧ a.waitC0 = [] ∧ a.waitC1 = []) ∨
      (∃ c, grantedChannel a = some c ∧ waitingOf a c ≠ [] ∧
        (a.waitC0 ≠ [] → a.waitC1 ≠ [] → c ≠ a.lastGranted)) := by
  unfold grantedChannel
  split
  · exact .inl ⟨rfl, ‹_›, ‹_›⟩
  · exact .inr ⟨.c0, rfl, by simp_all [waitingOf], by simp_all⟩
  · exact .inr ⟨.c1, rfl, by simp_all [waitingOf], by simp_all⟩
  · split
    · exact .inr ⟨.c1, rfl, by simp_all [waitingOf], by simp_all⟩
    · exact .inr ⟨.c0, rfl, by simp_all [waitingOf], by simp_all⟩

/-- R82, R83: the ring chosen has an eligible head. -/
theorem chosenRing_eligible {s : State} {r : RingId} (h : chosenRing s = some r) : (verdict s r).isEligible = true := by
  have key : ∀ {cls ptr}, searchClass s cls ptr = some r → (verdict s r).isEligible = true := by
    intro cls ptr hs
    have := List.find?_some hs
    simp only [Bool.and_eq_true] at this
    exact this.2
  unfold chosenRing at h
  split at h
  · next he => exact key (he.trans h)
  · exact key h

/-- What both resets leave, field by field (R175, R176). -/
@[simp] theorem State.resetBlocks_control (s : State) (c : ControlUnit) (m : MapUnit) : (s.resetBlocks c m).control = c := rfl
@[simp] theorem State.resetBlocks_map (s : State) (c : ControlUnit) (m : MapUnit) : (s.resetBlocks c m).map = m := rfl
@[simp] theorem State.resetBlocks_ringManager (s : State) (c : ControlUnit) (m : MapUnit) :
    (s.resetBlocks c m).ringManager = RingManager.reset := rfl
@[simp] theorem State.resetBlocks_issue (s : State) (c : ControlUnit) (m : MapUnit) :
    (s.resetBlocks c m).issue = IssueArbiter.reset := rfl
@[simp] theorem State.resetBlocks_channels (s : State) (c : ControlUnit) (m : MapUnit) :
    (s.resetBlocks c m).channels = PerChannel.all .idle := rfl
@[simp] theorem State.resetBlocks_ports (s : State) (c : ControlUnit) (m : MapUnit) : (s.resetBlocks c m).ports = Ports.reset := rfl
@[simp] theorem State.resetBlocks_banks (s : State) (c : ControlUnit) (m : MapUnit) (b : BankId) :
    (s.resetBlocks c m).banks.get b = bankAfterReset s b := by
  cases b <;> rfl
@[simp] theorem State.resetBlocks_writer (s : State) (c : ControlUnit) (m : MapUnit) :
    (s.resetBlocks c m).writer = CompletionWriter.reset := rfl
@[simp] theorem State.resetBlocks_coalescer (s : State) (c : ControlUnit) (m : MapUnit) :
    (s.resetBlocks c m).coalescer = Coalescer.reset := rfl
@[simp] theorem State.resetBlocks_mport (s : State) (c : ControlUnit) (m : MapUnit) :
    (s.resetBlocks c m).mport = mportAfterReset s := rfl
@[simp] theorem State.resetBlocks_mailbox (s : State) (c : ControlUnit) (m : MapUnit) :
    (s.resetBlocks c m).mailbox = mailboxAfterReset s := rfl
@[simp] theorem State.resetBlocks_pending (s : State) (c : ControlUnit) (m : MapUnit) : (s.resetBlocks c m).pending = s.pending := rfl

end Sys2Proof.Machine
end

