-- ==== Sys2Proof/Tests/Slice0.lean ====
section
/-! SUPPORT. The model's own tests: the well-formedness smoke, register words written out from section 3.7, one-step tests with values
from the spec's text, and for each statement with hypotheses a state and operands that meet them. -/

namespace Sys2Proof.Tests

open Sys2Proof Sys2Proof.Machine

/-! ## The well-formedness smoke -/

theorem test_wf_control_code_5_is_a_command : (Instr.controlUnknownCommand 5 ⟨false, false, false⟩).wf = false := by decide
theorem test_wf_control_code_6 : (Instr.controlUnknownCommand 6 ⟨false, false, false⟩).wf = true := by decide
theorem test_wf_ringctl_code_4_is_a_command : (Instr.ringctlUnknownCommand 4 .sq0).wf = false := by decide
theorem test_wf_ringctl_code_5 : (Instr.ringctlUnknownCommand 5 .sq0).wf = true := by decide
theorem test_wf_outside_beyond_capacity : (Instr.beatGrant (.bank .p0) [⟨16384, 0, true⟩]).wf = false := by decide
theorem test_wf_outside_too_wide : (Instr.beatGrant (.bank .d0) [⟨0, 0x10000, true⟩]).wf = false := by decide
theorem test_wf_outside_at_x_port : (Instr.beatGrant .xPort [⟨0, 0, true⟩]).wf = false := by decide
theorem test_wf_outside_last_word : (Instr.beatGrant (.bank .d3) [⟨32767, 0xFFFF, false⟩]).wf = true := by decide

/-! ## Register words, bit by bit from section 3.7 -/

/-- CONTROL: command 1 in bits 2-0, mask bits 8 and 10. -/
theorem test_decode_enable : decodeRegisterWrite .control 0b10100000001#32 = .enable ⟨true, false, true⟩ := by decide
theorem test_decode_resume : decodeRegisterWrite .control 3 = .resume ⟨false, false, false⟩ := by decide
theorem test_decode_abort : decodeRegisterWrite .control 4 = .abort ⟨false, false, false⟩ := by decide
theorem test_decode_control_unknown : decodeRegisterWrite .control 0x207 = .controlUnknownCommand 7 ⟨false, true, false⟩ := by decide
/-- RINGCTL: ring in bits 1-0, command in bits 6-4. -/
theorem test_decode_stop : decodeRegisterWrite .ringctl 0x12 = .stop .sq2 := by decide
theorem test_decode_flush : decodeRegisterWrite .ringctl 0x33 = .flush .sq3 := by decide
/-- POST: ring in bits 1-0, tail in bits 31-16. -/
theorem test_decode_post : decodeRegisterWrite .post 0xFFFE0001 = .post .sq1 0xFFFE := by decide
/-- ACK: completion ring in bit 0, head in bits 31-16. -/
theorem test_decode_ack : decodeRegisterWrite .ack 0x00050001 = .ack .cq1 5 := by decide
theorem test_decode_setup : decodeRegisterWrite .setup 0xABCDFFD0 = .setupWrite 0xFFD0 := by decide

/-! ## States for the tests -/

/-- The state a command leads to. -/
def next? (c : Instr) (s : State) : Option State :=
  match exec c s with
  | .next t => some t
  | .fault _ | .refused _ => none

/-- A field of the state a command leads to. -/
def field? {α : Type} (f : State → α) (c : Instr) (s : State) : Option α := (next? c s).map f

def noMask : Sources := ⟨false, false, false⟩

/-- An enabled ring of depth 4 at 1000h whose completions go to CQ0. -/
def ring0 : Ring := { Ring.reset with dir := ⟨0x1000, 2, true, .urgent, .cq0, false, false⟩, phase := .idle }

/-- An enabled completion ring of depth 4 at 3000h, threshold 2, holdoff 5. -/
def cq0 : CompletionRing := { CompletionRing.reset with base := 0x3000, enabled := true, threshold := 2, holdoff := 5 }

/-- A running part with SQ0 and CQ0, D0 at logical 000000h and P0 at 010000h. -/
def run : State :=
  let t := setEntry (setEntry WindowTable.cleared 0 ⟨true, 0, 1, .bank .d0, 0, false, false⟩)
    1 ⟨true, 0x010000, 1, .bank .p0, 0, false, false⟩
  { ((State.reset.setPart .running).setRing .sq0 ring0).setCq .cq0 cq0 with
    map := { MapUnit.reset with current := t, staged := t } }

def halted : State := run.setPart .halted

/-- A COPY of four words from 000000h to 000100h, tag 77h. -/
def copyRecord : Record :=
  { kind := 1, flags := 0, tag := 0x77, count := 4, pad := 0, a := 0, b := 0x100, c := 0, pattern := 0, index := 0
    enabled := false, sizeCode := 0, targetCode := 0, wp := false, lock := false }

def withHead (s : State) (r : Record) : State :=
  s.setRing .sq0 { s.ring .sq0 with queue := [⟨r, 0, 0⟩], fetch := 1, tail := 1, phase := .active }

def extA : Extent := ⟨0, ⟨.bank .d0, 0, 3⟩, .w16⟩
def extB : Extent := ⟨0x100, ⟨.bank .d0, 256, 259⟩, .w16⟩

/-- The context of that COPY. -/
def copyCtx : Context :=
  { ring := .sq0, slot := 0, tag := 0x77, key := 0, kind := .copy, pad := 0, pattern := 0, strict := false, highonly := false
    generation := 0, extA := some extA, extB := some extB, extC := none, count := 4, direction := .ascending, nextStep := 0
    elementsDone := 0, residue := none, conflictBeats := 0, pendingAbort := false, ending := none, step := none }

def readBeat : Beat := ⟨.c0, false, .a, 0, .bank .d0, 0, .w16, 0, false⟩

/-- C0 runs the COPY and waits for its first read, which waits at D0. -/
def copying : State :=
  let s := (run.setRing .sq0 { ring0 with inFlight := 1 }).setCq .cq0 { cq0 with reservations := 1 }
  let s := { s with map := { s.map with bound := 1 } }
  (s.setChannel .c0 (.running { copyCtx with step := some ⟨.reads, [], 1, []⟩ })).setArbiter (.bank .d0)
    ⟨none, [readBeat], [], .c1⟩

/-- The same with the read in service. -/
def reading : State := copying.setArbiter (.bank .d0) ⟨some readBeat, [], [], .c0⟩

/-- The COPY has ended OK and waits for the hand-off. -/
def ended : State :=
  let s := copying.setArbiter (.bank .d0) ⟨none, [], [], .c0⟩
  s.setChannel .c0 (.ending { copyCtx with elementsDone := 4, ending := some ⟨.ok, .none⟩ })

def entry0 : Completion := ⟨0x77, .ok, .sq0, 0, 4, 0, .none, .ascending, 0, .cq0, some 0⟩

/-- Its completion write is in service. -/
def writing : State :=
  let s := (run.setRing .sq0 { ring0 with inFlight := 1 }).setCq .cq0 { cq0 with reservations := 1 }
  { s.setPostQueue [entry0] with mport := { s.mport with inService := some ⟨.completionWrite, .live⟩ } }

def request0 : FetchRequest := ⟨0, 0, 0x1000⟩

/-- A fetch of SQ0's first record is in service. -/
def fetching : State :=
  let s := run.setRing .sq0 { ring0 with tail := 1, phase := .active }
  { s with mport := { s.mport with inService := some ⟨.fetch .sq0 request0, .live⟩ } }

def loading : State :=
  let s := State.reset.setPart .loading
  { s with mport := { s.mport with inService := some ⟨.setupLoad 0x100, .live⟩ } }

def flushing : State :=
  run.setRing .sq0 { ring0 with queue := [⟨copyRecord, 0, 0⟩], fetch := 1, tail := 1, phase := .flushing, flushTarget := 1 }

def xBeat (write : Bool) : Beat := ⟨.c0, write, .a, 0, .device .x0, 0, .w16, 0x1234, false⟩

def atDevice (write : Bool) : State :=
  let s := copying.setArbiter .xPort ⟨some (xBeat write), [], [], .c0⟩
  { s with ports := { s.ports with measuring := true } }

/-- Its write has failed at w0, and the fault is not yet taken. -/
def failed : State :=
  { writing with mport := { writing.mport with inService := none, errors := [⟨.postWrite, 0x3000⟩] } }

/-- Behind the failed entry stands another one of the ring. -/
def failedThenNext : State :=
  (failed.setPostQueue [entry0, { entry0 with tag := 0x66 }]).setRing .sq0 { failed.ring .sq0 with inFlight := 2 }

/-- The entry behind the failed one is being written: R172, its grant came before the taking of the fault. -/
def writingNext : State := { failedThenNext with mport := { failedThenNext.mport with inService := some ⟨.completionWrite, .live⟩ } }

/-! ## One step each, with values from the spec -/

theorem test_power_on_reset : next? .powerOnReset State.reset = some { State.reset with freeIndex := 1 } := by decide
theorem test_enable_loads : field? (fun t => (t.control.part, t.mport.setupWaiting)) (.enable noMask) State.reset =
    some (.loading, some 0) := by decide
theorem test_quiesce : field? (fun t => t.control.part) (.quiesce noMask) copying = some .quiescing := by decide
theorem test_abort : field? (fun t => t.control.part) (.abort noMask) copying = some .aborting := by decide
theorem test_resume : field? (fun t => t.control.part) (.resume noMask) (run.setPart .quiesced) = some .running := by decide
theorem test_soft_reset : field? (fun t => (t.control.part, t.map.generation)) (.softReset noMask)
    (run.setMap { run.map with generation := 7 }) = some (.off, 7) := by decide
theorem test_mask_write : field? interruptLine (.controlMaskWrite ⟨false, false, true⟩) run.setEvent = some true := by decide
theorem test_control_unknown : field? (fun t => readRegister t .status) (.controlUnknownCommand 7 noMask) State.reset =
    some 0x800 := by decide
theorem test_select : field? (fun t => t.ringManager.selected) (.select .sq3) run = some .sq3 := by decide
theorem test_stop : field? (fun t => ((t.ring .sq0).phase, t.coalescer.intstat.event)) (.stop .sq0) run =
    some (.stopped, true) := by decide
theorem test_ring_resume : field? (fun t => (t.ring .sq0).phase) (.ringResume .sq0)
    (run.setRing .sq0 { ring0 with phase := .stopped }) = some .idle := by decide
theorem test_flush_of_nothing : field? (fun t => (t.ring .sq0).cause) (.flush .sq0)
    (run.setRing .sq0 { ring0 with phase := .faulted, cause := .retract }) = some .none := by decide
theorem test_ring_reset : field? (fun t => (t.ring .sq0).tail) (.ringReset .sq0)
    (run.setRing .sq0 { ring0 with phase := .stopped, tail := 9, fetch := 9 }) = some 0 := by decide
theorem test_ringctl_unknown : field? (fun t => readRegister t .status) (.ringctlUnknownCommand 5 .sq0) State.reset =
    some 0x200 := by decide
theorem test_post : field? (fun t => (t.ring .sq0).phase) (.post .sq0 4) run = some .active := by decide
theorem test_post_overrun : field? (fun t => (t.ring .sq0).cause) (.post .sq0 5) run = some .overrun := by decide
theorem test_ack_too_far : field? (fun t => t.writer.ackInvalid) (.ack .cq0 1) run = some true := by decide
theorem test_setup_write : field? (fun t => readRegister t .setup) (.setupWrite 0x12FF) State.reset = some 0x12F0 := by decide
theorem test_status_write : field? (fun t => t.ringManager.postRejected) (.statusWrite 0x100) run.rejectPost = some false := by
  decide
theorem test_intstat_write : field? (fun t => t.coalescer.intstat.event) (.intstatWrite 3) run.setEvent = some true := by decide
theorem test_fetch_request : field? (fun t => t.mport.fetchWaiting.sq0) (.fetchRequest .sq0)
    (run.setRing .sq0 { ring0 with tail := 0, fetch := 0xFFFF, phase := .active }) = some (some ⟨3, 0xFFFF, 0x1060⟩) := by decide
theorem test_port_grants_write_first : field? (fun t => t.mport.inService) .mPortGrant
    ({ run.setPostQueue [entry0] with mport := { run.mport with setupWaiting := some 0 } }) =
    some (some ⟨.completionWrite, .live⟩) := by decide
theorem test_fetch_complete : field? (fun t => (t.ring .sq0).queue) (.fetchComplete [⟨0x1000, 0x11⟩, ⟨0x1002, 0x34⟩, ⟨0x1003, 0x12⟩] true)
    fetching = some [⟨{ copyRecord with kind := 0x11, tag := 0x1234, count := 0, b := 0 }, 0, 0⟩] := by decide
theorem test_setup_bad_format : field? (fun t => (t.control.part, t.control.setupError)) (.setupLoadEnd [] true) loading =
    some (.off, .badFormat) := by decide
theorem test_setup_format_1 : field? (fun t => t.control.part) (.setupLoadEnd [⟨0x100, 1⟩] true) loading = some .running := by
  decide
theorem test_mailbox_fault : field? (fun t => readRegister t .status) .mailboxFault
    ({ run with mport := { run.mport with errors := [⟨.fetchRead, 0x1060⟩] } }) = some 0x10610006 := by decide
theorem test_examination_takes_copy : field? (fun t => (t.map.bound, (t.cq .cq0).reservations, (t.ring .sq0).phase)) .examination
    (withHead run copyRecord) = some (1, 1, .idle) := by decide
theorem test_examination_map_miss : field? (fun t => t.writer.postQueue.map fun e => (e.status, e.detail)) .examination
    (withHead run { copyRecord with b := 0x0200, a := 0x020000 }) = some [(.mapMiss, .address 0x020000)] := by decide
theorem test_beat_grant : field? (fun t => ((t.arbiter (.bank .d0)).inService, (t.arbiter (.bank .d0)).lastGranted))
    (.beatGrant (.bank .d0) [⟨0, 0xBEEF, true⟩]) copying = some (some readBeat, .c0) := by decide
theorem test_beat_end_parity : field? (fun t => t.channel .c0) (.beatEnd .d0)
    (reading.setBank .d0 [(0, ⟨0xBEEF, false⟩)]) =
    some (.ending { copyCtx with ending := some ⟨.dataError, .address 0⟩ }) := by decide
theorem test_beat_end_read : field? (fun t => (t.arbiter (.bank .d0)).waitC0) (.beatEnd .d0)
    (reading.setBank .d0 [(0, ⟨0xBEEF, true⟩)]) = some [⟨.c0, true, .b, 0, .bank .d0, 256, .w16, 0xBEEF, false⟩] := by decide
theorem test_ready_other_device : next? (.ready .x1 0) (atDevice false) = some (atDevice false) := by decide
theorem test_ready : field? (fun t => (t.arbiter (.bank .d0)).waitC0.map fun b => b.value) (.ready .x0 0xAB1234) (atDevice false) =
    some [0, 0x001234] := by decide
theorem test_ready_timeout : field? (fun t => t.channel .c0) .readyTimeout (atDevice false) =
    some (.ending { copyCtx with ending := some ⟨.deviceTimeout, .address 0⟩ }) := by decide
theorem test_hand_off : field? (fun t => (t.writer.postQueue, t.map.bound, t.channel .c0)) (.handOff .c0) ended =
    some ([entry0], 0, .idle) := by decide
theorem test_flush_disposal : field? (fun t => t.writer.postQueue.map fun e => e.status) (.flushDisposal .sq0) flushing =
    some [.flushed] := by decide
/-- The word w0 of the record: tag 77h, status OK, phase 1 at bit 22, ring 0. -/
theorem test_completion_write : field? (fun t => (mailboxWord t.mailbox 0x3000, (t.cq .cq0).tail)) (.completionWrite .done) writing =
    some (0x00400077, 1) := by decide
/-- R153: the entry is lost and its reservation is not given back. -/
theorem test_post_write_fault : field? (fun t => (t.control.part, t.writer.postQueue, (t.cq .cq0).reservations)) .mailboxFault
    failed = some (.halted, [], 1) := by decide
/-- R150, R172: before the fault is taken, the entry behind the failed one is granted. -/
theorem test_grant_after_a_failed_write :
    next? .mPortGrant failed = some failed ∧
    (next? .mPortGrant failedThenNext).map (·.mport.inService) = some (some ⟨.completionWrite, .live⟩) := by decide
/-- R34, R172: that write is in service when the part enters HALTED; it does not end before. -/
theorem test_no_end_before_the_fault :
    next? (.completionWrite .done) writingNext = some writingNext ∧
    next? (.completionWrite (.failedAt 0)) writingNext = some writingNext := by decide
theorem test_holdoff_expiry : field? (fun t => t.coalescer.intstat.cq0) (.holdoffExpiry .cq0)
    ({ run with coalescer := { run.coalescer with cqs := ⟨⟨1, true⟩, ⟨0, false⟩⟩ } }) = some true := by decide

/-! ## Conversions, from the worked sequences of chapter 7 -/

theorem test_pack_123456_789ABC : packPair 0x123456 0x789ABC = (0x1234, 0x5678, 0x9ABC) := by decide
theorem test_unpack_DEF0_1234_5678 : unpackTriple 0xDEF0 0x1234 0x5678 = (0xDEF012, 0x345678) := by decide

/-! ## The hypotheses of the statements are met

One theorem for each statement that has hypotheses; each part is a clause of it, at a boundary value where it has a range. -/

def withRing (g : Ring) : State := run.setRing .sq0 g

theorem hyp_StepRunsFrontCommand :
    ({ run with pending := [.examination] } : State).pending = .examination :: [] ∧ run.pending = [] := by decide

theorem hyp_OnlyAbsentWordsFault :
    exec (.beatGrant (.bank .d0) [⟨32768, 0, true⟩]) run = .fault .noSuchWord ∧
    exec (.beatEnd .p1) (run.setArbiter (.bank .p1) ⟨some { readBeat with offset := 16384 }, [], [], .c0⟩) = .fault .noSuchWord :=
  ⟨rfl, rfl⟩

theorem hyp_RegisterWritesDecode :
    (Instr.post .sq3 0xFFFF).wf = true ∧ encodeRegisterWrite (.post .sq3 0xFFFF) = some (.post, 0xFFFF0003) := by decide

theorem hyp_RecordWordsDecode :
    let w : Vector Word32 8 := #v[1, 2, 3, 4, 5, 6, 7, 8]
    let v : Vector Word32 8 := #v[1, 0x00FE0002, 0xFF000003, 4, 5, 6, 0xFFFC00E7, 0xFFFFFFFF]
    w[0] = v[0] ∧ w[1] &&& 0xFF01FFFF#32 = v[1] &&& 0xFF01FFFF#32 ∧ w[2] &&& 0xFFFFFF#32 = v[2] &&& 0xFFFFFF#32 ∧
      w[3] &&& 0xFFFFFF#32 = v[3] &&& 0xFFFFFF#32 ∧ w[4] &&& 0xFFFFFF#32 = v[4] &&& 0xFFFFFF#32 ∧
      w[5] &&& 0xFFFFFF#32 = v[5] &&& 0xFFFFFF#32 ∧ w[6] &&& 0x3FF1F#32 = v[6] &&& 0x3FF1F#32 := by decide

theorem hyp_ResetLeavesMemories :
    isReset .powerOnReset ∧ isReset (.softReset noMask) ∧ memoriesWf writing = true ∧
    writing.mport.inService = some ⟨.completionWrite, .live⟩ ∧ writing.writer.postQueue = [] ++ entry0 :: [] ∧
    failedWrites writing = 0 ∧ run.writer.postQueue.length ≤ failedWrites run :=
  ⟨.inl rfl, .inr ⟨_, rfl⟩, by decide, by decide, by decide, by decide, by decide⟩

theorem hyp_ControlCommandsTaken :
    let at_ := fun a : MailboxAddr => { State.reset with control := { State.reset.control with setupAddr := a } }
    ((at_ 0xFFD0).control.part = .off ∧ (at_ 0xFFD0).control.setupAddr.toNat ≤ 0xFFD0) ∧
    ((at_ 0xFFE0).control.part = .off ∧ 0xFFD0 < (at_ 0xFFE0).control.setupAddr.toNat) ∧
    (run.control.part = .running ∧ run.channel .c0 = .idle ∧ run.channel .c1 = .idle ∧ run.map.pendingSwitch = none) ∧
    (copying.control.part = .running ∧ copying.channel .c0 ≠ .idle) ∧
    ((copying.setPart .quiescing).control.part = .quiescing ∧ (run.setPart .quiescing).channel .c1 = .idle) := by decide

theorem hyp_ControlCommandsTaken_refused :
    (run.setPart .quiesced).control.part = .quiesced ∧ run.control.part ≠ .off ∧ halted.control.part ≠ .running ∧
    halted.control.part ≠ .quiescing ∧ run.control.part ≠ .quiesced := by decide

theorem hyp_PartStateTransitions :
    (∃ t, exec (.enable noMask) State.reset = .next t ∧ t.control.part ≠ State.reset.control.part) ∧
    (∃ t, exec (.handOff .c0) (ended.setPart .aborting) = .next t ∧ t.control.part = .quiesced) :=
  ⟨⟨_, rfl, by decide⟩, ⟨_, rfl, by decide⟩⟩

theorem hyp_RingSelectAndRefusals :
    halted.control.part = .halted ∧ (withRing { ring0 with phase := .stopping }).ring .sq0 = { ring0 with phase := .stopping } ∧
    (run.ring .sq0).phase ≠ .stopped ∧ (run.ring .sq0).phase ≠ .faulted ∧
    ((withRing { ring0 with phase := .faulted, inFlight := 1 }).ring .sq0).inFlight ≠ 0 := by decide

theorem hyp_StopResumeAndReset :
    let stopped := withRing { ring0 with phase := .stopped }
    let queued := withRing { ring0 with phase := .stopped, tail := 0, fetch := 0xFFFF }
    run.control.part ≠ .halted ∧
    ((copying.ring .sq0).phase = .idle ∧ (copying.ring .sq0).inFlight ≠ 0) ∧
    ((run.ring .sq0).phase = .idle ∧ (run.ring .sq0).inFlight = 0) ∧
    ((queued.ring .sq0).phase = .stopped ∧ (queued.ring .sq0).tail ≠ (queued.ring .sq0).fetch) ∧
    ((stopped.ring .sq0).phase = .stopped ∧ (stopped.ring .sq0).queue = [] ∧ (stopped.ring .sq0).tail = (stopped.ring .sq0).fetch) ∧
    ((stopped.ring .sq0).inFlight = 0 ∧ stopped.mport.inService = none) ∧
    fetching.mport.inService = some ⟨.fetch .sq0 request0, .live⟩ := by decide

theorem hyp_FlushBeginsOrEnds :
    let queued := withRing { ring0 with phase := .faulted, cause := .overrun, tail := 1 }
    let stopped := withRing { ring0 with phase := .stopped }
    queued.control.part ≠ .halted ∧ ((queued.ring .sq0).phase = .faulted ∧ (queued.ring .sq0).inFlight = 0) ∧
    (queued.ring .sq0).fetch ≠ (queued.ring .sq0).tail ∧ (stopped.ring .sq0).phase = .stopped ∧
    (stopped.ring .sq0).queue = [] ∧ (stopped.ring .sq0).fetch = (stopped.ring .sq0).tail := by decide

theorem hyp_PostAppliedDroppedOrFaults_applied :
    let g := run.ring .sq0
    halted.control.part = .halted ∧ (State.reset.ring .sq1).phase = .disabled ∧
    ((4 - g.fetch).toNat ≤ 2 ^ g.dir.depthCode.toNat ∧ (g.tail - g.fetch).toNat ≤ (4 - g.fetch).toNat ∧ g.phase = .idle ∧
      (4 : Count) ≠ g.fetch) ∧
    ((0 - g.fetch).toNat ≤ 2 ^ g.dir.depthCode.toNat ∧ (g.tail - g.fetch).toNat ≤ (0 - g.fetch).toNat ∧ (0 : Count) = g.fetch) := by
  decide

theorem hyp_PostAppliedDroppedOrFaults_faults :
    let active := withRing { ring0 with phase := .active, tail := 2 }
    let g := active.ring .sq0
    let reserved := withRing { ring0 with phase := .flushing, disposalReserved := true }
    active.control.part ≠ .off ∧ active.control.part ≠ .loading ∧ active.control.part ≠ .halted ∧ g.phase ≠ .disabled ∧
    2 ^ g.dir.depthCode.toNat < (5 - g.fetch).toNat ∧
    ((1 - g.fetch).toNat ≤ 2 ^ g.dir.depthCode.toNat ∧ (1 - g.fetch).toNat < (g.tail - g.fetch).toNat) ∧
    g.phase ≠ .faulted ∧ g.disposalReserved = false ∧
    ((withRing { ring0 with phase := .faulted }).ring .sq0).phase = .faulted ∧
    ((reserved.ring .sq0).phase ≠ .faulted ∧ (reserved.ring .sq0).disposalReserved = true) := by decide

theorem hyp_FlushDisposalDisposes :
    let q := flushing.cq .cq0
    let full := flushing.setCq .cq0 { q with reservations := 4 }
    flushing.control.part ≠ .halted ∧ (flushing.ring .sq0).phase = .flushing ∧
    (flushing.ring .sq0).queue = [⟨copyRecord, 0, 0⟩] ∧
    (q.reservations + (q.tail - q.head).toNat < 2 ^ q.depthCode.toNat ∧ flushing.writer.postQueue.length < 8) ∧
    ((full.ring .sq0).disposalReserved = false ∧
      ¬((full.cq .cq0).reservations + ((full.cq .cq0).tail - (full.cq .cq0).head).toNat < 2 ^ (full.cq .cq0).depthCode.toNat)) ∧
    8 ≤ (flushing.setPostQueue (List.replicate 8 entry0)).writer.postQueue.length := by decide

theorem hyp_AckFreesRoomOrIsDropped :
    let s := run.setCq .cq0 { cq0 with tail := 2 }
    let q := s.cq .cq0
    (s.control.part ≠ .off ∧ s.control.part ≠ .loading ∧ s.control.part ≠ .halted ∧ q.enabled = true ∧
      (2 - q.head).toNat ≤ (q.tail - q.head).toNat) ∧
    ¬((3 - q.head).toNat ≤ (q.tail - q.head).toNat) := by decide

theorem hyp_FetchRequestsAndPortGrants :
    let s := withRing { ring0 with tail := 1, phase := .active }
    let g := s.ring .sq0
    let waiting := { s with mport := { s.mport with fetchWaiting := s.mport.fetchWaiting.set .sq0 (some request0) } }
    (s.control.part ≠ .halted ∧ g.phase = .active ∧ g.tail ≠ g.fetch ∧ g.queue.length < 4 ∧ s.mport.fetchWaiting.get .sq0 = none ∧
      s.mport.inService = none) ∧
    (failedThenNext.mport.inService = none ∧ failedWrites failedThenNext < failedThenNext.writer.postQueue.length) ∧
    ¬failedWrites failed < failed.writer.postQueue.length ∧
    (ringsFrom (RingId.next waiting.mport.lastFetch) = [] ++ .sq0 :: [.sq1, .sq2, .sq3] ∧
      waiting.mport.fetchWaiting.get .sq0 = some request0 ∧ waiting.writer.postQueue = []) ∧
    (run.mport.fetchWaiting.get .sq3 = none ∧ run.mport.setupWaiting = none) ∧ fetching.mport.inService ≠ none := by decide

theorem hyp_FetchEndJoinsTheQueue :
    fetching.mport.errors = [] ∧
    fetching.mport.inService = some ⟨.fetch .sq0 request0, .live⟩ ∧
    field? (fun t => t.mport.inService) (.ringReset .sq0) (fetching.setRing .sq0 { ring0 with phase := .stopped }) =
      some (some ⟨.fetch .sq0 request0, .discarded⟩) ∧
    (mportAfterReset fetching).inService = some ⟨.fetch .sq0 request0, .abandoned⟩ ∧
    ((fetching.ring .sq0).phase ≠ .flushing ∧ flushing.control.part ≠ .halted ∧ (flushing.ring .sq0).phase = .flushing) := by decide

theorem hyp_SetupLoadEnds :
    let b := fun host => SetupBlock.ofWords (mailboxWords (mailboxHost loading.mailbox host) 0x100 12)
    loading.mport.errors = [] ∧ loading.mport.inService = some ⟨.setupLoad 0x100, .live⟩ ∧ loading.control.part = .loading ∧
    setupCheck (b []) loading.map.current ≠ .none ∧ setupCheck (b [⟨0x100, 1⟩]) loading.map.current = .none ∧
    (mportAfterReset loading).inService = some ⟨.setupLoad 0x100, .abandoned⟩ := by decide

theorem hyp_MailboxFaultHalts :
    let s := fun p => { run.setPart p with mport := { run.mport with errors := [⟨.fetchRead, 0x1000⟩] } }
    (s .running).mport.errors = ⟨.fetchRead, 0x1000⟩ :: [] ∧ (s .running).control.part ≠ .halted ∧
      (s .halted).control.part = .halted ∧ failed.mport.errors = ⟨.postWrite, 0x3000⟩ :: [] := by decide

theorem hyp_CompletionWriteCounts :
    writing.mport.inService = some ⟨.completionWrite, .live⟩ ∧ writing.writer.postQueue = entry0 :: [] ∧
      writing.mport.errors = [] ∧ writing.control.part ≠ .halted ∧ Memory.wf writing.mailbox = true := by decide

theorem hyp_CompletionWriteFailsOrIsFrozen :
    let frozen := writing.setPart .halted
    frozen.mport.inService = some ⟨.completionWrite, .live⟩ ∧ frozen.writer.postQueue = [] ++ entry0 :: [] ∧
    failedWrites frozen = 0 ∧ frozen.control.part = .halted ∧ Memory.wf frozen.mailbox = true ∧
    (writingNext.control.part ≠ .halted ∧ writingNext.mport.errors ≠ []) ∧ writing.mport.errors = [] := by decide

theorem hyp_CompletionRecordLayout :
    let e := { entry0 with elementsDone := 65536, conflictBeats := 65535, slot := 255 }
    e.elementsDone ≤ 65536 ∧ e.conflictBeats ≤ 65535 ∧ e.slot < 256 := by decide

theorem hyp_RegistersReadTheState :
    let g := { ring0 with queue := List.replicate 4 ⟨copyRecord, 0, 0⟩, inFlight := 11 }
    g.queue.length ≤ 4 ∧ g.inFlight ≤ 11 := by decide

theorem hyp_HoldoffExpirySignals :
    (({ run with coalescer := { run.coalescer with cqs := ⟨⟨1, true⟩, ⟨0, false⟩⟩ } } : State).coalescer.cqs.get .cq0).timer = true ∧
    (run.coalescer.cqs.get .cq0).timer = false := by decide

theorem hyp_HandOffReleases :
    let x : Context := { copyCtx with elementsDone := 4, ending := some ⟨.ok, .none⟩ }
    let last := ended.setMap
      { ended.map with generation := 1, bound := 0, retiring := some ⟨0, 1⟩, pendingSwitch := some ⟨.sq0, 1, 0x88⟩ }
    (ended.channel .c0 = .ending x ∧ x.ending = some ⟨.ok, .none⟩ ∧ ended.control.part ≠ .halted ∧
      x.generation = ended.map.generation ∧ ended.map.retiring.isSome = ended.map.pendingSwitch.isSome ∧
      ended.writer.postQueue.length + 1 ≤ 8) ∧
    (last.channel .c0 = .ending x ∧ last.map.retiring = some ⟨x.generation, 1⟩ ∧ x.generation ≠ last.map.generation ∧
      last.map.retiring.isSome = last.map.pendingSwitch.isSome ∧
      (last.setPostQueue (List.replicate 6 entry0)).writer.postQueue.length + 2 ≤ 8) := by decide

/-- The clauses that nothing ends, is taken or is disposed of. -/
theorem hyp_nothing_to_do :
    run.mport.errors = [] ∧ run.mport.inService = none ∧ run.channel .c0 = .idle ∧ (run.ring .sq0).queue = [] ∧
    (mportAfterReset writing).inService = some ⟨.completionWrite, .abandoned⟩ ∧
    8 ≤ (run.setPostQueue (List.replicate 8 entry0)).writer.postQueue.length ∧ run.control.part ≠ .loading := by decide

theorem hyp_RequestedAndReturnedBeats :
    let two : StepRun := ⟨.reads, [], 2, []⟩
    let more : StepRun := ⟨.reads, [{ readBeat with pos := 1 }], 1, []⟩
    ((copying.arbiter (arbiterOf readBeat.target)).inService = none ∧ (reading.arbiter (arbiterOf readBeat.target)).inService ≠ none) ∧
    (run.channel .c0 = .idle ∧ (ended.channel .c0).isIdle = false) ∧
    (more.later = [] ++ { readBeat with pos := 1 } :: [] ∧ (∀ m ∈ more.later, m.channel = .c0)) ∧
    (two.later = [] ∧ 1 < two.outstanding) ∧ (∃ x, copying.channel .c0 = .running x ∧ x.step = some ⟨.reads, [], 1, []⟩) := by
  refine ⟨?_, ?_, ?_, ?_, _, rfl, ?_⟩ <;> decide

theorem hyp_BeatGrantAlternates :
    let both := copying.setArbiter (.bank .d0) ⟨none, [readBeat], [{ readBeat with channel := .c1 }], .c0⟩
    (reading.arbiter (.bank .d0)).inService ≠ none ∧
    ((run.arbiter .xPort).inService = none ∧ (Instr.beatGrant .xPort []).wf = true ∧ (run.arbiter .xPort).waitC0 = [] ∧
      (run.arbiter .xPort).waitC1 = []) ∧
    ((copying.arbiter (.bank .d0)).inService = none ∧ (Instr.beatGrant (.bank .d0) [⟨32767, 0xFFFF, false⟩]).wf = true ∧
      (copying.arbiter (.bank .d0)).waitC0 ≠ [] ∧ (copying.arbiter (.bank .d0)).waitC1 = []) ∧
    ((both.arbiter (.bank .d0)).waitC1 ≠ [] ∧ (both.arbiter (.bank .d0)).lastGranted = .c0) := by decide

theorem hyp_BeatsEnd_bank :
    let good := reading.setBank .d0 [(0, ⟨0xBEEF, true⟩)]
    let bad := reading.setBank .d0 [(0, ⟨0xBEEF, false⟩)]
    (run.arbiter (.bank .d0)).inService = none ∧
    ((reading.arbiter (.bank .d0)).inService = some readBeat ∧ readBeat.offset < 32768 ∧ readBeat.isWrite = false) ∧
    (bankWord (good.banks.get .d0) 0 = some ⟨0xBEEF, true⟩ ∧ bankWord (bad.banks.get .d0) 0 = some ⟨0xBEEF, false⟩ ∧
      bankWord (reading.banks.get .d0) 0 = none) ∧
    ({ readBeat with isWrite := true, offset := 32767 } : Beat).offset < 32768 := by decide

theorem hyp_BeatsEnd_device :
    (run.arbiter .xPort).inService = none ∧ ((atDevice true).arbiter .xPort).inService = some (xBeat true) ∧
    ((atDevice false).arbiter .xPort).inService = some (xBeat false) ∧ (xBeat false).target ≠ .device .x1 ∧
    (xBeat false).target = .device .x0 ∧ (xBeat true).isWrite = true ∧ (xBeat false).isWrite = false ∧
    (xBeat false).width = .w16 ∧ ({ xBeat false with width := .w24 } : Beat).width = .w24 := by decide

def splitCtx : Context :=
  { copyCtx with
    kind := .split, extA := some ⟨0x010000, ⟨.bank .p0, 0, 3⟩, .w24⟩, extC := some ⟨0x80, ⟨.bank .d0, 128, 129⟩, .w16⟩
    nextStep := 1, elementsDone := 1, residue := some 0x5600 }

theorem hyp_StepBeginsWithItsReads :
    copyCtx.extB = some extB ∧ copyCtx.extA = some extA ∧ (splitCtx.extC = some ⟨0x80, ⟨.bank .d0, 128, 129⟩, .w16⟩ ∧
      splitCtx.kind = .split) ∧ copyCtx.kind = .copy := by decide

theorem hyp_StepBoundaryOrder :
    halted.control.part = .halted ∧ run.control.part ≠ .halted ∧
    ({ copyCtx with elementsDone := 3 } : Context).count ≤ 3 + 1 ∧ copyCtx.kind ≠ .split ∧
    (copyCtx.elementsDone + 1 < copyCtx.count ∧ copyCtx.pendingAbort = false) ∧
    ({ copyCtx with pendingAbort := true } : Context).pendingAbort = true ∧
    (let x := { splitCtx with nextStep := 0, elementsDone := 0, residue := none, pendingAbort := true }
     x.elementsDone + 1 < x.count ∧ x.pendingAbort = true ∧ x.kind = .split ∧ (x.elementsDone + 1) % 2 = 1 ∧
       x.extC = some ⟨0x80, ⟨.bank .d0, 128, 129⟩, .w16⟩) := by decide

theorem hyp_ValueTestsDecide :
    let x : Context := { copyCtx with step := some ⟨.reads, [], 1, []⟩ }
    (reading.channel readBeat.channel = .running x ∧ x.step = some ⟨.reads, [], 1, []⟩ ∧ x.kind = .copy ∧ x.extA = some extA ∧
      ([] : List BeatResult) ++ [⟨.a, 0, .value 0x123401⟩] = [⟨.a, x.nextStep, .value 0x123401⟩] ∧
      (0x123401#24).extractLsb' 0 8 ≠ 0) ∧
    (({ x with kind := .compare, step := some ⟨.reads, [], 1, [⟨.b, 0, .value 7⟩]⟩ } : Context).kind = .compare ∧
      ([⟨.b, 0, .value 7⟩] : List BeatResult) ++ [⟨.a, 0, .value 7⟩] = [⟨.b, 0, .value 7⟩, ⟨.a, 0, .value 7⟩]) := by decide

theorem hyp_FirstFailureDecides :
    let x : Context := { copyCtx with kind := .compare, step := some ⟨.reads, [], 1, [⟨.b, 0, .parityError⟩]⟩ }
    let s := reading.setChannel .c0 (.running x)
    let all : List BeatResult := [⟨.b, 0, .parityError⟩] ++ [⟨.a, 0, .timedOut⟩]
    s.channel readBeat.channel = .running x ∧ x.kind ≠ .split ∧
    (all.Pairwise fun g h => g.ext = h.ext → g.pos < h.pos) ∧ (⟨.a, 0, .timedOut⟩ : BeatResult) ∈ all ∧
    contextExtent x .a = some extA := by decide

theorem hyp_SplitEndsWhole :
    let early : Context := { splitCtx with step := some ⟨.earlyEnd, [], 1, []⟩ }
    let reads : List BeatResult := [⟨.a, 1, .value 0x123456⟩]
    let writes : Context := { splitCtx with step := some ⟨.writes, [], 1, reads ++ [⟨.b, 1, .stored⟩]⟩ }
    splitCtx.kind = .split ∧ splitCtx.extC = some ⟨0x80, ⟨.bank .d0, 128, 129⟩, .w16⟩ ∧ halted.control.part = .halted ∧
    (run.control.part ≠ .halted ∧ splitCtx.elementsDone % 2 = 1 ∧ splitCtx.residue = some 0x5600) ∧
    ({ splitCtx with elementsDone := 2, residue := none } : Context).residue = none ∧
    (run.setChannel .c0 (.running early)).channel .c0 = .running early ∧
    ((run.setChannel .c0 (.running writes)).channel .c0 = .running writes ∧ writes.extB = some extB ∧
      (reads ++ [⟨.b, 1, .stored⟩]) ++ [⟨.c, 0, .timedOut⟩] = reads ++ [⟨.b, 1, .stored⟩, ⟨.c, 1 / 2, .timedOut⟩]) := by decide

theorem hyp_StepsWriteTheConversion :
    copyCtx.extA = some extA ∧ copyCtx.extB = some extB ∧ (copyCtx.strict = true → lowByte 0x123400 = 0) ∧
    extA.width = extB.width ∧ splitCtx.residue = some 0x5600 ∧ splitCtx.nextStep % 2 = 1 ∧
    ({ splitCtx with nextStep := 2, count := 3 } : Context).nextStep + 1 = 3 ∧
    (∀ r ∈ ([⟨.a, 0, .value 1⟩, ⟨.b, 0, .stored⟩] : List BeatResult), r.outcome ≠ .parityError ∧ r.outcome ≠ .timedOut) := by decide

theorem hyp_ExaminationTakesNothing :
    halted.control.part = .halted ∧ run.control.part ≠ .halted ∧ run.control.part ≠ .off ∧ run.control.part ≠ .loading ∧
    (verdict run .sq0).isEligible = false ∧ (verdict run .sq1).isEligible = false ∧ (verdict run .sq2).isEligible = false ∧
    (verdict run .sq3).isEligible = false ∧ verdict run .sq0 = .noHead ∧
    verdict ((withHead run copyRecord).setPart .quiescing) .sq0 = .wait .part := by decide

theorem hyp_EligibilityOrder :
    (run.ring .sq0).queue = [] ∧ ((withHead run copyRecord).ring .sq0).phase = .active ∧
    ((withHead run copyRecord).ring .sq0).queue = ⟨copyRecord, 0, 0⟩ :: [] := by decide

theorem hyp_CompletedAtTaking :
    let s := fun r => withHead run r
    (chosenRing (s { copyRecord with kind := 9 }) = some .sq0 ∧
      verdict (s { copyRecord with kind := 9 }) .sq0 = .eligible ⟨{ copyRecord with kind := 9 }, 0, 0⟩ (.refuse .badKind .none)) ∧
    (chosenRing (s { copyRecord with count := 0 }) = some .sq0 ∧
      verdict (s { copyRecord with count := 0 }) .sq0 = .eligible ⟨{ copyRecord with count := 0 }, 0, 0⟩ .complete) := by decide

theorem hyp_MapCommandsTaken :
    let sw := { copyRecord with kind := 0x22 }
    let rv := { copyRecord with kind := 0x21 }
    let st := { copyRecord with kind := 0x20, index := 15, a := 0, b := 0 }
    (chosenRing (withHead run sw) = some .sq0 ∧ verdict (withHead run sw) .sq0 = .eligible ⟨sw, 0, 0⟩ .mapswitch ∧
      (withHead run sw).map.bound = 0 ∧ 0 < (withHead copying sw).map.bound) ∧
    verdict (withHead run rv) .sq0 = .eligible ⟨rv, 0, 0⟩ .maprevert ∧
    verdict (withHead run st) .sq0 = .eligible ⟨st, 0, 0⟩ (.mapset 15 WindowEntry.cleared) := by decide

theorem hyp_TransferTaken :
    chosenRing (withHead run copyRecord) = some .sq0 ∧
    verdict (withHead run copyRecord) .sq0 =
      .eligible ⟨copyRecord, 0, 0⟩ (.transfer .copy (some extA) (some extB) none .ascending) ∧
    (withHead run copyRecord).channel .c0 = .idle ∧ (withHead copying copyRecord).channel .c0 ≠ .idle := by decide

theorem hyp_RecordLevelChecks :
    let flagged := { copyRecord with flags := 4 }
    (¬(1 ≤ (0 : BitVec 8).toNat)) ∧ (1 ≤ flagged.kind.toNat ∧ flagged.flags &&& 0xFC#8 ≠ 0) ∧
    (copyRecord.flags = 0 ∧ 65536 < ({ copyRecord with count := 65537 } : Record).count.toNat) ∧
    ({ copyRecord with count := 0 } : Record).count = 0 := by decide

theorem hyp_ValidCounts :
    let pack := { copyRecord with kind := 4, count := 43692 }
    Kind.ofCode pack.kind = some .pack ∧ Kind.pack.isTransfer = true ∧ pack.flags &&& 0xFC#8 = 0 ∧
    (∀ i : Fin 16, (entryAt run.map.current (BitVec.ofNat 4 i.val)).sizeCode.toNat ≤ 8) ∧ pack.count.toNat % 2 = 0 ∧
    43692 ≤ pack.count.toNat ∧ pack.count.toNat ≤ 65536 ∧ Kind.mark.isTransfer = false := by decide

theorem hyp_ExtentResolution :
    (∀ i j : Fin 16, i ≠ j →
      windowsOverlap (entryAt run.map.current (BitVec.ofNat 4 i.val)) (entryAt run.map.current (BitVec.ofNat 4 j.val)) = false) ∧
    (resolve run.map.current run.ports.profiles 0x200 1 = .miss ∧ resolve run.map.current run.ports.profiles 0x1FF 2 = .split ∧
      resolve run.map.current run.ports.profiles 0x1FF 1 = .found ⟨0x1FF, ⟨.bank .d0, 511, 511⟩, .w16⟩ false) := by decide

theorem hyp_TransferChecks :
    Kind.ofCode copyRecord.kind = some .copy ∧ Kind.copy.isTransfer = true ∧ copyRecord.flags &&& 0xFC#8 = 0 ∧
    0 < copyRecord.count.toNat ∧ copyRecord.count.toNat ≤ 65536 ∧
    resolve run.map.current run.ports.profiles copyRecord.a 4 = .found extA false ∧
    resolve run.map.current run.ports.profiles copyRecord.b 4 = .found extB false ∧
    resolve run.map.current run.ports.profiles 0x020000 4 = .miss ∧ resolve run.map.current run.ports.profiles 0x1FE 4 = .split := by
  decide

theorem hyp_MapsetChecks :
    let r := { copyRecord with kind := 0x20, enabled := true, targetCode := 5, sizeCode := 1, a := 0x020000, b := 0 }
    r.kind = 0x20 ∧ r.flags = 0 ∧ (r.sizeCode.toNat ≤ 8 ∧ r.targetCode.toNat ≤ 8 ∧ r.a.toNat % 512 = 0 ∧ r.b.toNat + 512 ≤ 16384) ∧
    ¬(({ r with targetCode := 9 } : Record).targetCode.toNat ≤ 8) := by decide

theorem hyp_GenerationAndTablesChange : ∃ t, exec .examination (withHead run { copyRecord with kind := 0x22 }) = .next t ∧
    t.map.generation = 1 := ⟨_, rfl, by decide⟩

theorem hyp_EventEntries : ∃ t, exec (.stop .sq0) run = .next t ∧ (t.ring .sq0).phase = .stopped ∧ (run.ring .sq0).phase ≠ .stopped :=
  ⟨_, rfl, by decide⟩

theorem hyp_HaltedFreezes : ∃ t, exec (.beatEnd .d0) ((reading.setPart .halted).setBank .d0 [(0, ⟨0xBEEF, true⟩)]) = .next t ∧
    reading.coalescer.cqs.cq0.timer = false ∧ reading.coalescer.cqs.cq1.timer = false ∧ t.channel .c0 ≠ reading.channel .c0 :=
  ⟨_, rfl, by decide⟩

/-- The running COPY, about to have its first read granted: a state of every law, from which a step answers a next state. -/
def stepping : State := { copying.listTransfer .sq0 [extA.phys] [extB.phys] with pending := [.beatGrant (.bank .d0) []] }

theorem hyp_step_answers : ∃ t, step stepping = .next t := ⟨_, rfl⟩

theorem hyp_MemoriesStayCanonical : memoriesWf stepping = true := by decide

theorem hyp_MapLawsKept : mapDisjoint stepping ∧ locksHold stepping ∧ (Instr.examination ≠ .powerOnReset) ∧
    (entryAt (setEntry WindowTable.cleared 15 { WindowEntry.cleared with lock := true }) 15).lock = true := by
  refine ⟨⟨?_, ?_⟩, ?_, by decide, by decide⟩
  · unfold tableDisjoint; decide
  · unfold tableDisjoint; decide
  · unfold locksHold; decide

theorem hyp_BindingAndDrainKept : bindingLaw stepping ∧ drainLaw stepping := by
  refine ⟨⟨by decide, ?_, ?_, by decide, ?_⟩, by decide, by decide⟩
  · intro x hx; cases hx; left; decide
  · intro x hx; cases hx
  · intro rt h; cases h

theorem hyp_RingLawsKept : ringsLaw stepping ∧ ringReportsLaw stepping := by
  refine ⟨⟨fun r => ?_, fun h => ?_⟩, fun r => by cases r <;> decide⟩
  · refine ⟨by cases r <;> decide, ?_, by cases r <;> decide, by cases r <;> decide, by cases r <;> decide, ?_,
      by cases r <;> decide⟩
    · intro i p h; cases r <;> cases h
    · intro q h; cases r <;> rcases h with h | h <;> cases h
  · exact absurd h (by decide)

theorem hyp_TablesAndBeatsStayInside : tablesValid stepping ∧ beatsInside stepping ∧ (Instr.beatEnd .d0).wf = true := by
  refine ⟨⟨?_, by decide, ?_⟩, ⟨?_, ?_⟩, by decide⟩
  · have h : ∀ i : Fin 16, entryPlaced (entryAt stepping.map.current (BitVec.ofFin i)) ∧
        entryPlaced (entryAt stepping.map.staged (BitVec.ofFin i)) := by
      intro i
      have hb : ∀ e : WindowEntry, (e.enabled = true → e.logicalBase.toNat % windowSize e = 0 ∧ e.targetBase.toNat % 256 = 0 ∧
          e.targetBase.toNat + windowSize e ≤ 16384) → e.sizeCode.toNat ≤ 8 → entryPlaced e := fun e h hs =>
        ⟨hs, fun he => ⟨(h he).1, (h he).2.1, fun b _ => by
          refine Nat.le_trans (h he).2.2 ?_; cases b <;> decide⟩⟩
      exact ⟨hb _ (by revert i; decide) (by revert i; decide), hb _ (by revert i; decide) (by revert i; decide)⟩
    exact fun i => h i.toFin
  · intro _ _ _ i; revert i; decide
  · intro c x hx; cases c <;> cases hx
    refine ⟨?_, ?_⟩
    · intro n e len b he hl hb
      cases n <;> cases he <;> cases hl <;> cases hb <;> decide
    · intro run hr; cases hr
      exact ⟨fun m hm => (by cases hm), fun _ => ⟨by decide, by decide, rfl⟩⟩
  · intro k b hb
    cases k <;> simp [stepping, copying, run, State.reset, Ports.reset, PerArbiter.all, PerBank.all, Arbiter.reset, State.arbiter,
      State.setArbiter, State.setChannel, State.setCq, State.setRing, State.setPart, State.listTransfer, PerArbiter.get,
      PerArbiter.set, PerBank.get, PerBank.set] at hb
    subst hb; decide

theorem hyp_InFlightLawKept : bindingLaw stepping ∧ postQueueLaw stepping ∧ inFlightLaw stepping := by
  refine ⟨hyp_BindingAndDrainKept.1, by unfold postQueueLaw; decide, fun h => ?_, by decide, fun r => by cases r <;> decide⟩
  exact absurd h (by decide)

theorem hyp_ReservationLawKept : bindingLaw stepping ∧ reservationLaw stepping := by
  refine ⟨hyp_BindingAndDrainKept.1, fun h => ?_, by decide, fun c => by cases c <;> decide⟩
  exact absurd h (by decide)

theorem hyp_CompletionLawsKept : postQueueLaw stepping ∧ phaseLaw stepping ∧ coalescingLaw stepping ∧ faultsLaw stepping :=
  ⟨by unfold postQueueLaw; decide, fun c => by cases c <;> decide, fun c => by cases c <;> decide, by unfold faultsLaw; decide⟩

/-- Two transfers of SQ0 in flight: the COPY on C0, and on C1 one that reads what it reads and writes beside what it writes. -/
def twoRunning : State :=
  let e : PhysExtent := ⟨.bank .d0, 260, 263⟩
  (copying.listTransfer .sq0 [extA.phys] [extB.phys]).listTransfer .sq0 [extA.phys] [e]
    |>.setChannel .c1 (.running { copyCtx with key := 1, extB := some ⟨0x104, e, .w16⟩ })

theorem hyp_IssueLawsKept :
    (hazardLaw stepping ∧ postQueueLaw stepping ∧ transfersListed stepping ∧ wakeLaw stepping) ∧
    hazardLaw twoRunning ∧ transfersListed twoRunning ∧
    ∃ x y, (twoRunning.channel .c0).context = some x ∧ (twoRunning.channel .c1).context = some y ∧ x.ring = y.ring := by
  have h : hazardLaw stepping ∧ hazardLaw twoRunning := ⟨fun r => by cases r <;> decide, fun r => by cases r <;> decide⟩
  have hw : wakeLaw stepping := fun _ _ r => by cases r <;> decide
  refine ⟨⟨h.1, by unfold postQueueLaw; decide, fun r => ?_, hw⟩, h.2, fun r => ?_, _, _, rfl, rfl, rfl⟩
  · refine ⟨?_, ?_, ?_, ?_, fun _ => ?_, ?_, fun c x hx hr => ?_⟩
    iterate 6 cases r <;> decide
    cases c <;> cases hx
    cases hr
    exact ⟨_, .head _, rfl, rfl, rfl⟩
  · refine ⟨?_, ?_, ?_, ?_, fun _ => ?_, ?_, fun c x hx hr => ?_⟩
    iterate 6 cases r <;> decide
    cases c <;> cases hx <;> cases hr
    · exact ⟨_, .head _, rfl, rfl, rfl⟩
    · exact ⟨_, .tail _ (.head _), rfl, rfl, rfl⟩

end Sys2Proof.Tests
end

/-! Windows, tables and resolution (chapter 1): where the words of a resolved extent lie. -/

namespace Sys2Proof.Machine

/-! ## Windows (R6 to R9) -/

theorem windowSize_pos (e : WindowEntry) : 0 < windowSize e := by simp [windowSize]

theorem windowContains_iff (e : WindowEntry) (a : Nat) :
    windowContains e a = true ↔
      e.enabled = true ∧ e.logicalBase.toNat ≤ a ∧ a < e.logicalBase.toNat + windowSize e := by
  simp [windowContains, and_assoc]

theorem windowsOverlap_comm (e f : WindowEntry) : windowsOverlap e f = windowsOverlap f e := by
  rw [Bool.eq_iff_iff]
  simp only [windowsOverlap, Bool.and_eq_true, decide_eq_true_eq]
  tauto

/-- R9: an address that two entries contain is in their overlap. -/
theorem windowsOverlap_of_contains {e f : WindowEntry} {a : Nat} (he : windowContains e a = true)
    (hf : windowContains f a = true) : windowsOverlap e f = true := by
  obtain ⟨hee, hel, heu⟩ := (windowContains_iff e a).1 he
  obtain ⟨hfe, hfl, hfu⟩ := (windowContains_iff f a).1 hf
  simp only [windowsOverlap, hee, hfe, Bool.true_and, Bool.and_eq_true, decide_eq_true_eq]
  omega

/-- R7, taken apart: a valid entry has a valid size code, and, when enabled, aligned bases and its words below the capacity of a target
that is present. -/
theorem windowValid_iff (profiles : PerDevice (Option Profile)) (e : WindowEntry) :
    windowValid profiles e = true ↔ e.sizeCode.toNat ≤ 8 ∧ (e.enabled = true →
      e.logicalBase.toNat % windowSize e = 0 ∧ e.targetBase.toNat % 256 = 0 ∧
        ∃ cap, targetCapacity profiles e.target = some cap ∧ e.targetBase.toNat + windowSize e ≤ cap) := by
  unfold windowValid windowFits
  cases e.enabled <;> cases targetCapacity profiles e.target <;> simp [and_assoc]

/-- R7 condition 6: the words of an enabled valid entry's window lie below the capacity of its target. -/
theorem targetWord_lt_of_contains {profiles : PerDevice (Option Profile)} {e : WindowEntry} {a cap : Nat}
    (hv : windowValid profiles e = true) (ha : windowContains e a = true) (hcap : targetCapacity profiles e.target = some cap) :
    e.targetBase.toNat + (a - e.logicalBase.toNat) < cap := by
  obtain ⟨hen, hlow, hhigh⟩ := (windowContains_iff e a).1 ha
  obtain ⟨cap', hcap', hle⟩ := (((windowValid_iff profiles e).1 hv).2 hen).2.2
  cases hcap.symm.trans hcap'
  omega

/-! ## Entries of a table (R5) -/

theorem entryAt_mem (t : WindowTable) (i : BitVec 4) : entryAt t i ∈ t.toList := by
  simp [entryAt]

theorem mem_toList_iff_entryAt (t : WindowTable) (e : WindowEntry) : e ∈ t.toList ↔ ∃ i, entryAt t i = e := by
  constructor
  · intro he
    obtain ⟨n, hn, rfl⟩ := List.getElem_of_mem he
    have hn' : n < 16 := by simpa using hn
    exact ⟨BitVec.ofNat 4 n, by simp [entryAt, Nat.mod_eq_of_lt hn']⟩
  · rintro ⟨i, rfl⟩
    exact entryAt_mem t i

theorem entryAt_setEntry (t : WindowTable) (i j : BitVec 4) (e : WindowEntry) :
    entryAt (setEntry t i e) j = if j = i then e else entryAt t j := by
  by_cases h : j = i
  · subst h; simp [entryAt, setEntry]
  · have hne : i.toNat ≠ j.toNat := fun hn => h (BitVec.eq_of_toNat_eq hn.symm)
    simp [entryAt, setEntry, h, hne]

@[simp] theorem entryAt_setEntry_same (t : WindowTable) (i : BitVec 4) (e : WindowEntry) : entryAt (setEntry t i e) i = e := by
  simp [entryAt_setEntry]

@[simp] theorem entryAt_setEntry_other (t : WindowTable) {i j : BitVec 4} (e : WindowEntry) (h : j ≠ i) :
    entryAt (setEntry t i e) j = entryAt t j := by
  simp [entryAt_setEntry, h]

@[simp] theorem entryAt_cleared (i : BitVec 4) : entryAt WindowTable.cleared i = WindowEntry.cleared := by
  simp [entryAt, WindowTable.cleared]

theorem mem_windowIndices (i : BitVec 4) : i ∈ windowIndices :=
  List.mem_map.2 ⟨i.toNat, List.mem_range.2 i.isLt, by simp⟩

/-- R28 check 4: an entry that passes it overlaps no entry of the table at another index. -/
theorem overlapsOther_eq_false_iff (t : WindowTable) (i : BitVec 4) (e : WindowEntry) :
    overlapsOther t i e = false ↔ ∀ j, j ≠ i → windowsOverlap e (entryAt t j) = false := by
  simp [overlapsOther, mem_windowIndices]

/-! ## Resolution (R10, R11) -/

/-- The window found is an entry of the table that contains the address. -/
theorem windowAt_eq_some {t : WindowTable} {a : Nat} {e : WindowEntry} (h : windowAt t a = some e) :
    ∃ i, entryAt t i = e ∧ windowContains e a = true :=
  have ⟨i, hi⟩ := (mem_toList_iff_entryAt t e).1 (List.mem_of_find?_eq_some h)
  ⟨i, hi, List.find?_some (p := (windowContains · a)) h⟩

theorem windowAt_eq_none {t : WindowTable} {a : Nat} (h : ∀ i, windowContains (entryAt t i) a = false) :
    windowAt t a = none := by
  refine List.find?_eq_none.2 fun e he => ?_
  obtain ⟨i, rfl⟩ := (mem_toList_iff_entryAt t e).1 he
  simp [h i]

/-- R5, R9: in a table whose entries are apart, the window found at an address is the entry that contains it. -/
theorem windowAt_eq_entryAt {t : WindowTable} {a : Nat} {i : BitVec 4} (ht : tableDisjoint t)
    (hi : windowContains (entryAt t i) a = true) : windowAt t a = some (entryAt t i) := by
  cases hw : windowAt t a with
  | none => exact absurd hi (List.find?_eq_none.1 hw _ (entryAt_mem t i))
  | some e =>
    obtain ⟨j, rfl, hj⟩ := windowAt_eq_some hw
    have hij : j = i := by
      by_contra hne
      simpa [windowsOverlap_of_contains hj hi] using ht j i hne
    rw [hij]

/-- R11: what a found extent is: its first and last words are contained in one entry of the table, whose target and WP it has. -/
theorem resolve_eq_found {t : WindowTable} {profiles : PerDevice (Option Profile)} {start : LogicalAddr} {n : Nat} {x : Extent}
    {wp : Bool} (h : resolve t profiles start n = .found x wp) :
    ∃ i, windowContains (entryAt t i) start.toNat = true ∧ windowContains (entryAt t i) (start.toNat + n - 1) = true ∧
      x.phys.target = (entryAt t i).target ∧
      x.phys.first = (entryAt t i).targetBase.toNat + (start.toNat - (entryAt t i).logicalBase.toNat) := by
  unfold resolve at h
  split at h
  · cases h
  · next e he =>
    obtain ⟨i, rfl, hfirst⟩ := windowAt_eq_some he
    split at h
    · next hlast =>
      split at h
      · cases h
      · cases h
        exact ⟨i, hfirst, hlast, rfl, rfl⟩
    · cases h

/-- R7, R11: through a table of valid entries an extent of at least one word lies below the capacity of the bank it is on. -/
theorem resolve_found_inside {t : WindowTable} {profiles : PerDevice (Option Profile)} {start : LogicalAddr} {n : Nat} {x : Extent}
    {wp : Bool} {b : BankId} (hv : ∀ i, windowValid profiles (entryAt t i) = true) (hn : 0 < n)
    (h : resolve t profiles start n = .found x wp) (hb : x.phys.target = .bank b) :
    x.phys.first + n ≤ Config.bankCapacity b := by
  obtain ⟨i, hfirst, hlast, htarget, hx⟩ := resolve_eq_found h
  have hcap : targetCapacity profiles (entryAt t i).target = some (Config.bankCapacity b) := by rw [← htarget, hb]; rfl
  have hlt := targetWord_lt_of_contains (hv i) hlast hcap
  have hlow := ((windowContains_iff _ _).1 hfirst).2.1
  omega

/-- Settles O45: the window at an address of a table whose entries are apart is the entry that contains it, and a valid entry's
words lie below the capacity. -/
theorem extentResolution : Obligations.ExtentResolution := by
  intro t profiles start n hn ht contains width
  have contains_iff : ∀ i a, contains i a ↔ windowContains (entryAt t i) a = true := by
    intro i a
    have hpos := windowSize_pos (entryAt t i)
    rw [windowContains_iff]
    simp only [contains, windowSize] at hpos ⊢
    refine and_congr_right fun _ => and_congr_right fun _ => ?_
    omega
  have width_eq : ∀ target, width target = targetWidth profiles target := by
    rintro (b | d)
    · cases b <;> rfl
    · rfl
  simp only [contains_iff, width_eq]
  refine ⟨fun hmiss => ?_, fun i hfirst hlast => ?_, fun i w hfirst hlast hw => ⟨?_, fun hv cap hcap => ?_⟩⟩
  · simp [resolve, windowAt_eq_none fun i => Bool.eq_false_iff.2 (hmiss i)]
  · simp [resolve, windowAt_eq_entryAt ht hfirst, hlast]
  · simp [resolve, windowAt_eq_entryAt ht hfirst, hlast, hw]
  · have hlt := targetWord_lt_of_contains hv hlast hcap
    have hlow := ((windowContains_iff _ _).1 hfirst).2.1
    omega

end Sys2Proof.Machine

/-! What the commands leave of the blocks that a transfer runs in: the Map Unit, the channels and the ports. -/

namespace Sys2Proof.Machine

/-! ## The device profiles under the operations of the channels and ports (R140) -/

@[simp] theorem State.requestBeat_profiles (s : State) (b : Beat) : (s.requestBeat b).ports.profiles = s.ports.profiles := by
  unfold State.requestBeat
  dsimp only
  split <;> simp

@[simp] theorem State.requestBeats_profiles (s : State) (bs : List Beat) : (s.requestBeats bs).ports.profiles = s.ports.profiles := by
  unfold State.requestBeats
  induction bs generalizing s with
  | nil => rfl
  | cons b rest ih => simp [ih]

@[simp] theorem State.beginPhase_profiles (s : State) (c : ChannelId) (x : Context) (p : StepPhase) (rs : List BeatResult)
    (bs : List Beat) : (s.beginPhase c x p rs bs).ports.profiles = s.ports.profiles := by
  simp [State.beginPhase]

@[simp] theorem State.beginStep_profiles (s : State) (c : ChannelId) (x : Context) :
    (s.beginStep c x).ports.profiles = s.ports.profiles := by
  unfold State.beginStep
  split <;> simp

@[simp] theorem State.endTransfer_profiles (s : State) (c : ChannelId) (x : Context) (st : Status) (d : Detail) :
    (s.endTransfer c x st d).ports.profiles = s.ports.profiles := by
  unfold State.endTransfer
  dsimp only
  split
  · simp
  · split <;> simp

@[simp] theorem State.stepBoundary_profiles (s : State) (c : ChannelId) (x : Context) :
    (s.stepBoundary c x).ports.profiles = s.ports.profiles := by
  unfold State.stepBoundary
  split
  · simp
  · split
    · simp
    · split <;> simp

@[simp] theorem State.finishStep_profiles (s : State) (c : ChannelId) (x : Context) (w : Option W16) :
    (s.finishStep c x w).ports.profiles = s.ports.profiles := by
  simp [State.finishStep]

@[simp] theorem State.failStep_profiles (s : State) (c : ChannelId) (x : Context) (f : BeatResult) :
    (s.failStep c x f).ports.profiles = s.ports.profiles := by
  simp [State.failStep]

@[simp] theorem State.readsEnded_profiles (s : State) (c : ChannelId) (x : Context) (rs : List BeatResult) :
    (s.readsEnded c x rs).ports.profiles = s.ports.profiles := by
  unfold State.readsEnded
  dsimp only
  split
  · simp
  · split
    · split <;> simp
    · split <;> simp
    all_goals simp

@[simp] theorem State.writesEnded_profiles (s : State) (c : ChannelId) (x : Context) (rs : List BeatResult) :
    (s.writesEnded c x rs).ports.profiles = s.ports.profiles := by
  unfold State.writesEnded
  split <;> simp

@[simp] theorem State.phaseEnded_profiles (s : State) (c : ChannelId) (x : Context) (run : StepRun) :
    (s.phaseEnded c x run).ports.profiles = s.ports.profiles := by
  unfold State.phaseEnded
  split <;> simp

@[simp] theorem State.beatReturns_profiles (s : State) (b : Beat) (o : BeatOutcome) :
    (s.beatReturns b o).ports.profiles = s.ports.profiles := by
  unfold State.beatReturns
  split
  · split
    · dsimp only
      split
      · simp
      · split <;> simp
    · rfl
  · rfl
  · rfl

@[simp] theorem State.grantBeat_profiles (s : State) (i : ArbiterId) : (s.grantBeat i).ports.profiles = s.ports.profiles := by
  unfold State.grantBeat
  dsimp only
  split
  · rfl
  · split <;> simp

@[simp] theorem State.freeArbiter_profiles (s : State) (i : ArbiterId) : (s.freeArbiter i).ports.profiles = s.ports.profiles := rfl

@[simp] theorem State.freeXPort_profiles (s : State) : s.freeXPort.ports.profiles = s.ports.profiles := rfl

@[simp] theorem State.carryOut_profiles (s : State) (r : RingId) (p : Prefetched) (q : Plan) :
    (s.carryOut r p q).ports.profiles = s.ports.profiles := by
  cases q with
  | transfer k a b c d => simp [State.carryOut, State.issueTransfer]
  | mapswitch =>
    simp only [State.carryOut]
    split <;> simp
  | refuse | complete | mapset | maprevert => simp [State.carryOut]

/-! ## The frames -/

/-- R163: the part states in which records are taken or drained. -/
def PartState.working (p : PartState) : Prop := p ≠ .off ∧ p ≠ .loading ∧ p ≠ .halted

/-- A change of part state after which the tables are held to no more than before (R5, R20): no change into OFF or LOADING from outside
them, and none into a state that takes or drains records from one that does not. -/
def stageKept (p q : PartState) : Prop := (q = .off ∨ q = .loading → p = .off ∨ p = .loading) ∧ (q.working → p.working)

@[simp] theorem stageKept_refl (p : PartState) : stageKept p p := ⟨id, id⟩

@[simp] theorem stageKept_halted (p : PartState) : stageKept p .halted := by simp [stageKept, PartState.working]

theorem stageKept_of_working {p q : PartState} (hp : p.working) (hq : q.working) : stageKept p q :=
  ⟨fun h => (h.elim hq.1 hq.2.1).elim, fun _ => hp⟩

/-- R169, R171: the drain leads from QUIESCING and ABORTING to QUIESCED alone. -/
theorem stageKept_drainPart {p : PartState} {s : State} (h : stageKept p s.control.part) :
    stageKept p s.drainPart.control.part := by
  rcases State.drainPart_cases s with ⟨he, -⟩ | ⟨hpart, -, -, he⟩
  · rwa [he]
  · have hs : s.control.part.working := by rcases hpart with hq | hq <;> simp [PartState.working, hq]
    rw [he]
    exact stageKept_of_working (h.2 hs) (by simp [PartState.working])

/-- The command leaves the queue, both tables and the profiles, and the tables are held to no more than before. -/
structure LeavesTables (s t : State) : Prop where
  pending : t.pending = s.pending
  current : t.map.current = s.map.current
  staged : t.map.staged = s.map.staged
  profiles : t.ports.profiles = s.ports.profiles
  stage : stageKept s.control.part t.control.part

/-- The command leaves the Map Unit, the channels and the ports too. -/
structure LeavesTransfers (s t : State) : Prop where
  pending : t.pending = s.pending
  map : t.map = s.map
  channels : t.channels = s.channels
  ports : t.ports = s.ports
  stage : stageKept s.control.part t.control.part

@[simp] theorem LeavesTransfers.refl (s : State) : LeavesTransfers s s := ⟨rfl, rfl, rfl, rfl, stageKept_refl _⟩

theorem LeavesTransfers.leavesTables {s t : State} (h : LeavesTransfers s t) : LeavesTables s t :=
  ⟨h.pending, by rw [h.map], by rw [h.map], by rw [h.ports], h.stage⟩

/-! ## The commands that leave the transfers -/

theorem execEnable_leaves (m : Sources) (s : State) : ∃ t, execEnable m s = .next t ∧ LeavesTransfers s t := by
  refine ⟨_, rfl, ?_⟩
  split
  · next hoff =>
    have hstage : stageKept s.control.part ((s.setMask m).beginLoad).control.part := by
      have hpart : s.control.part = .off := hoff
      rw [hpart]
      unfold State.beginLoad
      dsimp only
      split <;> simp [stageKept, PartState.working, State.failLoad]
    exact ⟨by simp, by simp, by simp, by simp, hstage⟩
  · exact ⟨rfl, rfl, rfl, rfl, stageKept_refl _⟩

theorem execQuiesce_leaves (m : Sources) (s : State) : ∃ t, execQuiesce m s = .next t ∧ LeavesTransfers s t := by
  refine ⟨_, rfl, ?_⟩
  split
  · next hrun =>
    have hwork : s.control.part.working := by simp_all [PartState.working]
    have hstage : stageKept s.control.part ((s.setMask m).setPart .quiescing).control.part :=
      stageKept_of_working hwork (by simp [PartState.working])
    exact ⟨by simp, by simp, by simp, by simp, stageKept_drainPart hstage⟩
  · exact ⟨rfl, rfl, rfl, rfl, stageKept_refl _⟩

theorem execResume_leaves (m : Sources) (s : State) : ∃ t, execResume m s = .next t ∧ LeavesTransfers s t := by
  refine ⟨_, rfl, ?_⟩
  split
  · next hq =>
    have hwork : s.control.part.working := by simp_all [PartState.working]
    exact ⟨rfl, rfl, rfl, rfl, stageKept_of_working hwork (by simp [PartState.working])⟩
  · exact ⟨rfl, rfl, rfl, rfl, stageKept_refl _⟩

theorem execStop_leaves (r : RingId) (s : State) : ∃ t, execStop r s = .next t ∧ LeavesTransfers s t := by
  refine ⟨_, rfl, ?_⟩
  split
  · split <;> constructor <;> simp
  · constructor <;> simp

theorem execRingResume_leaves (r : RingId) (s : State) : ∃ t, execRingResume r s = .next t ∧ LeavesTransfers s t := by
  refine ⟨_, rfl, ?_⟩
  split
  · split <;> constructor <;> simp
  · constructor <;> simp

theorem execFlush_leaves (r : RingId) (s : State) : ∃ t, execFlush r s = .next t ∧ LeavesTransfers s t := by
  refine ⟨_, rfl, ?_⟩
  split
  · dsimp only
    split <;> constructor <;> simp
  · constructor <;> simp

theorem execRingReset_leaves (r : RingId) (s : State) : ∃ t, execRingReset r s = .next t ∧ LeavesTransfers s t := by
  refine ⟨_, rfl, ?_⟩
  split <;> constructor <;> simp

theorem execPost_leaves (r : RingId) (n : Count) (s : State) : ∃ t, execPost r n s = .next t ∧ LeavesTransfers s t := by
  refine ⟨_, rfl, ?_⟩
  split
  · constructor <;> simp
  · split
    · constructor <;> simp
    · split <;> constructor <;> simp

theorem execAck_leaves (c : CqId) (n : Count) (s : State) : ∃ t, execAck c n s = .next t ∧ LeavesTransfers s t := by
  refine ⟨_, rfl, ?_⟩
  split <;> constructor <;> simp

theorem execFetchRequest_leaves (r : RingId) (s : State) : ∃ t, execFetchRequest r s = .next t ∧ LeavesTransfers s t := by
  refine ⟨_, rfl, ?_⟩
  split <;> constructor <;> simp

theorem execMPortGrant_leaves (s : State) : ∃ t, execMPortGrant s = .next t ∧ LeavesTransfers s t := by
  refine ⟨_, rfl, ?_⟩
  split <;> constructor <;> simp

theorem execFetchComplete_leaves (host : List HostWrite) (ok : Bool) (s : State) :
    ∃ t, execFetchComplete host ok s = .next t ∧ LeavesTransfers s t := by
  unfold execFetchComplete
  split
  · refine ⟨_, rfl, ?_⟩
    split
    · constructor <;> simp
    · split <;> constructor <;> simp
    · split <;> constructor <;> simp
  · exact ⟨_, rfl, .refl s⟩

theorem execCompletionWrite_leaves (w : WriteEnd) (s : State) :
    ∃ t, execCompletionWrite w s = .next t ∧ LeavesTransfers s t := by
  unfold execCompletionWrite
  split
  · split
    · exact ⟨_, rfl, by constructor <;> simp⟩
    · split
      · exact ⟨_, rfl, by constructor <;> simp⟩
      · cases w with
        | done =>
          refine ⟨_, rfl, ?_⟩
          dsimp only
          split <;> constructor <;> simp
        | failedAt i => exact ⟨_, rfl, by constructor <;> simp⟩
  · exact ⟨_, rfl, .refl s⟩

theorem execMailboxFault_leaves (s : State) : ∃ t, execMailboxFault s = .next t ∧ LeavesTransfers s t := by
  unfold execMailboxFault
  split
  · exact ⟨_, rfl, .refl s⟩
  · refine ⟨_, rfl, ?_⟩
    split
    · constructor <;> simp
    · exact ⟨by simp, by simp, by simp, by simp, stageKept_halted _⟩

theorem execFlushDisposal_leaves (r : RingId) (s : State) : ∃ t, execFlushDisposal r s = .next t ∧ LeavesTransfers s t := by
  refine ⟨_, rfl, ?_⟩
  split
  · exact .refl s
  · split
    · exact .refl s
    · split
      · dsimp only
        split <;> constructor <;> simp
      · constructor <;> simp

theorem execHoldoffExpiry_leaves (c : CqId) (s : State) : ∃ t, execHoldoffExpiry c s = .next t ∧ LeavesTransfers s t := by
  refine ⟨_, rfl, ?_⟩
  split
  · exact ⟨rfl, rfl, rfl, rfl, stageKept_refl _⟩
  · exact .refl s

/-- The commands that reach a table, a profile, a channel or a port. -/
def reachesTransfers : Instr → Bool
  | .powerOnReset | .abort _ | .softReset _ | .setupLoadEnd _ _ | .examination | .beatGrant _ _ | .beatEnd _ | .ready _ _
  | .readyTimeout | .handOff _ => true
  | _ => false

/-- Every other command answers a next state and leaves the transfers. -/
theorem exec_leavesTransfers {c : Instr} (hc : reachesTransfers c = false) (s : State) :
    ∃ t, exec c s = .next t ∧ LeavesTransfers s t := by
  cases c with
  | enable m => exact execEnable_leaves m s
  | quiesce m => exact execQuiesce_leaves m s
  | resume m => exact execResume_leaves m s
  | stop r => exact execStop_leaves r s
  | ringResume r => exact execRingResume_leaves r s
  | flush r => exact execFlush_leaves r s
  | ringReset r => exact execRingReset_leaves r s
  | post r n => exact execPost_leaves r n s
  | ack c n => exact execAck_leaves c n s
  | fetchRequest r => exact execFetchRequest_leaves r s
  | mPortGrant => exact execMPortGrant_leaves s
  | fetchComplete host ok => exact execFetchComplete_leaves host ok s
  | completionWrite w => exact execCompletionWrite_leaves w s
  | mailboxFault => exact execMailboxFault_leaves s
  | flushDisposal r => exact execFlushDisposal_leaves r s
  | holdoffExpiry c => exact execHoldoffExpiry_leaves c s
  | controlMaskWrite | controlUnknownCommand | select | ringctlUnknownCommand | setupWrite | statusWrite | intstatWrite =>
    exact ⟨_, rfl, rfl, rfl, rfl, rfl, stageKept_refl _⟩
  | powerOnReset | abort | softReset | setupLoadEnd | examination | beatGrant | beatEnd | ready | readyTimeout | handOff =>
    exact absurd hc (by simp [reachesTransfers])

/-- The same, for a next state that is given. -/
theorem leavesTransfers_of_exec {c : Instr} {s t : State} (hc : reachesTransfers c = false) (h : exec c s = .next t) :
    LeavesTransfers s t := by
  obtain ⟨u, hu, hleaves⟩ := exec_leavesTransfers hc s
  cases hu.symm.trans h
  exact hleaves

/-! ## The commands that reach the transfers -/

/-- R112, R170: an abort leaves the tables and the ports, and at most flags the channels. -/
theorem execAbort_leaves (m : Sources) (s : State) :
    ∃ t, execAbort m s = .next t ∧ LeavesTables s t ∧ t.ports = s.ports ∧
      ∀ c, t.channel c = s.channel c ∨ t.channel c = (s.channel c).flagAbort := by
  refine ⟨_, rfl, ?_⟩
  split
  · next hpart =>
    have hwork : s.control.part.working := by
      rcases (show s.control.part = .running ∨ s.control.part = .quiescing from hpart) with h | h <;> simp [PartState.working, h]
    have hstage : stageKept s.control.part (((s.setMask m).setPart .aborting).flagAborts).control.part :=
      stageKept_of_working hwork (by simp [PartState.working])
    refine ⟨⟨by simp, by simp, by simp, by simp, stageKept_drainPart hstage⟩, by simp, fun c => .inr ?_⟩
    simp only [State.channel, State.drainPart_channels]
    cases c <;> rfl
  · exact ⟨⟨rfl, rfl, rfl, rfl, stageKept_refl _⟩, rfl, fun c => .inl rfl⟩

/-- R168: a load ends with the code of the check that failed, or with the block loaded. -/
theorem State.loadBlock_cases (s : State) (b : SetupBlock) :
    (∃ e, s.loadBlock b = s.failLoad e) ∨ (setupCheck b s.map.current = .none ∧ s.loadBlock b = s.finishLoad b) := by
  unfold State.loadBlock
  split
  · next hcheck => exact .inr ⟨hcheck, rfl⟩
  · exact .inl ⟨_, rfl⟩

/-- R168: what the end of the setup read can do: nothing to the transfers, or, in LOADING, the load of a block whose checks pass. -/
theorem execSetupLoadEnd_cases (host : List HostWrite) (ok : Bool) (s : State) :
    ∃ t, execSetupLoadEnd host ok s = .next t ∧ (LeavesTransfers s t ∨
      ∃ b u, LeavesTransfers s u ∧ u.control.part = .loading ∧ setupCheck b u.map.current = .none ∧ t = u.finishLoad b) := by
  unfold execSetupLoadEnd
  split
  · refine ⟨_, rfl, ?_⟩
    have hfree : LeavesTransfers s { s with mailbox := mailboxHost s.mailbox host }.freePort :=
      ⟨rfl, rfl, rfl, rfl, stageKept_refl _⟩
    generalize { s with mailbox := mailboxHost s.mailbox host }.freePort = u at hfree ⊢
    split
    · exact .inl hfree
    · split
      · exact .inl ⟨hfree.pending, hfree.map, hfree.channels, hfree.ports, hfree.stage⟩
      · split
        · next hpart =>
          rcases u.loadBlock_cases (SetupBlock.ofWords (mailboxWords u.mailbox _ 12)) with ⟨e, he⟩ | ⟨hcheck, he⟩
          · have hstage : stageKept s.control.part (u.failLoad e).control.part :=
              ⟨fun _ => hfree.stage.1 (.inr hpart), fun hwork => absurd rfl hwork.1⟩
            rw [he]
            exact .inl ⟨hfree.pending, hfree.map, hfree.channels, hfree.ports, hstage⟩
          · exact .inr ⟨_, u, hfree, hpart, hcheck, he⟩
        · exact .inl hfree
  · exact ⟨_, rfl, .inl (.refl s)⟩

/-- R27, R34: a release leaves both tables. -/
theorem mapAfterRelease_tables (m : MapUnit) (g : BitVec 8) :
    (mapAfterRelease m g).current = m.current ∧ (mapAfterRelease m g).staged = m.staged := by
  unfold mapAfterRelease
  split
  · exact ⟨rfl, rfl⟩
  · split
    · split
      · split <;> exact ⟨rfl, rfl⟩
      · exact ⟨rfl, rfl⟩
    · exact ⟨rfl, rfl⟩

/-- R117: a hand-off leaves the tables, and takes its channel to IDLE. -/
theorem State.handOff_leaves (s : State) (c : ChannelId) (x : Context) (e : Ending) :
    LeavesTables s (s.handOff c x e) ∧ (s.handOff c x e).channels = s.channels.set c .idle := by
  obtain ⟨hcurrent, hstaged⟩ := mapAfterRelease_tables s.map x.generation
  refine ⟨⟨by simp, ?_, ?_, by simp, stageKept_drainPart ?_⟩, by simp [State.handOff]⟩
  · simp [State.handOff, hcurrent]
  · simp [State.handOff, hstaged]
  · simp

/-- R116, R117: a hand-off leaves the tables and the ports, and at most takes its channel to IDLE. -/
theorem execHandOff_leaves (c : ChannelId) (s : State) :
    ∃ t, execHandOff c s = .next t ∧ LeavesTables s t ∧ t.ports = s.ports ∧
      (t.channels = s.channels ∨ t.channels = s.channels.set c .idle) := by
  have hsame : LeavesTables s s := (LeavesTransfers.refl s).leavesTables
  unfold execHandOff
  split
  · next x _ =>
    split
    · next e _ =>
      refine ⟨_, rfl, ?_⟩
      generalize (if lastRelease s.map x = true then 2 else 1) = room
      obtain ⟨hleaves, hchannels⟩ := s.handOff_leaves c x e
      split
      · exact ⟨hleaves, State.handOff_ports .., .inr hchannels⟩
      · exact ⟨hsame, rfl, .inl rfl⟩
    · exact ⟨_, rfl, hsame, rfl, .inl rfl⟩
  · exact ⟨_, rfl, hsame, rfl, .inl rfl⟩
  · exact ⟨_, rfl, hsame, rfl, .inl rfl⟩

theorem execReady_leaves (d : DeviceId) (v : W24) (s : State) : ∃ t, execReady d v s = .next t ∧ LeavesTables s t := by
  unfold execReady
  split
  · exact ⟨_, rfl, (LeavesTransfers.refl s).leavesTables⟩
  · refine ⟨_, rfl, ?_⟩
    split <;> constructor <;> simp

theorem execReadyTimeout_leaves (s : State) : ∃ t, execReadyTimeout s = .next t ∧ LeavesTables s t := by
  unfold execReadyTimeout
  split
  · exact ⟨_, rfl, (LeavesTransfers.refl s).leavesTables⟩
  · exact ⟨_, rfl, by constructor <;> simp⟩

/-- R2, log entry 6: outside writes fail only at a word that the bank does not have. -/
theorem outsideWrites_eq_none {b : BankId} {m : BankMemory} {ws : List OutsideWrite} (h : outsideWrites b m ws = none) :
    ∃ w ∈ ws, Config.bankCapacity b ≤ w.offset := by
  induction ws generalizing m with
  | nil => cases h
  | cons w rest ih =>
    unfold outsideWrites at h
    split at h
    · obtain ⟨w', hmem, hoff⟩ := ih h
      exact ⟨w', List.mem_cons_of_mem _ hmem, hoff⟩
    · next hoff => exact ⟨w, List.mem_cons_self, by omega⟩

/-- R134: a grant leaves the tables, but for outside writes to a word that the bank does not have (R2). -/
theorem execBeatGrant_cases (i : ArbiterId) (ws : List OutsideWrite) (s : State) :
    (∃ t, execBeatGrant i ws s = .next t ∧ LeavesTables s t) ∨
      (execBeatGrant i ws s = .fault .noSuchWord ∧
        ∃ b, i = .bank b ∧ (s.arbiter (.bank b)).inService = none ∧ ∃ w ∈ ws, Config.bankCapacity b ≤ w.offset) := by
  unfold execBeatGrant
  split
  · exact .inl ⟨_, rfl, (LeavesTransfers.refl s).leavesTables⟩
  · next hfree =>
    split
    · exact .inl ⟨_, rfl, by constructor <;> simp⟩
    · next b =>
      split
      · next hnone => exact .inr ⟨rfl, b, rfl, hfree, outsideWrites_eq_none hnone⟩
      · exact .inl ⟨_, rfl, by constructor <;> simp⟩

/-- R133, R138: the end of a beat at a bank leaves the tables; a beat beyond the bank has no word to end at (R2). -/
theorem execBeatEnd_cases (b : BankId) (s : State) :
    (∃ t, execBeatEnd b s = .next t ∧ LeavesTables s t) ∨
      (execBeatEnd b s = .fault .noSuchWord ∧
        ∃ beat, (s.arbiter (.bank b)).inService = some beat ∧ Config.bankCapacity b ≤ beat.offset) := by
  unfold execBeatEnd
  split
  · exact .inl ⟨_, rfl, (LeavesTransfers.refl s).leavesTables⟩
  · next beat hbeat =>
    split
    · refine .inl ⟨_, rfl, ?_⟩
      split <;> constructor <;> simp
    · next hoff => exact .inr ⟨rfl, beat, hbeat, by omega⟩

/-- R81: an examination takes no command off the queue (log entry 20). -/
theorem execExamination_pending (s : State) :
    ∃ t, execExamination s = .next t ∧ t.pending = s.pending := by
  refine ⟨_, rfl, ?_⟩
  split <;> simp

/-! ## Only absent words fault (R2; log entry 23) -/

/-- Settles O2, command by command: a bank's outside writes and its beat in service are the only words a command can miss. -/
theorem onlyAbsentWordsFault : Obligations.OnlyAbsentWordsFault := by
  intro c s
  cases hc : reachesTransfers c with
  | false =>
    obtain ⟨t, ht, hleaves⟩ := exec_leavesTransfers hc s
    exact .inl ⟨t, ht, hleaves.pending⟩
  | true =>
    cases c with
    | powerOnReset => exact .inl ⟨_, rfl, rfl⟩
    | softReset m => exact .inl ⟨_, rfl, rfl⟩
    | abort m =>
      obtain ⟨t, ht, hleaves, -⟩ := execAbort_leaves m s
      exact .inl ⟨t, ht, hleaves.pending⟩
    | setupLoadEnd host ok =>
      obtain ⟨t, ht, hleaves | ⟨b, u, hleaves, -, -, rfl⟩⟩ := execSetupLoadEnd_cases host ok s
      · exact .inl ⟨t, ht, hleaves.pending⟩
      · exact .inl ⟨_, ht, (State.finishLoad_pending u b).trans hleaves.pending⟩
    | examination => exact .inl (execExamination_pending s)
    | handOff c =>
      obtain ⟨t, ht, hleaves, -⟩ := execHandOff_leaves c s
      exact .inl ⟨t, ht, hleaves.pending⟩
    | ready d v =>
      obtain ⟨t, ht, hleaves⟩ := execReady_leaves d v s
      exact .inl ⟨t, ht, hleaves.pending⟩
    | readyTimeout =>
      obtain ⟨t, ht, hleaves⟩ := execReadyTimeout_leaves s
      exact .inl ⟨t, ht, hleaves.pending⟩
    | beatGrant i ws =>
      rcases execBeatGrant_cases i ws s with ⟨t, ht, hleaves⟩ | ⟨ht, b, rfl, hfree, hword⟩
      · exact .inl ⟨t, ht, hleaves.pending⟩
      · exact .inr ⟨ht, .inl ⟨b, ws, rfl, hfree, hword⟩⟩
    | beatEnd b =>
      rcases execBeatEnd_cases b s with ⟨t, ht, hleaves⟩ | ⟨ht, beat, hbeat, hoff⟩
      · exact .inl ⟨t, ht, hleaves.pending⟩
      · exact .inr ⟨ht, .inr ⟨b, beat, rfl, hbeat, hoff⟩⟩
    | _ => exact absurd hc (by simp [reachesTransfers])

end Sys2Proof.Machine

/-! The window tables (chapters 1 and 2): what a command can do to them, and the laws of R5, R7, R9, R17 that every step keeps. -/

namespace Sys2Proof.Machine

/-! ## What validation finds (R28, R91) -/

/-- R28: a MAPSET is refused, or names a valid entry whose index is not locked and which overlaps no other entry of the staged
table. -/
theorem validateMapset_cases (m : MapUnit) (profiles : PerDevice (Option Profile)) (x : Record) :
    (∃ st d, validateMapset m profiles x = .refuse st d) ∨
      ∃ e, validateMapset m profiles x = .mapset x.index e ∧ windowValid profiles e = true ∧
        (entryAt m.current x.index).lock = false ∧ overlapsOther m.staged x.index e = false := by
  unfold validateMapset
  split
  · exact .inl ⟨_, _, rfl⟩
  · next e _ =>
    split
    · exact .inl ⟨_, _, rfl⟩
    · next hvalid =>
      split
      · exact .inl ⟨_, _, rfl⟩
      · next hlock =>
        split
        · exact .inl ⟨_, _, rfl⟩
        · next hapart => exact .inr ⟨e, rfl, by simpa using hvalid, by simpa using hlock, by simpa using hapart⟩

/-- R91: checks 4 to 9 find a refusal, or the transfer with its extents as resolved. -/
theorem validateTransfer_cases (t : WindowTable) (profiles : PerDevice (Option Profile)) (k : Kind) (x : Record) :
    (∃ st d, validateTransfer t profiles k x = .refuse st d) ∨
      ∃ y, resolveAll t profiles k x = .ok y ∧
        validateTransfer t profiles k x = .transfer k (extentOf y .a) (extentOf y .b) (extentOf y .c) (directionOf k y) := by
  unfold validateTransfer
  split
  · exact .inl ⟨_, _, rfl⟩
  · next y hy =>
    split
    · exact .inl ⟨_, _, rfl⟩
    · split
      · exact .inl ⟨_, _, rfl⟩
      · split
        · exact .inl ⟨_, _, rfl⟩
        · split
          · exact .inl ⟨_, _, rfl⟩
          · split
            · exact .inl ⟨_, _, rfl⟩
            · exact .inr ⟨y, hy, rfl⟩

/-- R43 to R46, R91: a record is refused, completed, a map command, or a transfer of a valid count above 0. -/
theorem validate_cases (m : MapUnit) (profiles : PerDevice (Option Profile)) (x : Record) :
    ((∃ st d, validate m profiles x = .refuse st d) ∨ validate m profiles x = .complete ∨ validate m profiles x = .maprevert ∨
        validate m profiles x = .mapswitch) ∨
      validate m profiles x = validateMapset m profiles x ∨
      ∃ k, countAllowed k x.count.toNat = true ∧ 0 < x.count.toNat ∧
        validate m profiles x = validateTransfer m.current profiles k x := by
  unfold validate
  split
  · exact .inl (.inl ⟨_, _, rfl⟩)
  · next k _ =>
    split
    · exact .inl (.inl ⟨_, _, rfl⟩)
    · cases k with
      | fence | mark => exact .inl (.inr (.inl rfl))
      | mapset => exact .inr (.inl rfl)
      | maprevert => exact .inl (.inr (.inr (.inl rfl)))
      | mapswitch => exact .inl (.inr (.inr (.inr rfl)))
      | copy | fill | compare | pack | unpack | split | join =>
        dsimp only
        split
        · exact .inl (.inl ⟨_, _, rfl⟩)
        · next hcount =>
          split
          · exact .inl (.inr (.inl rfl))
          · next hzero => exact .inr (.inr ⟨_, by simpa using hcount, by bv_omega, rfl⟩)

/-- R28: what a record that validates as a MAPSET has passed. -/
theorem validate_eq_mapset {m : MapUnit} {profiles : PerDevice (Option Profile)} {x : Record} {i : BitVec 4} {e : WindowEntry}
    (h : validate m profiles x = .mapset i e) :
    windowValid profiles e = true ∧ (entryAt m.current i).lock = false ∧ overlapsOther m.staged i e = false := by
  rcases validate_cases m profiles x with (⟨_, _, hv⟩ | hv | hv | hv) | hv | ⟨k, -, -, hv⟩
  · cases hv.symm.trans h
  · cases hv.symm.trans h
  · cases hv.symm.trans h
  · cases hv.symm.trans h
  · rcases validateMapset_cases m profiles x with ⟨_, _, hm⟩ | ⟨f, hm, hpassed⟩
    · cases (hv.trans hm).symm.trans h
    · cases (hv.trans hm).symm.trans h
      exact hpassed
  · rcases validateTransfer_cases m.current profiles k x with ⟨_, _, hm⟩ | ⟨_, -, hm⟩
    · cases (hv.trans hm).symm.trans h
    · cases (hv.trans hm).symm.trans h

/-- R91: what a record that validates as a transfer has passed. -/
theorem validate_eq_transfer {m : MapUnit} {profiles : PerDevice (Option Profile)} {x : Record} {k : Kind}
    {a b c : Option Extent} {d : Direction} (h : validate m profiles x = .transfer k a b c d) :
    countAllowed k x.count.toNat = true ∧ 0 < x.count.toNat ∧ ∃ y, resolveAll m.current profiles k x = .ok y ∧
      a = extentOf y .a ∧ b = extentOf y .b ∧ c = extentOf y .c ∧ d = directionOf k y := by
  rcases validate_cases m profiles x with (⟨_, _, hv⟩ | hv | hv | hv) | hv | ⟨k', hcount, hpos, hv⟩
  · cases hv.symm.trans h
  · cases hv.symm.trans h
  · cases hv.symm.trans h
  · cases hv.symm.trans h
  · rcases validateMapset_cases m profiles x with ⟨_, _, hm⟩ | ⟨_, hm, -⟩
    · cases (hv.trans hm).symm.trans h
    · cases (hv.trans hm).symm.trans h
  · rcases validateTransfer_cases m.current profiles k' x with ⟨_, _, hm⟩ | ⟨y, hy, hm⟩
    · cases (hv.trans hm).symm.trans h
    · cases (hv.trans hm).symm.trans h
      exact ⟨hcount, hpos, y, hy, rfl, rfl, rfl, rfl⟩

/-! ## What an examination takes (R81 to R83) -/

/-- R83: the head of an eligible ring has met every condition. -/
theorem verdict_eq_eligible {s : State} {r : RingId} {p : Prefetched} {plan : Plan} (h : verdict s r = .eligible p plan) :
    (s.ring r).queue.head? = some p ∧ (s.ring r).phase = .active ∧ s.control.part = .running ∧
      (needsOrder (s.ring r) p = true → (s.ring r).inFlight = 0) ∧ cqHasRoom (s.cq (s.ring r).dir.cq) = true ∧
      plan = validate s.map s.ports.profiles p.record ∧ planWait s r plan = .none ∧ postRoom s 1 = true := by
  unfold verdict at h
  dsimp only at h
  split at h
  · cases h
  · next hqueue =>
    split at h
    · cases h
    · next hphase =>
      split at h
      · cases h
      · next hpart =>
        split at h
        · cases h
        · next horder =>
          split at h
          · cases h
          · next hroom =>
            split at h
            · next hwait =>
              split at h
              · next hpost =>
                cases h
                exact ⟨by simp [hqueue], by simpa using hphase, by simpa using hpart, by simpa using horder, by simpa using hroom,
                  rfl, hwait, hpost⟩
              · cases h
            · cases h

/-- R81: an examination takes nothing, or the eligible head of the ring chosen. -/
theorem State.examine_cases (s : State) :
    (chosenRing s = none ∧ s.examine = { s.setWaits with issue := { s.setWaits.issue with due := false } }) ∨
      ∃ r p plan, chosenRing s = some r ∧ verdict s r = .eligible p plan ∧
        s.examine = ((s.setWaits.takeHead r).carryOut r p plan).examineDue := by
  unfold State.examine
  dsimp only
  split
  · next hnone => exact .inl ⟨hnone, rfl⟩
  · next r hr =>
    have heligible := chosenRing_eligible hr
    cases hv : verdict s r with
    | eligible p plan => exact .inr ⟨r, p, plan, hr, hv, rfl⟩
    | noHead | wait => simp [hv, Verdict.isEligible] at heligible

/-! ## What a command does to the tables -/

/-- The tables of the Map Unit `t` come from those of `m` by no change, by a MAPSET that passes its checks against `profiles` (R28,
R29), with the staged table set back (R30, R39), or by a switch (R32). -/
inductive TableChange (profiles : PerDevice (Option Profile)) (m t : MapUnit) : Prop
  | same (current : t.current = m.current) (staged : t.staged = m.staged)
  | mapset (i : BitVec 4) (e : WindowEntry) (current : t.current = m.current) (staged : t.staged = setEntry m.staged i e)
      (valid : windowValid profiles e = true) (unlocked : (entryAt m.current i).lock = false)
      (apart : overlapsOther m.staged i e = false)
  | revert (current : t.current = m.current) (staged : t.staged = m.current)
  | switch (current : t.current = m.staged) (staged : t.staged = m.staged)

theorem LeavesTables.tableChange {s t : State} (h : LeavesTables s t) : TableChange s.ports.profiles s.map t.map :=
  .same h.current h.staged

theorem State.carryOut_tableChange {s : State} (r : RingId) (p : Prefetched) {profiles : PerDevice (Option Profile)} {plan : Plan}
    (h : plan = validate s.map profiles p.record) : TableChange profiles s.map (s.carryOut r p plan).map := by
  cases plan with
  | refuse | complete => exact .same (by simp [State.carryOut]) (by simp [State.carryOut])
  | mapset i e =>
    obtain ⟨hvalid, hlock, hapart⟩ := validate_eq_mapset h.symm
    exact .mapset i e (by simp [State.carryOut]) (by simp [State.carryOut]) hvalid hlock hapart
  | maprevert => exact .revert (by simp [State.carryOut]) (by simp [State.carryOut])
  | mapswitch =>
    have hmap : (s.carryOut r p .mapswitch).map = mapAfterSwitch s.map ⟨r, p.slot, p.record.tag⟩ := by
      simp only [State.carryOut]
      split <;> simp
    exact .switch (by rw [hmap]; rfl) (by rw [hmap]; rfl)
  | transfer => exact .same (by simp [State.carryOut, State.issueTransfer]) (by simp [State.carryOut, State.issueTransfer])

/-- R81: an examination changes the tables as the record it takes says, leaves the profiles, and in HALTED, OFF and LOADING does
nothing. -/
theorem execExamination_tableChange (s : State) :
    ∃ t, execExamination s = .next t ∧ TableChange s.ports.profiles s.map t.map ∧ t.control = s.control ∧
      t.ports.profiles = s.ports.profiles ∧ (s.control.part.working ∨ t = s) := by
  refine ⟨_, rfl, ?_⟩
  split
  · exact ⟨.same rfl rfl, rfl, rfl, .inr rfl⟩
  · next hpart =>
    have hwork : s.control.part.working := by simp_all [PartState.working]
    rcases s.examine_cases with ⟨-, he⟩ | ⟨r, p, plan, -, hv, he⟩
    · rw [he]
      exact ⟨.same (by simp) (by simp), by simp, by simp, .inl hwork⟩
    · obtain ⟨-, -, -, -, -, hplan, -, -⟩ := verdict_eq_eligible hv
      have hchange := State.carryOut_tableChange (s := s.setWaits.takeHead r) r p (profiles := s.ports.profiles)
        (by simpa using hplan)
      rw [he]
      exact ⟨by simpa using hchange, by simp, by simp, .inl hwork⟩

/-- The commands that can change a table or a profile. -/
def reachesTables : Instr → Bool
  | .powerOnReset | .softReset _ | .setupLoadEnd _ _ | .examination => true
  | _ => false

theorem exec_leavesTables {c : Instr} {s t : State} (hc : reachesTables c = false) (h : exec c s = .next t) :
    LeavesTables s t := by
  cases c with
  | powerOnReset | softReset | setupLoadEnd | examination => cases hc
  | abort m =>
    obtain ⟨u, hu, hleaves, -⟩ := execAbort_leaves m s
    cases hu.symm.trans h
    exact hleaves
  | beatGrant i ws =>
    rcases execBeatGrant_cases i ws s with ⟨u, hu, hleaves⟩ | ⟨hu, -⟩
    · cases hu.symm.trans h
      exact hleaves
    · cases hu.symm.trans h
  | beatEnd b =>
    rcases execBeatEnd_cases b s with ⟨u, hu, hleaves⟩ | ⟨hu, -⟩
    · cases hu.symm.trans h
      exact hleaves
    · cases hu.symm.trans h
  | ready d v =>
    obtain ⟨u, hu, hleaves⟩ := execReady_leaves d v s
    cases hu.symm.trans h
    exact hleaves
  | readyTimeout =>
    obtain ⟨u, hu, hleaves⟩ := execReadyTimeout_leaves s
    cases hu.symm.trans h
    exact hleaves
  | handOff c =>
    obtain ⟨u, hu, hleaves, -⟩ := execHandOff_leaves c s
    cases hu.symm.trans h
    exact hleaves
  | _ => exact (leavesTransfers_of_exec rfl h).leavesTables

/-- What a command other than a power-on reset can do to the tables. -/
theorem exec_tableChange {c : Instr} {s t : State} (h : exec c s = .next t) (hc : c ≠ .powerOnReset) :
    TableChange s.ports.profiles s.map t.map := by
  cases c with
  | powerOnReset => exact absurd rfl hc
  | softReset m =>
    cases h
    exact .revert rfl rfl
  | setupLoadEnd host ok =>
    obtain ⟨u, hu, hleaves | ⟨b, v, hleaves, -, -, rfl⟩⟩ := execSetupLoadEnd_cases host ok s
    · cases hu.symm.trans h
      exact hleaves.leavesTables.tableChange
    · cases hu.symm.trans h
      exact .same (by simp [hleaves.map]) (by simp [hleaves.map])
  | examination =>
    obtain ⟨u, hu, hchange, -⟩ := execExamination_tableChange s
    cases hu.symm.trans h
    exact hchange
  | _ => exact (exec_leavesTables rfl h).tableChange

/-! ## From one command to a step -/

/-- A law that does not speak of the queue, and that every command keeps, is kept by every step. -/
theorem step_keeps {P : State → Prop} (hqueue : ∀ s rest, P s → P { s with pending := rest })
    (hexec : ∀ c s t, P s → exec c s = .next t → P t) (s t : State) (hs : P s) (h : step s = .next t) : P t := by
  unfold step at h
  split at h
  · cases h
    exact hs
  · next c rest _ => exact hexec c _ t (hqueue s rest hs) h

/-! ## The entries stay apart and the locks hold (R9, R17, R18, R23) -/

/-- R9: a table whose entries are apart stays so when an entry is replaced by one that overlaps no other. -/
theorem tableDisjoint_setEntry {t : WindowTable} {i : BitVec 4} {e : WindowEntry} (ht : tableDisjoint t)
    (he : overlapsOther t i e = false) : tableDisjoint (setEntry t i e) := by
  have hapart := (overlapsOther_eq_false_iff t i e).1 he
  intro j k hjk
  by_cases hj : j = i
  · subst hj
    rw [entryAt_setEntry_same, entryAt_setEntry_other t e hjk.symm]
    exact hapart k hjk.symm
  · by_cases hk : k = i
    · subst hk
      rw [entryAt_setEntry_same, entryAt_setEntry_other t e hj, windowsOverlap_comm]
      exact hapart j hj
    · rw [entryAt_setEntry_other t e hj, entryAt_setEntry_other t e hk]
      exact ht j k hjk

theorem tableDisjoint_cleared : tableDisjoint WindowTable.cleared := by
  intro i j _
  simp [windowsOverlap, WindowEntry.cleared]

theorem TableChange.mapDisjoint {profiles : PerDevice (Option Profile)} {s t : State} (h : TableChange profiles s.map t.map)
    (hs : mapDisjoint s) : mapDisjoint t := by
  obtain ⟨hcur, hst⟩ := hs
  unfold Machine.mapDisjoint
  cases h with
  | same current staged => rw [current, staged]; exact ⟨hcur, hst⟩
  | mapset i e current staged _ _ apart => rw [current, staged]; exact ⟨hcur, tableDisjoint_setEntry hst apart⟩
  | revert current staged => rw [current, staged]; exact ⟨hcur, hcur⟩
  | switch current staged => rw [current, staged]; exact ⟨hst, hst⟩

theorem TableChange.locksHold {profiles : PerDevice (Option Profile)} {s t : State} (h : TableChange profiles s.map t.map)
    (hs : locksHold s) : locksHold t := by
  unfold Machine.locksHold
  cases h with
  | same current staged => rw [current, staged]; exact hs
  | mapset i e current staged _ unlocked _ =>
    rw [current, staged]
    intro j hj
    have hne : j ≠ i := by
      rintro rfl
      simp [unlocked] at hj
    rw [entryAt_setEntry_other _ _ hne]
    exact hs j hj
  | revert current staged => rw [current, staged]; exact fun _ _ => rfl
  | switch current staged => rw [current, staged]; exact fun _ _ => rfl

/-- R17, R23: a switch installs the staged copy of a locked entry, which equals it. -/
theorem TableChange.locked_entry {profiles : PerDevice (Option Profile)} {s t : State} (h : TableChange profiles s.map t.map)
    (hs : Machine.locksHold s) {i : BitVec 4} (hi : (entryAt s.map.current i).lock = true) :
    entryAt t.map.current i = entryAt s.map.current i := by
  cases h with
  | same current | mapset _ _ current | revert current => rw [current]
  | switch current => rw [current]; exact hs i hi

theorem exec_mapDisjoint (c : Instr) (s t : State) (hs : mapDisjoint s) (h : exec c s = .next t) : mapDisjoint t := by
  by_cases hc : c = .powerOnReset
  · subst hc
    cases h
    exact ⟨tableDisjoint_cleared, tableDisjoint_cleared⟩
  · exact (exec_tableChange h hc).mapDisjoint hs

theorem exec_locksHold (c : Instr) (s t : State) (hs : locksHold s) (h : exec c s = .next t) : locksHold t := by
  by_cases hc : c = .powerOnReset
  · subst hc
    cases h
    exact fun _ _ => rfl
  · exact (exec_tableChange h hc).locksHold hs

/-- Settles O52: a command other than a power-on reset changes the tables by a passed MAPSET, a reversion or a switch alone. -/
theorem mapLawsKept : Obligations.MapLawsKept :=
  ⟨step_keeps (fun _ _ hs => hs) exec_mapDisjoint, step_keeps (fun _ _ hs => hs) exec_locksHold,
    fun _ _ _ hs h hc _ hi => (exec_tableChange h hc).locked_entry hs hi⟩

end Sys2Proof.Machine

/-! The entries of the tables stay valid (R5, R7, R20). -/

namespace Sys2Proof.Machine

/-- R7: what a valid entry satisfies whatever the profiles. -/
theorem entryPlaced_of_windowValid {profiles : PerDevice (Option Profile)} {e : WindowEntry} (h : windowValid profiles e = true) :
    entryPlaced e := by
  obtain ⟨hsize, hfits⟩ := (windowValid_iff profiles e).1 h
  refine ⟨hsize, fun hen => ?_⟩
  obtain ⟨hbase, htarget, cap, hcap, hle⟩ := hfits hen
  refine ⟨hbase, htarget, fun b hb => ?_⟩
  rw [hb] at hcap
  cases hcap
  exact hle

/-- R20, R167: an entry kept across a load is valid with the profiles of a block that passes check 8 for it. -/
theorem windowValid_of_keptEntryFits {profiles : PerDevice (Option Profile)} {e : WindowEntry} (hplaced : entryPlaced e)
    (hkept : keptEntryFits profiles e = true) : windowValid profiles e = true := by
  obtain ⟨hsize, hfits⟩ := hplaced
  refine (windowValid_iff profiles e).2 ⟨hsize, fun hen => ?_⟩
  obtain ⟨hbase, htarget, hbank⟩ := hfits hen
  refine ⟨hbase, htarget, ?_⟩
  cases ht : e.target with
  | bank b => exact ⟨_, rfl, hbank b ht⟩
  | device d =>
    unfold keptEntryFits at hkept
    rw [ht] at hkept
    cases hp : profiles.get d with
    | none => simp [hen, hp] at hkept
    | some p => exact ⟨2 ^ p.sizeCode.toNat, by simp [targetCapacity, hp], by simpa [hen, hp] using hkept⟩

theorem entryPlaced_cleared : entryPlaced WindowEntry.cleared := by simp [entryPlaced, WindowEntry.cleared]

/-- R166, R167: a block that passes the setup checks has passed check 8. -/
theorem keptEntryFits_of_setupCheck {b : SetupBlock} {current : WindowTable} (h : setupCheck b current = .none) (i : BitVec 4) :
    keptEntryFits (blockProfiles b) (entryAt current i) = true := by
  have hall : current.toList.all (keptEntryFits (blockProfiles b)) = true := by
    unfold setupCheck at h
    dsimp only at h
    split_ifs at h with _ _ _ _ _ _ _ hkept
    simpa using hkept
  exact List.all_eq_true.1 hall _ (entryAt_mem current i)

/-- Every entry of both tables satisfies `p`. -/
def entriesSatisfy (m : MapUnit) (p : WindowEntry → Prop) : Prop := ∀ i, p (entryAt m.current i) ∧ p (entryAt m.staged i)

theorem TableChange.entriesSatisfy {profiles : PerDevice (Option Profile)} {m t : MapUnit} {p : WindowEntry → Prop}
    (h : TableChange profiles m t) (hp : ∀ e, windowValid profiles e = true → p e) (hm : Machine.entriesSatisfy m p) :
    Machine.entriesSatisfy t p := by
  intro i
  obtain ⟨hcur, hst⟩ := hm i
  cases h with
  | same current staged => rw [current, staged]; exact ⟨hcur, hst⟩
  | mapset j e current staged valid =>
    rw [current, staged, entryAt_setEntry]
    refine ⟨hcur, ?_⟩
    split
    · exact hp e valid
    · exact hst
  | revert current staged => rw [current, staged]; exact ⟨hcur, hcur⟩
  | switch current staged => rw [current, staged]; exact ⟨hst, hst⟩

theorem LeavesTables.tablesValid {s t : State} (h : LeavesTables s t) (hs : tablesValid s) : tablesValid t := by
  obtain ⟨hplaced, hequal, hvalid⟩ := hs
  unfold Machine.tablesValid
  rw [h.current, h.staged, h.profiles]
  refine ⟨hplaced, fun hoff => hequal (h.stage.1 hoff), fun h1 h2 h3 => ?_⟩
  obtain ⟨h1', h2', h3'⟩ := h.stage.2 ⟨h1, h2, h3⟩
  exact hvalid h1' h2' h3'

/-- R19, R20, R39, R40: a reset leaves two equal tables of placed entries, in OFF. -/
theorem tablesValid_of_reset {t : State} (hpart : t.control.part = .off) (hequal : t.map.staged = t.map.current)
    (hplaced : ∀ i, entryPlaced (entryAt t.map.current i)) : tablesValid t :=
  ⟨fun i => ⟨hplaced i, by rw [hequal]; exact hplaced i⟩, fun _ => hequal, fun hoff => absurd hpart hoff⟩

/-- R20, R168: a load that passes its checks, from LOADING, makes every entry valid with the profiles of its block. -/
theorem tablesValid_finishLoad {s : State} {b : SetupBlock} (hs : tablesValid s) (hpart : s.control.part = .loading)
    (hcheck : setupCheck b s.map.current = .none) : tablesValid (s.finishLoad b) := by
  obtain ⟨hplaced, hequal, -⟩ := hs
  have heq := hequal (.inr hpart)
  have hvalid : ∀ i, windowValid (blockProfiles b) (entryAt s.map.current i) = true := fun i =>
    windowValid_of_keptEntryFits (hplaced i).1 (keptEntryFits_of_setupCheck hcheck i)
  unfold tablesValid
  rw [State.finishLoad_map]
  refine ⟨hplaced, fun _ => heq, fun _ _ _ i => ?_⟩
  rw [heq]
  exact ⟨hvalid i, hvalid i⟩

/-- R28, R29, R32: what an examination writes into a table is valid, and outside the working states it writes nothing. -/
theorem tablesValid_examination {s t : State} (hs : tablesValid s) (h : exec .examination s = .next t) : tablesValid t := by
  obtain ⟨u, hu, hchange, hcontrol, hprofiles, hwork⟩ := execExamination_tableChange s
  cases hu.symm.trans h
  rcases hwork with hwork | rfl
  · obtain ⟨hplaced, -, hvalid⟩ := hs
    refine ⟨hchange.entriesSatisfy (fun _ => entryPlaced_of_windowValid) hplaced, ?_, ?_⟩ <;> rw [hcontrol]
    · exact fun hoff => (hoff.elim hwork.1 hwork.2.1).elim
    · rw [hprofiles]
      exact fun h1 h2 h3 => hchange.entriesSatisfy (fun _ => id) (hvalid h1 h2 h3)
  · exact hs

/-- R5, R7, R20: every command keeps the entries of the tables valid. -/
theorem exec_tablesValid (c : Instr) (s t : State) (hs : tablesValid s) (h : exec c s = .next t) : tablesValid t := by
  cases c with
  | powerOnReset =>
    cases h
    refine tablesValid_of_reset rfl rfl fun i => ?_
    simp [MapUnit.reset, entryPlaced_cleared]
  | softReset m =>
    cases h
    exact tablesValid_of_reset rfl rfl fun i => (hs.1 i).1
  | setupLoadEnd host ok =>
    obtain ⟨u, hu, hleaves | ⟨b, v, hleaves, hpart, hcheck, rfl⟩⟩ := execSetupLoadEnd_cases host ok s
    · cases hu.symm.trans h
      exact hleaves.leavesTables.tablesValid hs
    · cases hu.symm.trans h
      exact tablesValid_finishLoad (hleaves.leavesTables.tablesValid hs) hpart hcheck
  | examination => exact tablesValid_examination hs h
  | _ => exact (exec_leavesTables rfl h).tablesValid hs

end Sys2Proof.Machine

/-! The beats stay inside their banks (R2, R11, R104, R106): the words of a step lie in the extents, and every beat that is requested,
waits or is in service keeps below its bank's capacity. -/

namespace Sys2Proof.Machine

/-! ## The words of a step (R104) -/

/-- The extents of a context lie below the capacities of their banks. -/
def extentsInside (x : Context) : Prop :=
  ∀ n e len b, contextExtent x n = some e → extentLength x.kind x.count n = some len → e.phys.target = .bank b →
    e.phys.first + len ≤ Config.bankCapacity b

/-- A word of an extent the kind names, below the extent's length. -/
def wordInside (x : Context) (n : ExtentName) (pos : Nat) : Prop :=
  ∃ len, extentLength x.kind x.count n = some len ∧ pos < len

theorem contextInside_iff (x : Context) :
    contextInside x ↔ extentsInside x ∧
      ∀ run, x.step = some run → (∀ m ∈ run.later, beatInside m) ∧ (run.phase ≠ .earlyEnd → stepInside x) := Iff.rfl

/-- A context at a step boundary has no beats to come. -/
theorem contextInside_of_no_step {x : Context} (hx : extentsInside x) (hstep : x.step = none) : contextInside x :=
  (contextInside_iff x).2 ⟨hx, fun run hrun => by cases hstep.symm.trans hrun⟩

/-- R2, R104: the beat at a word of an extent that lies inside names a word the bank has. -/
theorem contextBeat_inside {c : ChannelId} {x : Context} {w : Bool} {n : ExtentName} {pos : Nat} {v : W24} {b : Beat}
    (hx : extentsInside x) (hpos : wordInside x n pos) (hb : contextBeat c x w n pos v = some b) : beatInside b := by
  obtain ⟨len, hlen, hlt⟩ := hpos
  obtain ⟨e, he, rfl⟩ := Option.map_eq_some_iff.1 hb
  intro k hk
  have hfits := hx n e len k he hlen hk
  dsimp only
  omega

/-- R104: a step carries out one element, or the pair of a PACK or an UNPACK. -/
theorem stepElements_cases (k : Kind) : stepElements k = 1 ∨ (stepElements k = 2 ∧ (k = .pack ∨ k = .unpack)) := by
  cases k <;> simp [stepElements]

/-- R104, R106: the elements of the step a context stands at are elements of its transfer. -/
theorem stepInside_elements {x : Context} (h : stepInside x) : (x.nextStep + 1) * stepElements x.kind ≤ x.count := by
  obtain ⟨hleft, -, hnumber⟩ := h
  cases hd : x.direction with
  | ascending =>
    simp only [hd] at hnumber
    rw [Nat.add_mul]
    omega
  | descending =>
    simp only [hd] at hnumber
    obtain ⟨hkind, hcount⟩ := hnumber
    simp only [hkind, stepElements]
    omega

theorem stepInside_elementsDone_le {x : Context} (h : stepInside x) : x.elementsDone ≤ x.count := by
  have hfits := h.1
  omega

/-- R104, R48: a step reads words of the extents its kind names: an element, the words of a pair, and a residue word for two
elements. -/
theorem stepReads_inside {x : Context} (h : stepInside x) : ∀ p ∈ stepReads x.kind x.nextStep, wordInside x p.1 p.2 := by
  have helements := stepInside_elements h
  unfold wordInside
  cases hk : x.kind with
  | copy | compare | split =>
    simp only [hk, stepElements] at helements
    simp [stepReads, extentLength]
    omega
  | pack | unpack =>
    simp only [hk, stepElements] at helements
    have hpairs := h.2.1 (by simp [hk])
    simp [stepReads, extentLength]
    omega
  | join =>
    simp only [hk, stepElements] at helements
    dsimp only [stepReads]
    split <;> simp [extentLength] <;> omega
  | fill | fence | mark | mapset | maprevert | mapswitch => simp [stepReads]

/-- R104, R48: a step writes words of the extents its kind names. -/
theorem stepWrites_inside {x : Context} (h : stepInside x) (results : List BeatResult) :
    ∀ p ∈ stepWrites x results, wordInside x p.1 p.2.1 := by
  have helements := stepInside_elements h
  unfold wordInside stepWrites
  cases hk : x.kind with
  | copy | fill | join =>
    simp only [hk, stepElements] at helements
    simp [extentLength]
    omega
  | pack | unpack =>
    simp only [hk, stepElements] at helements
    have hpairs := h.2.1 (by simp [hk])
    simp [extentLength]
    omega
  | split =>
    simp only [hk, stepElements] at helements
    dsimp only
    split
    · simp [extentLength]; omega
    · split <;> simp [extentLength] <;> omega
  | compare | fence | mark | mapset | maprevert | mapswitch => simp

theorem readBeats_inside {c : ChannelId} {x : Context} (hx : extentsInside x) (h : stepInside x) :
    ∀ b ∈ readBeats c x, beatInside b := by
  intro b hb
  obtain ⟨p, hp, hbeat⟩ := List.mem_filterMap.1 hb
  exact contextBeat_inside hx (stepReads_inside h p hp) hbeat

theorem writeBeats_inside {c : ChannelId} {x : Context} {results : List BeatResult} (hx : extentsInside x) (h : stepInside x) :
    ∀ b ∈ writeBeats c x results, beatInside b := by
  intro b hb
  obtain ⟨p, hp, hbeat⟩ := List.mem_filterMap.1 hb
  exact contextBeat_inside hx (stepWrites_inside h results p hp) hbeat

/-- R111: the early-end write of a SPLIT lands on the residue word of an element that the transfer has. -/
theorem earlyEndBeats_inside {c : ChannelId} {x : Context} (hx : extentsInside x) (hearly : needsEarlyEnd x = true)
    (hcount : x.kind = .split → x.elementsDone ≤ x.count) : ∀ b ∈ earlyEndBeats c x, beatInside b := by
  intro b hb
  simp only [needsEarlyEnd, Bool.and_eq_true, decide_eq_true_eq] at hearly
  obtain ⟨⟨hkind, hodd⟩, -⟩ := hearly
  have hdone := hcount hkind
  have hword : wordInside x .c (x.elementsDone / 2) := ⟨(x.count + 1) / 2, by simp [hkind, extentLength], by omega⟩
  exact contextBeat_inside hx hword (Option.mem_toList.1 hb)

/-- R106: the step after one that finishes is a step of the transfer while elements are left. -/
theorem stepInside_after {x y : Context} (h : stepInside x) (hkind : y.kind = x.kind) (hcount : y.count = x.count)
    (hdir : y.direction = x.direction) (hnext : y.nextStep = stepAfter x)
    (hdone : y.elementsDone = x.elementsDone + stepElements x.kind) (hleft : y.elementsDone < y.count) : stepInside y := by
  obtain ⟨hfits, heven, hnumber⟩ := h
  rw [hcount, hdone] at hleft
  unfold stepInside
  rw [hkind, hcount, hdir, hnext, hdone]
  cases hd : x.direction with
  | ascending =>
    simp only [hd, stepAfter] at hnumber ⊢
    refine ⟨?_, heven, by rw [Nat.add_mul]; omega⟩
    rcases stepElements_cases x.kind with hone | ⟨htwo, hpair⟩
    · omega
    · have hpairs := heven hpair
      rw [htwo] at hnumber hleft ⊢
      omega
  | descending =>
    simp only [hd, stepAfter] at hnumber ⊢
    obtain ⟨hcopy, hsum⟩ := hnumber
    simp only [hcopy, stepElements] at hleft ⊢
    exact ⟨by omega, by simp, trivial, by omega⟩

/-! ## Channels and arbiters (R103, R134) -/

/-- A RUNNING channel's context lies inside. -/
def channelInside (ch : Channel) : Prop := ∀ x, ch = .running x → contextInside x

/-- The beats that a bank's arbiter holds name words of the bank. -/
def arbiterInside (k : BankId) (a : Arbiter) : Prop :=
  (∀ b, a.inService = some b → b.offset < Config.bankCapacity k) ∧
    ∀ c, ∀ b ∈ waitingOf a c, b.offset < Config.bankCapacity k

theorem beatsInside_iff (s : State) :
    beatsInside s ↔ (∀ c, channelInside (s.channel c)) ∧ ∀ k, arbiterInside k (s.arbiter (.bank k)) := by
  refine and_congr_right fun _ => forall_congr' fun k => ⟨fun h => ⟨fun b hb => h b (.inl hb), fun c b hb => ?_⟩, ?_⟩
  · cases c with
    | c0 => exact h b (.inr (.inl hb))
    | c1 => exact h b (.inr (.inr hb))
  · rintro ⟨hserved, hwaits⟩ b (hb | hb | hb)
    · exact hserved b hb
    · exact hwaits .c0 b hb
    · exact hwaits .c1 b hb

theorem channelInside_running {x : Context} (h : contextInside x) : channelInside (.running x) := by
  intro y hy
  cases hy
  exact h

theorem channelInside_idle : channelInside .idle := fun _ h => by cases h

theorem channelInside_ending (x : Context) : channelInside (.ending x) := fun _ h => by cases h

@[simp] theorem waitingOf_setWaiting (a : Arbiter) (c c' : ChannelId) (bs : List Beat) :
    waitingOf (setWaiting a c bs) c' = if c' = c then bs else waitingOf a c' := by
  cases c <;> cases c' <;> rfl

@[simp] theorem setWaiting_inService (a : Arbiter) (c : ChannelId) (bs : List Beat) :
    (setWaiting a c bs).inService = a.inService := by
  cases c <;> rfl

theorem arbiterInside_setWaiting {k : BankId} {a : Arbiter} (ha : arbiterInside k a) (c : ChannelId) {bs : List Beat}
    (hbs : ∀ b ∈ bs, b.offset < Config.bankCapacity k) : arbiterInside k (setWaiting a c bs) := by
  refine ⟨by simpa using ha.1, fun c' => ?_⟩
  rw [waitingOf_setWaiting]
  split
  · exact hbs
  · exact ha.2 c'

/-- What neither a channel nor an arbiter shows leaves the law alone. -/
theorem beatsInside_congr {s t : State} (hs : beatsInside s) (hchannels : t.channels = s.channels)
    (harbiters : t.ports.arbiters = s.ports.arbiters) : beatsInside t := by
  have hchannel : ∀ c, t.channel c = s.channel c := fun c => by simp [State.channel, hchannels]
  have harbiter : ∀ i, t.arbiter i = s.arbiter i := fun i => by simp [State.arbiter, harbiters]
  rw [beatsInside_iff] at hs ⊢
  simpa only [hchannel, harbiter] using hs

theorem beatsInside_setChannel {s : State} (hs : beatsInside s) (c : ChannelId) {ch : Channel} (hch : channelInside ch) :
    beatsInside (s.setChannel c ch) := by
  rw [beatsInside_iff] at hs ⊢
  refine ⟨fun c' => ?_, hs.2⟩
  by_cases hc : c' = c
  · rw [hc, State.channel_setChannel_same]
    exact hch
  · rw [State.channel_setChannel_other _ _ hc]
    exact hs.1 c'

theorem beatsInside_setArbiter {s : State} (hs : beatsInside s) (i : ArbiterId) {a : Arbiter}
    (ha : ∀ k, i = .bank k → arbiterInside k a) : beatsInside (s.setArbiter i a) := by
  rw [beatsInside_iff] at hs ⊢
  refine ⟨hs.1, fun k => ?_⟩
  by_cases hk : ArbiterId.bank k = i
  · rw [hk, State.arbiter_setArbiter_same]
    exact ha k hk.symm
  · rw [State.arbiter_setArbiter_other _ _ hk]
    exact hs.2 k

theorem beatsInside_countConflict {s : State} (hs : beatsInside s) (c : ChannelId) : beatsInside (s.countConflict c) := by
  unfold State.countConflict
  split
  · exact hs
  · next x hx => exact beatsInside_setChannel hs c (channelInside_running (hs.1 c x hx))
  · exact beatsInside_setChannel hs c (channelInside_ending _)

theorem beatsInside_countConflicts {s : State} (hs : beatsInside s) (c : ChannelId) (n : Nat) :
    beatsInside (s.countConflicts c n) := by
  induction n generalizing s with
  | zero => exact hs
  | succ n ih => exact ih (beatsInside_countConflict hs c)

/-! ## Requests and grants (R133, R134) -/

theorem arbiterOf_eq_bank {target : Target} {k : BankId} (h : arbiterOf target = .bank k) : target = .bank k := by
  cases target with
  | bank b => cases h; rfl
  | device d => cases h

/-- R133: a requested beat that names a word of its bank waits beside beats that do. -/
theorem beatsInside_requestBeat {s : State} {b : Beat} (hs : beatsInside s) (hb : beatInside b) : beatsInside (s.requestBeat b) := by
  have hwaits : beatsInside (s.setArbiter (arbiterOf b.target) (setWaiting (s.arbiter (arbiterOf b.target)) b.channel
      (waitingOf (s.arbiter (arbiterOf b.target)) b.channel ++
        [{ b with counted := (s.arbiter (arbiterOf b.target)).inService.isSome }]))) := by
    refine beatsInside_setArbiter hs _ fun k hk => ?_
    have harbiter := ((beatsInside_iff s).1 hs).2 k
    rw [hk]
    refine arbiterInside_setWaiting harbiter _ fun m hm => ?_
    rcases List.mem_append.1 hm with hm | hm
    · exact harbiter.2 _ m hm
    · rw [List.mem_singleton.1 hm]
      exact hb k (arbiterOf_eq_bank hk)
  unfold State.requestBeat
  dsimp only
  split
  · exact beatsInside_countConflict hwaits _
  · exact hwaits

theorem beatsInside_requestBeats {s : State} {bs : List Beat} (hs : beatsInside s) (hbs : ∀ b ∈ bs, beatInside b) :
    beatsInside (s.requestBeats bs) := by
  unfold State.requestBeats
  induction bs generalizing s with
  | nil => exact hs
  | cons b rest ih =>
    exact ih (beatsInside_requestBeat hs (hbs b List.mem_cons_self)) fun m hm => hbs m (List.mem_cons_of_mem _ hm)

/-- R134, R135: an arbiter that has granted the first waiting beat of a channel. -/
def grantedArbiter (a : Arbiter) (c : ChannelId) : Arbiter where
  inService := (waitingOf a c).head?
  waitC0 := countAll (setWaiting a c (waitingOf a c).tail).waitC0
  waitC1 := countAll (setWaiting a c (waitingOf a c).tail).waitC1
  lastGranted := c

theorem waitingOf_grantedArbiter (a : Arbiter) (c c' : ChannelId) :
    waitingOf (grantedArbiter a c) c' = countAll (waitingOf (setWaiting a c (waitingOf a c).tail) c') := by
  cases c' <;> rfl

/-- R134: the granted beat and those that still wait stood at the arbiter before. -/
theorem arbiterInside_grantedArbiter {k : BankId} {a : Arbiter} (ha : arbiterInside k a) (c : ChannelId) :
    arbiterInside k (grantedArbiter a c) := by
  have hrest := arbiterInside_setWaiting ha c fun b hb => ha.2 c b (List.mem_of_mem_tail hb)
  refine ⟨fun b hb => ha.2 c b (List.mem_of_mem_head? hb), fun c' b hb => ?_⟩
  rw [waitingOf_grantedArbiter] at hb
  obtain ⟨m, hm, rfl⟩ := List.mem_map.1 hb
  exact hrest.2 c' m hm

theorem beatsInside_grantBeat {s : State} (hs : beatsInside s) (i : ArbiterId) : beatsInside (s.grantBeat i) := by
  unfold State.grantBeat
  dsimp only
  split
  · exact hs
  · next c _ =>
    have harbiter : beatsInside (s.setArbiter i (grantedArbiter (s.arbiter i) c)) :=
      beatsInside_setArbiter hs i fun k hk => by
        rw [hk]
        exact arbiterInside_grantedArbiter (((beatsInside_iff s).1 hs).2 k) c
    have hcounted := fun m n => beatsInside_countConflicts (beatsInside_countConflicts harbiter .c0 m) .c1 n
    split
    · exact beatsInside_congr (hcounted _ _) rfl rfl
    · exact hcounted _ _

theorem beatsInside_freeArbiter {s : State} (hs : beatsInside s) (i : ArbiterId) : beatsInside (s.freeArbiter i) :=
  beatsInside_setArbiter hs i fun k hk => by
    rw [hk]
    exact ⟨fun _ hb => (by cases hb), (((beatsInside_iff s).1 hs).2 k).2⟩

theorem beatsInside_freeXPort {s : State} (hs : beatsInside s) : beatsInside s.freeXPort :=
  beatsInside_congr (beatsInside_freeArbiter hs .xPort) rfl rfl

/-! ## The steps of a channel (R104 to R112) -/

theorem mem_of_mem_firstBeats {seen : List ExtentName} {bs : List Beat} {b : Beat} (h : b ∈ firstBeats seen bs) : b ∈ bs := by
  induction bs generalizing seen with
  | nil => exact h
  | cons m rest ih =>
    unfold firstBeats at h
    split at h
    · exact List.mem_cons_of_mem _ (ih h)
    · rcases List.mem_cons.1 h with rfl | h
      · exact List.mem_cons_self
      · exact List.mem_cons_of_mem _ (ih h)

theorem mem_of_mem_laterBeats {seen : List ExtentName} {bs : List Beat} {b : Beat} (h : b ∈ laterBeats seen bs) : b ∈ bs := by
  induction bs generalizing seen with
  | nil => exact h
  | cons m rest ih =>
    unfold laterBeats at h
    split at h
    · rcases List.mem_cons.1 h with rfl | h
      · exact List.mem_cons_self
      · exact List.mem_cons_of_mem _ (ih h)
    · exact List.mem_cons_of_mem _ (ih h)

/-- R105: the beats of a phase are requested at once or stand in the context for later. -/
theorem beatsInside_beginPhase {s : State} {c : ChannelId} {x : Context} {phase : StepPhase} {results : List BeatResult}
    {beats : List Beat} (hs : beatsInside s) (hx : extentsInside x) (hbeats : ∀ b ∈ beats, beatInside b)
    (hstep : phase ≠ .earlyEnd → stepInside x) : beatsInside (s.beginPhase c x phase results beats) := by
  refine beatsInside_requestBeats (beatsInside_setChannel hs c (channelInside_running ?_))
    fun b hb => hbeats b (mem_of_mem_firstBeats hb)
  refine (contextInside_iff _).2 ⟨hx, fun run hrun => ?_⟩
  cases hrun
  exact ⟨fun m hm => hbeats m (mem_of_mem_laterBeats hm), hstep⟩

theorem beatsInside_beginStep {s : State} {x : Context} (c : ChannelId) (hs : beatsInside s) (hx : extentsInside x)
    (hstep : stepInside x) : beatsInside (s.beginStep c x) := by
  unfold State.beginStep
  split
  · exact beatsInside_beginPhase hs hx (writeBeats_inside hx hstep) fun _ => hstep
  · exact beatsInside_beginPhase hs hx (readBeats_inside hx hstep) fun _ => hstep

/-- R107, R111: of the ways a transfer ends, only the early end of a SPLIT makes a beat. -/
theorem beatsInside_endTransfer {s : State} {x : Context} (c : ChannelId) (st : Status) (d : Detail) (hs : beatsInside s)
    (hx : extentsInside x) (hcount : x.kind = .split → x.elementsDone ≤ x.count) : beatsInside (s.endTransfer c x st d) := by
  unfold State.endTransfer
  dsimp only
  split
  · exact beatsInside_setChannel hs c (channelInside_running (contextInside_of_no_step hx rfl))
  · split
    · next hearly =>
      have hbeats := earlyEndBeats_inside (c := c) (x := { x with ending := some ⟨st, d⟩, step := none }) hx hearly hcount
      exact beatsInside_beginPhase hs hx hbeats fun hphase => absurd rfl hphase
    · exact beatsInside_setChannel hs c (channelInside_ending _)

/-- R106: a step boundary leads to the next step only while elements are left for it. -/
theorem beatsInside_stepBoundary {s : State} {x : Context} (c : ChannelId) (hs : beatsInside s) (hx : extentsInside x)
    (hcount : x.elementsDone ≤ x.count) (hstep : x.elementsDone < x.count → stepInside x) : beatsInside (s.stepBoundary c x) := by
  unfold State.stepBoundary
  split
  · exact beatsInside_setChannel hs c (channelInside_running (contextInside_of_no_step hx rfl))
  · split
    · exact beatsInside_endTransfer c _ _ hs hx fun _ => hcount
    · next hleft =>
      split
      · exact beatsInside_endTransfer c _ _ hs hx fun _ => hcount
      · exact beatsInside_beginStep c hs hx (hstep (by omega))

theorem beatsInside_finishStep {s : State} {x : Context} (c : ChannelId) (residue : Option W16) (hs : beatsInside s)
    (hx : extentsInside x) (hstep : stepInside x) : beatsInside (s.finishStep c x residue) :=
  beatsInside_stepBoundary c hs hx hstep.1 (stepInside_after hstep rfl rfl rfl rfl rfl)

/-- R105, R108 to R110: after the reads of a step come its writes, or the step or the transfer ends. -/
theorem beatsInside_readsEnded {s : State} {x : Context} (c : ChannelId) (results : List BeatResult) (hs : beatsInside s)
    (hx : extentsInside x) (hstep : stepInside x) : beatsInside (s.readsEnded c x results) := by
  have hcount := stepInside_elementsDone_le hstep
  have hwrites : beatsInside (s.beginPhase c x .writes results (writeBeats c x results)) :=
    beatsInside_beginPhase hs hx (writeBeats_inside hx hstep) fun _ => hstep
  unfold State.readsEnded
  dsimp only
  split
  · exact beatsInside_endTransfer c _ _ hs hx fun _ => hcount
  · split
    · next hkind =>
      split
      · exact beatsInside_finishStep c _ hs hx hstep
      · exact beatsInside_endTransfer c _ _ hs hx fun hsplit => by cases hkind.symm.trans hsplit
    · split
      · exact beatsInside_endTransfer c _ _ hs hx fun _ => hcount
      · exact hwrites
    all_goals exact hwrites

/-- R111: a failed write lowers the elements done at most. -/
theorem contextAfterFailedWrite_inside {x : Context} (results : List BeatResult) (hx : extentsInside x)
    (hcount : x.elementsDone ≤ x.count) :
    extentsInside (contextAfterFailedWrite x results) ∧
      (contextAfterFailedWrite x results).elementsDone ≤ (contextAfterFailedWrite x results).count := by
  unfold contextAfterFailedWrite
  split
  · split
    · exact ⟨hx, (Nat.sub_le _ _).trans hcount⟩
    · exact ⟨hx, hcount⟩
  · exact ⟨hx, hcount⟩

/-- R105, R110, R111: after the writes of a step it finishes, or the transfer ends. -/
theorem beatsInside_writesEnded {s : State} {x : Context} (c : ChannelId) (results : List BeatResult) (hs : beatsInside s)
    (hx : extentsInside x) (hstep : stepInside x) : beatsInside (s.writesEnded c x results) := by
  have hcount := stepInside_elementsDone_le hstep
  unfold State.writesEnded
  split
  · split
    · exact beatsInside_endTransfer c _ _ hs hx fun _ => hcount
    · obtain ⟨hx', hcount'⟩ := contextAfterFailedWrite_inside results hx hcount
      exact beatsInside_endTransfer c _ _ hs hx' fun _ => hcount'
  · exact beatsInside_finishStep c _ hs hx hstep

theorem beatsInside_earlyEnded {s : State} {x : Context} (c : ChannelId) (results : List BeatResult) (hs : beatsInside s)
    (hx : extentsInside x) : beatsInside (s.earlyEnded c x results) := by
  unfold State.earlyEnded
  dsimp only
  refine beatsInside_setChannel hs c ?_
  split
  · refine channelInside_running (contextInside_of_no_step ?_ rfl)
    split <;> exact hx
  · exact channelInside_ending _

theorem beatsInside_phaseEnded {s : State} {x : Context} (c : ChannelId) {run : StepRun} (hs : beatsInside s)
    (hx : extentsInside x) (hstep : run.phase ≠ .earlyEnd → stepInside x) : beatsInside (s.phaseEnded c x run) := by
  unfold State.phaseEnded
  split
  · next hphase => exact beatsInside_readsEnded c _ hs hx (hstep (by simp [hphase]))
  · next hphase => exact beatsInside_writesEnded c _ hs hx (hstep (by simp [hphase]))
  · exact beatsInside_earlyEnded c _ hs hx

/-- R105, R133: the beats that a returned beat leads to are those still to come in its step, or those of the next phase or step. -/
theorem beatsInside_beatReturns {s : State} (b : Beat) (o : BeatOutcome) (hs : beatsInside s) : beatsInside (s.beatReturns b o) := by
  unfold State.beatReturns
  split
  · next x hx =>
    obtain ⟨hextents, hrun⟩ := (contextInside_iff x).1 (hs.1 _ x hx)
    split
    · next run hstep =>
      obtain ⟨hlater, hphase⟩ := hrun run hstep
      dsimp only
      split
      · next n hn =>
        refine beatsInside_requestBeat (beatsInside_setChannel hs _ (channelInside_running ?_))
          (hlater n (List.mem_of_find?_eq_some hn))
        refine (contextInside_iff _).2 ⟨hextents, fun run' hrun' => ?_⟩
        cases hrun'
        exact ⟨fun m hm => hlater m (List.mem_of_mem_erase hm), hphase⟩
      · split
        · exact beatsInside_phaseEnded _ hs hextents hphase
        · refine beatsInside_setChannel hs _ (channelInside_running ((contextInside_iff _).2 ⟨hextents, fun run' hrun' => ?_⟩))
          cases hrun'
          exact ⟨hlater, hphase⟩
    · exact hs
  · exact hs
  · exact hs

/-! ## The taking of a transfer (R99, R102) -/

theorem resolveAll_eq_ok {t : WindowTable} {profiles : PerDevice (Option Profile)} {k : Kind} {x : Record} {y : ResolvedExtents}
    (h : resolveAll t profiles k x = .ok y) (n : ExtentName) : resolveOne t profiles k x n = .ok (resolvedOf y n) := by
  unfold resolveAll at h
  split at h
  · cases h
  · next ha =>
    split at h
    · cases h
    · next hb =>
      split at h
      · cases h
      · next hc =>
        cases h
        cases n with
        | a => exact ha
        | b => exact hb
        | c => exact hc

/-- R11, R12: an extent that a record's checks found is what its words resolve to. -/
theorem resolve_of_resolveOne {t : WindowTable} {profiles : PerDevice (Option Profile)} {k : Kind} {x : Record} {n : ExtentName}
    {e : Extent} {wp : Bool} {len : Nat} (h : resolveOne t profiles k x n = .ok (some (e, wp)))
    (hlen : extentLength k x.count.toNat n = some len) : resolve t profiles (recordAddress x n) len = .found e wp := by
  unfold resolveOne at h
  rw [hlen] at h
  dsimp only at h
  split at h
  · next hfound =>
    cases h
    exact hfound
  · cases h
  · cases h

/-- R48: a kind's extents have a word when the count is above 0. -/
theorem extentLength_pos {k : Kind} {n len : Nat} {x : ExtentName} (h : extentLength k n x = some len) (hn : 0 < n) : 0 < len := by
  unfold extentLength at h
  split at h <;> cases h <;> omega

/-- R45: PACK and UNPACK count in pairs. -/
theorem even_of_countAllowed {k : Kind} {n : Nat} (h : countAllowed k n = true) (hk : k = .pack ∨ k = .unpack) : n % 2 = 0 := by
  rcases hk with rfl | rfl <;> simpa [countAllowed, stepElements] using (Bool.and_eq_true_iff.1 h).2

/-- R95: only a COPY is DESCENDING. -/
theorem copy_of_directionOf_descending {k : Kind} {y : ResolvedExtents} (h : directionOf k y = .descending) : k = .copy := by
  unfold directionOf at h
  split at h
  · split at h
    · next hcopy => exact hcopy.1
    · cases h
  · cases h

/-- R7, R102: the extents of a transfer taken through a table of valid entries lie inside their banks. -/
theorem extentsInside_contextAtTaking {s u : State} {r : RingId} {p : Prefetched} {k : Kind} {y : ResolvedExtents} {d : Direction}
    (hvalid : ∀ i, windowValid s.ports.profiles (entryAt s.map.current i) = true) (hcount : 0 < p.record.count.toNat)
    (hy : resolveAll s.map.current s.ports.profiles k p.record = .ok y) :
    extentsInside (contextAtTaking u r p k (extentOf y .a) (extentOf y .b) (extentOf y .c) d) := by
  intro n e len b he hlen hb
  have hextent : extentOf y n = some e := by cases n <;> exact he
  obtain ⟨⟨_, wp⟩, hresolved, rfl⟩ := Option.map_eq_some_iff.1 hextent
  have hone := resolveAll_eq_ok hy n
  rw [hresolved] at hone
  exact resolve_found_inside hvalid (extentLength_pos hlen hcount) (resolve_of_resolveOne hone hlen) hb

/-- R104: a transfer taken stands at the first step in its direction. -/
theorem stepInside_contextAtTaking {u : State} {r : RingId} {p : Prefetched} {k : Kind} {a b c : Option Extent} {d : Direction}
    (hallowed : countAllowed k p.record.count.toNat = true) (hcount : 0 < p.record.count.toNat)
    (hdir : d = .descending → k = .copy) : stepInside (contextAtTaking u r p k a b c d) := by
  have heven := even_of_countAllowed hallowed
  have hfits : 0 + stepElements k ≤ p.record.count.toNat := by
    rcases stepElements_cases k with hone | ⟨htwo, hpair⟩
    · omega
    · have hpairs := heven hpair
      omega
  refine ⟨hfits, heven, ?_⟩
  cases d with
  | ascending => simp [contextAtTaking, firstStep]
  | descending =>
    have hcopy := hdir rfl
    subst hcopy
    simp only [contextAtTaking, firstStep, stepElements, true_and]
    omega

/-- Of the records an examination carries out, only a transfer reaches a channel and an arbiter. -/
theorem beatsInside_carryOut {s u : State} {r : RingId} {p : Prefetched} {plan : Plan} (hs : beatsInside u)
    (hvalid : ∀ i, windowValid s.ports.profiles (entryAt s.map.current i) = true)
    (hplan : plan = validate s.map s.ports.profiles p.record) : beatsInside (u.carryOut r p plan) := by
  cases plan with
  | transfer k a b c d =>
    obtain ⟨hallowed, hcount, y, hy, rfl, rfl, rfl, rfl⟩ := validate_eq_transfer hplan.symm
    exact beatsInside_beginStep _ (beatsInside_congr hs (by simp) (by simp)) (extentsInside_contextAtTaking hvalid hcount hy)
      (stepInside_contextAtTaking hallowed hcount copy_of_directionOf_descending)
  | mapswitch =>
    refine beatsInside_congr hs ?_ ?_ <;> simp only [State.carryOut] <;> split <;> simp
  | refuse | complete | mapset | maprevert => exact beatsInside_congr hs (by simp [State.carryOut]) (by simp [State.carryOut])

theorem beatsInside_examine {s : State} (ht : tablesValid s) (hs : beatsInside s) : beatsInside s.examine := by
  rcases s.examine_cases with ⟨-, he⟩ | ⟨r, p, plan, -, hv, he⟩
  · rw [he]
    exact beatsInside_congr hs (by simp) (by simp)
  · obtain ⟨-, -, hpart, -, -, hplan, -, -⟩ := verdict_eq_eligible hv
    have hvalid := fun i => (ht.2.2 (by simp [hpart]) (by simp [hpart]) (by simp [hpart]) i).1
    have htaken : beatsInside (s.setWaits.takeHead r) := beatsInside_congr hs (by simp) (by simp)
    have hcarried : beatsInside ((s.setWaits.takeHead r).carryOut r p plan) := beatsInside_carryOut htaken hvalid hplan
    rw [he]
    exact beatsInside_congr hcarried rfl rfl

/-! ## Every command -/

/-- R115, R137: a reset leaves every channel IDLE and every arbiter empty. -/
theorem beatsInside_of_ports_reset {t : State} (hchannels : t.channels = PerChannel.all .idle) (hports : t.ports = Ports.reset) :
    beatsInside t := by
  refine (beatsInside_iff t).2 ⟨fun c => ?_, fun k => ?_⟩
  · simp only [State.channel, hchannels, PerChannel.get_all]
    exact channelInside_idle
  · simp only [State.arbiter, hports, Ports.reset, PerArbiter.get_all]
    exact ⟨fun _ hb => (by cases hb), fun c _ hb => by cases c <;> cases hb⟩

theorem channelInside_flagAbort {ch : Channel} (h : channelInside ch) : channelInside ch.flagAbort := by
  cases ch with
  | idle => exact channelInside_idle
  | running x => exact channelInside_running (h x rfl)
  | ending x => exact channelInside_ending x

theorem beatsInside_execBeatGrant {i : ArbiterId} {ws : List OutsideWrite} {s t : State} (hs : beatsInside s)
    (h : execBeatGrant i ws s = .next t) : beatsInside t := by
  unfold execBeatGrant at h
  split at h
  · cases h
    exact hs
  · split at h
    · cases h
      exact beatsInside_grantBeat hs _
    · split at h
      · cases h
      · next b _ _ m _ =>
        cases h
        have hbank : beatsInside (s.setBank b m) := beatsInside_congr hs rfl rfl
        exact beatsInside_grantBeat hbank _

theorem beatsInside_execBeatEnd {b : BankId} {s t : State} (hs : beatsInside s) (h : execBeatEnd b s = .next t) :
    beatsInside t := by
  unfold execBeatEnd at h
  split at h
  · cases h
    exact hs
  · split at h
    · cases h
      have hfree := beatsInside_freeArbiter hs (.bank b)
      split
      · exact beatsInside_beatReturns _ _ (beatsInside_congr hfree rfl rfl)
      · exact beatsInside_beatReturns _ _ hfree
    · cases h

theorem beatsInside_execReady {d : DeviceId} {v : W24} {s t : State} (hs : beatsInside s) (h : execReady d v s = .next t) :
    beatsInside t := by
  unfold execReady at h
  split at h
  · cases h
    exact hs
  · cases h
    split
    · exact beatsInside_beatReturns _ _ (beatsInside_freeXPort hs)
    · exact hs

theorem beatsInside_execReadyTimeout {s t : State} (hs : beatsInside s) (h : execReadyTimeout s = .next t) : beatsInside t := by
  unfold execReadyTimeout at h
  split at h
  · cases h
    exact hs
  · cases h
    exact beatsInside_beatReturns _ _ (beatsInside_freeXPort hs)

/-- Every command keeps the beats inside, where the tables it resolves through are valid. -/
theorem exec_beatsInside (c : Instr) (s t : State) (ht : tablesValid s) (hs : beatsInside s) (h : exec c s = .next t) :
    beatsInside t := by
  cases c with
  | powerOnReset | softReset =>
    cases h
    exact beatsInside_of_ports_reset rfl rfl
  | abort m =>
    obtain ⟨u, hu, -, hports, hchannels⟩ := execAbort_leaves m s
    cases hu.symm.trans h
    rw [beatsInside_iff] at hs ⊢
    refine ⟨fun c => ?_, fun k => by simpa [State.arbiter, hports] using hs.2 k⟩
    rcases hchannels c with hc | hc <;> rw [hc]
    · exact hs.1 c
    · exact channelInside_flagAbort (hs.1 c)
  | setupLoadEnd host ok =>
    obtain ⟨u, hu, hleaves | ⟨b, v, hleaves, -, -, rfl⟩⟩ := execSetupLoadEnd_cases host ok s
    · cases hu.symm.trans h
      exact beatsInside_congr hs hleaves.channels (by rw [hleaves.ports])
    · cases hu.symm.trans h
      exact beatsInside_congr hs (by simp [hleaves.channels]) (by simp [State.finishLoad, hleaves.ports])
  | examination =>
    cases h
    split
    · exact hs
    · exact beatsInside_examine ht hs
  | beatGrant i ws => exact beatsInside_execBeatGrant hs h
  | beatEnd b => exact beatsInside_execBeatEnd hs h
  | ready d v => exact beatsInside_execReady hs h
  | readyTimeout => exact beatsInside_execReadyTimeout hs h
  | handOff c =>
    obtain ⟨u, hu, -, hports, hchannels | hchannels⟩ := execHandOff_leaves c s
    · cases hu.symm.trans h
      exact beatsInside_congr hs hchannels (by rw [hports])
    · cases hu.symm.trans h
      exact beatsInside_congr (beatsInside_setChannel hs c channelInside_idle) hchannels (by rw [hports]; rfl)
  | _ =>
    have hleaves := leavesTransfers_of_exec rfl h
    exact beatsInside_congr hs hleaves.channels (by rw [hleaves.ports])

/-- R2: where the beats lie inside, a command of the table meets no word that its bank does not have. -/
theorem exec_next_of_beatsInside {c : Instr} {s : State} (hs : beatsInside s) (hc : c.wf = true) : ∃ t, exec c s = .next t := by
  rcases onlyAbsentWordsFault c s with ⟨t, ht, -⟩ | ⟨-, ⟨b, ws, rfl, -, w, hw, hoff⟩ | ⟨b, beat, -, hbeat, hoff⟩⟩
  · exact ⟨t, ht⟩
  · have hwf := List.all_eq_true.1 hc w hw
    simp only [OutsideWrite.wf, Bool.and_eq_true, decide_eq_true_eq] at hwf
    omega
  · have hlt := hs.2 b beat (.inl hbeat)
    omega

/-- Settles O53: the entries of the tables are written valid, the extents resolved through them lie inside their banks, and with them
every beat of every step. -/
theorem tablesAndBeatsStayInside : Obligations.TablesAndBeatsStayInside := by
  refine ⟨step_keeps (fun _ _ hs => hs) exec_tablesValid, fun s t ht hs h => ?_, fun c s hs hc => exec_next_of_beatsInside hs hc⟩
  have hboth := step_keeps (P := fun s => tablesValid s ∧ beatsInside s) (fun _ _ hs => hs)
    (fun c s t hs h => ⟨exec_tablesValid c s t hs.1 h, exec_beatsInside c s t hs.1 hs.2 h⟩) s t ⟨ht, hs⟩ h
  exact hboth.2

end Sys2Proof.Machine

/-! Map generations (chapter 2): the generations the channels are bound to, and what leaves them. -/

namespace Sys2Proof.Machine

/-! ## What the channels are bound to (R26) -/

/-- The generation that the transfer on a channel is bound to; an IDLE channel has none. -/
def Channel.binding (ch : Channel) : Option (BitVec 8) := ch.context.map (·.generation)

@[simp] theorem Channel.binding_idle : Channel.idle.binding = none := rfl
@[simp] theorem Channel.binding_running (x : Context) : (Channel.running x).binding = some x.generation := rfl
@[simp] theorem Channel.binding_ending (x : Context) : (Channel.ending x).binding = some x.generation := rfl

theorem Channel.isIdle_eq_binding (ch : Channel) : ch.isIdle = ch.binding.isNone := by
  cases ch <;> rfl

@[simp] theorem Channel.binding_flagAbort (ch : Channel) : ch.flagAbort.binding = ch.binding := by
  cases ch <;> rfl

@[simp] theorem PerChannel.set_set {α : Type} (p : PerChannel α) (c : ChannelId) (a b : α) : (p.set c a).set c b = p.set c b := by
  cases c <;> rfl

/-- What both channels are bound to. -/
def State.bindings (s : State) : PerChannel (Option (BitVec 8)) := ⟨s.channels.c0.binding, s.channels.c1.binding⟩

theorem State.bindings_get (s : State) (c : ChannelId) : s.bindings.get c = (s.channel c).binding := by
  cases c <;> rfl

theorem State.bindings_get_ending {s : State} {c : ChannelId} {x : Context} (h : s.channel c = .ending x) :
    s.bindings.get c = some x.generation := by
  rw [State.bindings_get, h]
  rfl

theorem State.bindings_congr {s t : State} (h : t.channels = s.channels) : t.bindings = s.bindings := by
  simp [State.bindings, h]

theorem State.bindings_of_set {s t : State} {c : ChannelId} {ch : Channel} (h : t.channels = s.channels.set c ch) :
    t.bindings = s.bindings.set c ch.binding := by
  unfold State.bindings
  rw [h]
  cases c <;> rfl

@[simp] theorem State.setChannel_bindings (s : State) (c : ChannelId) (ch : Channel) :
    (s.setChannel c ch).bindings = s.bindings.set c ch.binding :=
  State.bindings_of_set rfl

/-- A channel that goes on with its transfer stays bound to its generation. -/
theorem State.bindings_set_self {s : State} {c : ChannelId} {g : Option (BitVec 8)} (h : (s.channel c).binding = g) :
    s.bindings.set c g = s.bindings := by
  rw [← h, ← State.bindings_get, PerChannel.set_get]

theorem channelsIdle_eq_bindings (s : State) : channelsIdle s = (s.bindings.c0.isNone && s.bindings.c1.isNone) := by
  simp only [channelsIdle, Channel.isIdle_eq_binding, State.bindings]

/-! ## The bindings under the operations of the channels and arbiters -/

@[simp] theorem State.setArbiter_bindings (s : State) (i : ArbiterId) (a : Arbiter) : (s.setArbiter i a).bindings = s.bindings := rfl

@[simp] theorem State.setBank_bindings (s : State) (b : BankId) (m : BankMemory) : (s.setBank b m).bindings = s.bindings := rfl

@[simp] theorem State.freeArbiter_bindings (s : State) (i : ArbiterId) : (s.freeArbiter i).bindings = s.bindings := rfl

@[simp] theorem State.freeXPort_bindings (s : State) : s.freeXPort.bindings = s.bindings := rfl

@[simp] theorem State.flagAborts_bindings (s : State) : s.flagAborts.bindings = s.bindings := by
  simp [State.bindings, State.flagAborts]

@[simp] theorem State.countConflict_bindings (s : State) (c : ChannelId) : (s.countConflict c).bindings = s.bindings := by
  unfold State.countConflict
  split
  · rfl
  · next x hx =>
    rw [State.setChannel_bindings]
    exact State.bindings_set_self (by rw [hx]; rfl)
  · next x hx =>
    rw [State.setChannel_bindings]
    exact State.bindings_set_self (by rw [hx]; rfl)

@[simp] theorem State.countConflicts_bindings (s : State) (c : ChannelId) (n : Nat) :
    (s.countConflicts c n).bindings = s.bindings := by
  induction n generalizing s with
  | zero => rfl
  | succ n ih => simp [State.countConflicts, ih]

@[simp] theorem State.grantBeat_bindings (s : State) (i : ArbiterId) : (s.grantBeat i).bindings = s.bindings := by
  have hcounted (a : Arbiter) (m n : Nat) :
      (((s.setArbiter i a).countConflicts .c0 m).countConflicts .c1 n).bindings = s.bindings := by simp
  unfold State.grantBeat
  dsimp only
  split
  · rfl
  · split
    · exact (State.bindings_congr rfl).trans (hcounted _ _ _)
    · exact hcounted _ _ _

@[simp] theorem State.requestBeat_bindings (s : State) (b : Beat) : (s.requestBeat b).bindings = s.bindings := by
  unfold State.requestBeat
  dsimp only
  split <;> simp

@[simp] theorem State.requestBeats_bindings (s : State) (bs : List Beat) : (s.requestBeats bs).bindings = s.bindings := by
  unfold State.requestBeats
  induction bs generalizing s with
  | nil => rfl
  | cons b rest ih => simp [ih]

/-! A channel that goes on with a context is bound to the context's generation, whatever its step comes to. -/

@[simp] theorem State.beginPhase_bindings (s : State) (c : ChannelId) (x : Context) (p : StepPhase) (rs : List BeatResult)
    (bs : List Beat) : (s.beginPhase c x p rs bs).bindings = s.bindings.set c (some x.generation) := by
  simp [State.beginPhase]

@[simp] theorem State.beginStep_bindings (s : State) (c : ChannelId) (x : Context) :
    (s.beginStep c x).bindings = s.bindings.set c (some x.generation) := by
  unfold State.beginStep
  split <;> simp

@[simp] theorem State.endTransfer_bindings (s : State) (c : ChannelId) (x : Context) (st : Status) (d : Detail) :
    (s.endTransfer c x st d).bindings = s.bindings.set c (some x.generation) := by
  unfold State.endTransfer
  dsimp only
  split
  · simp
  · split <;> simp

@[simp] theorem State.stepBoundary_bindings (s : State) (c : ChannelId) (x : Context) :
    (s.stepBoundary c x).bindings = s.bindings.set c (some x.generation) := by
  unfold State.stepBoundary
  split
  · simp
  · split
    · simp
    · split <;> simp

@[simp] theorem State.finishStep_bindings (s : State) (c : ChannelId) (x : Context) (w : Option W16) :
    (s.finishStep c x w).bindings = s.bindings.set c (some x.generation) := by
  simp [State.finishStep]

@[simp] theorem State.failStep_bindings (s : State) (c : ChannelId) (x : Context) (f : BeatResult) :
    (s.failStep c x f).bindings = s.bindings.set c (some x.generation) := by
  simp [State.failStep]

@[simp] theorem contextAfterFailedWrite_generation (x : Context) (rs : List BeatResult) :
    (contextAfterFailedWrite x rs).generation = x.generation := by
  unfold contextAfterFailedWrite
  split
  · split <;> rfl
  · rfl

@[simp] theorem State.readsEnded_bindings (s : State) (c : ChannelId) (x : Context) (rs : List BeatResult) :
    (s.readsEnded c x rs).bindings = s.bindings.set c (some x.generation) := by
  unfold State.readsEnded
  dsimp only
  split
  · simp
  · split
    · split <;> simp
    · split <;> simp
    all_goals simp

@[simp] theorem State.writesEnded_bindings (s : State) (c : ChannelId) (x : Context) (rs : List BeatResult) :
    (s.writesEnded c x rs).bindings = s.bindings.set c (some x.generation) := by
  unfold State.writesEnded
  split
  · split <;> simp
  · simp

@[simp] theorem State.earlyEnded_bindings (s : State) (c : ChannelId) (x : Context) (rs : List BeatResult) :
    (s.earlyEnded c x rs).bindings = s.bindings.set c (some x.generation) := by
  unfold State.earlyEnded
  rw [State.setChannel_bindings]
  split <;> split <;> rfl

@[simp] theorem State.phaseEnded_bindings (s : State) (c : ChannelId) (x : Context) (run : StepRun) :
    (s.phaseEnded c x run).bindings = s.bindings.set c (some x.generation) := by
  unfold State.phaseEnded
  split <;> simp

/-- R103: a returned beat moves its transfer on and binds nothing else. -/
@[simp] theorem State.beatReturns_bindings (s : State) (b : Beat) (o : BeatOutcome) : (s.beatReturns b o).bindings = s.bindings := by
  unfold State.beatReturns
  split
  · next x hx =>
    have hself : s.bindings.set b.channel (some x.generation) = s.bindings := State.bindings_set_self (by rw [hx]; rfl)
    split
    · dsimp only
      split
      · simp [hself]
      · split <;> simp [hself]
    · rfl
  · rfl
  · rfl

end Sys2Proof.Machine

/-! What the commands leave of the Map Unit, the bindings and the drain of the part (R22, R26, R169). -/

namespace Sys2Proof.Machine

/-! ## The commands that leave the bindings -/

/-- R169 to R171: the part does not enter QUIESCING, ABORTING or QUIESCED. -/
def drainKept (p q : PartState) : Prop := q = p ∨ (q ≠ .quiescing ∧ q ≠ .aborting ∧ q ≠ .quiesced)

/-- The command leaves the Map Unit and what the channels are bound to, and begins and ends no drain. -/
structure LeavesBindings (s t : State) : Prop where
  map : t.map = s.map
  bindings : t.bindings = s.bindings
  part : drainKept s.control.part t.control.part

theorem LeavesBindings.refl (s : State) : LeavesBindings s s := ⟨rfl, rfl, .inl rfl⟩

/-- R164: of the commands that leave the transfers, only a QUIESCE begins a drain. -/
theorem exec_drainKept {c : Instr} {s t : State} (hc : reachesTransfers c = false) (hquiesce : ∀ m, c ≠ .quiesce m)
    (h : exec c s = .next t) : drainKept s.control.part t.control.part := by
  cases c with
  | enable m =>
    cases h
    simp only [State.beginLoad]
    split_ifs <;> simp [drainKept, State.failLoad]
  | resume m =>
    cases h
    split_ifs <;> simp [drainKept]
  | quiesce m => exact absurd rfl (hquiesce m)
  | mailboxFault =>
    simp only [exec, execMailboxFault] at h
    split at h
    · cases h; exact .inl rfl
    · cases h
      split_ifs <;> simp [drainKept, State.halt]
  | stop r | flush r | ringResume r | ringReset r | post r n | ack r n | fetchRequest r | mPortGrant =>
    cases h
    refine .inl ?_
    split_ifs <;> simp
  | holdoffExpiry q =>
    cases h
    refine .inl ?_
    split <;> rfl
  | flushDisposal r =>
    cases h
    refine .inl ?_
    split
    · rfl
    · dsimp only
      split_ifs <;> simp
  | controlMaskWrite | controlUnknownCommand | select | ringctlUnknownCommand | setupWrite | statusWrite | intstatWrite =>
    cases h
    exact .inl rfl
  | fetchComplete host ok =>
    simp only [exec, execFetchComplete] at h
    split at h
    · cases h
      refine .inl ?_
      split
      · simp
      · split <;> simp
      · split <;> simp
    · cases h
      exact .inl rfl
  | completionWrite w =>
    simp only [exec, execCompletionWrite] at h
    refine .inl ?_
    split at h
    · split at h
      · cases h
        simp
      · split at h
        · cases h
          simp
        · cases w with
          | done =>
            cases h
            split <;> simp
          | failedAt i =>
            cases h
            simp
    · cases h
      rfl
  | powerOnReset | abort | softReset | setupLoadEnd | examination | beatGrant | beatEnd | ready | readyTimeout | handOff =>
    cases hc

/-- R168: a load leads to RUNNING or OFF. -/
theorem State.loadBlock_drainKept (s : State) (b : SetupBlock) (p : PartState) : drainKept p (s.loadBlock b).control.part := by
  rcases s.loadBlock_cases b with ⟨e, he⟩ | ⟨-, he⟩
  · rw [he]
    simp [drainKept, State.failLoad]
  · rw [he]
    simp [drainKept, State.finishLoad]

/-- R168: the end of a setup read leads from LOADING to RUNNING or OFF, and otherwise leaves the part state. -/
theorem execSetupLoadEnd_drainKept {host : List HostWrite} {ok : Bool} {s t : State} (h : execSetupLoadEnd host ok s = .next t) :
    drainKept s.control.part t.control.part := by
  unfold execSetupLoadEnd at h
  split at h
  · cases h
    split
    · exact .inl rfl
    · split
      · exact .inl rfl
      · split
        · exact State.loadBlock_drainKept ..
        · exact .inl rfl
  · cases h
    exact .inl rfl

theorem execBeatGrant_leavesBindings {i : ArbiterId} {ws : List OutsideWrite} {s t : State} (h : execBeatGrant i ws s = .next t) :
    LeavesBindings s t := by
  unfold execBeatGrant at h
  split at h
  · cases h
    exact .refl s
  · split at h
    · cases h
      exact ⟨by simp, by simp, .inl (by simp)⟩
    · split at h
      · cases h
      · cases h
        exact ⟨by simp, by simp, .inl (by simp)⟩

theorem execBeatEnd_leavesBindings {b : BankId} {s t : State} (h : execBeatEnd b s = .next t) : LeavesBindings s t := by
  unfold execBeatEnd at h
  split at h
  · cases h
    exact .refl s
  · split at h
    · cases h
      split <;> exact ⟨by simp, by simp, .inl (by simp)⟩
    · cases h

theorem execReady_leavesBindings {d : DeviceId} {v : W24} {s t : State} (h : execReady d v s = .next t) : LeavesBindings s t := by
  unfold execReady at h
  split at h
  · cases h
    exact .refl s
  · cases h
    split
    · exact ⟨by simp, by simp, .inl (by simp)⟩
    · exact .refl s

theorem execReadyTimeout_leavesBindings {s t : State} (h : execReadyTimeout s = .next t) : LeavesBindings s t := by
  unfold execReadyTimeout at h
  split at h
  · cases h
    exact .refl s
  · cases h
    exact ⟨by simp, by simp, .inl (by simp)⟩

/-- The commands that can change the Map Unit or a binding, or begin or end a drain. -/
def reachesBindings : Instr → Bool
  | .powerOnReset | .softReset _ | .quiesce _ | .abort _ | .examination | .handOff _ => true
  | _ => false

theorem exec_leavesBindings {c : Instr} {s t : State} (hc : reachesBindings c = false) (h : exec c s = .next t) :
    LeavesBindings s t := by
  cases c with
  | powerOnReset | softReset | quiesce | abort | examination | handOff => cases hc
  | setupLoadEnd host ok =>
    have hpart := execSetupLoadEnd_drainKept h
    obtain ⟨u, hu, hleaves | ⟨b, v, hleaves, -, -, rfl⟩⟩ := execSetupLoadEnd_cases host ok s
    · cases hu.symm.trans h
      exact ⟨hleaves.map, State.bindings_congr hleaves.channels, hpart⟩
    · cases hu.symm.trans h
      exact ⟨by simp [hleaves.map], State.bindings_congr (by simp [hleaves.channels]), hpart⟩
  | beatGrant i ws => exact execBeatGrant_leavesBindings h
  | beatEnd b => exact execBeatEnd_leavesBindings h
  | ready d v => exact execReady_leavesBindings h
  | readyTimeout => exact execReadyTimeout_leavesBindings h
  | _ =>
    have hleaves := leavesTransfers_of_exec rfl h
    exact ⟨hleaves.map, State.bindings_congr hleaves.channels, exec_drainKept rfl (fun _ hq => by cases hq) h⟩

end Sys2Proof.Machine

/-! The bound counts and the drain (R22, R26, R27, R33, R34, R169, R171): the laws that every step keeps. -/

namespace Sys2Proof.Machine

/-! ## The bound counts in terms of the bindings (R22) -/

/-- 1 when a channel is bound to a generation, and 0 otherwise. -/
def bindingTo (v : Option (BitVec 8)) (g : BitVec 8) : Nat := if v = some g then 1 else 0

@[simp] theorem bindingTo_none (g : BitVec 8) : bindingTo none g = 0 := rfl

@[simp] theorem bindingTo_same (g : BitVec 8) : bindingTo (some g) g = 1 := by simp [bindingTo]

theorem bindingTo_other {v : Option (BitVec 8)} {g : BitVec 8} (h : v ≠ some g) : bindingTo v g = 0 := by simp [bindingTo, h]

theorem boundTo_eq_bindingTo (g : BitVec 8) (ch : Channel) : boundTo g ch = bindingTo ch.binding g := by
  cases ch <;> simp [boundTo, bindingTo, Channel.binding, Channel.context]

/-- How many of the two channels are bound to a generation. -/
def bindingsTo (bs : PerChannel (Option (BitVec 8))) (g : BitVec 8) : Nat := bindingTo bs.c0 g + bindingTo bs.c1 g

theorem bindingsTo_set (bs : PerChannel (Option (BitVec 8))) (c : ChannelId) (v : Option (BitVec 8)) (g : BitVec 8) :
    bindingsTo (bs.set c v) g + bindingTo (bs.get c) g = bindingsTo bs g + bindingTo v g := by
  cases c <;> simp only [bindingsTo, PerChannel.set, PerChannel.get] <;> omega

theorem bindingsTo_bind {bs : PerChannel (Option (BitVec 8))} {c : ChannelId} (h : bs.get c = none) (g : BitVec 8) :
    bindingsTo (bs.set c (some g)) g = bindingsTo bs g + 1 := by
  simpa [h] using bindingsTo_set bs c (some g) g

theorem bindingsTo_free {bs : PerChannel (Option (BitVec 8))} {c : ChannelId} {g : BitVec 8} (h : bs.get c = some g) :
    bindingsTo (bs.set c none) g + 1 = bindingsTo bs g := by
  simpa [h] using bindingsTo_set bs c none g

theorem bindingsTo_set_other {bs : PerChannel (Option (BitVec 8))} {c : ChannelId} {v : Option (BitVec 8)} {g : BitVec 8}
    (h : bs.get c ≠ some g) (hv : v ≠ some g) : bindingsTo (bs.set c v) g = bindingsTo bs g := by
  simpa [bindingTo_other h, bindingTo_other hv] using bindingsTo_set bs c v g

theorem bindingsTo_pos {bs : PerChannel (Option (BitVec 8))} {c : ChannelId} {g : BitVec 8} (h : bs.get c = some g) :
    0 < bindingsTo bs g := by
  have hfree := bindingsTo_free h
  omega

theorem bindingsTo_eq_zero {bs : PerChannel (Option (BitVec 8))} {g : BitVec 8} (h : ∀ c, bs.get c ≠ some g) :
    bindingsTo bs g = 0 := by
  have h0 : bindingTo bs.c0 g = 0 := bindingTo_other (h .c0)
  have h1 : bindingTo bs.c1 g = 0 := bindingTo_other (h .c1)
  rw [bindingsTo, h0, h1]

theorem boundCount_eq_bindingsTo (s : State) (g : BitVec 8) : boundCount s g = bindingsTo s.bindings g := by
  simp only [boundCount, boundTo_eq_bindingTo, bindingsTo, State.bindings]

/-- The Map Unit's generation, counts, retiring record and pending switch, against what the channels are bound to (R22, R26, R33). -/
structure CountsBindings (m : MapUnit) (bs : PerChannel (Option (BitVec 8))) : Prop where
  bound : m.bound = bindingsTo bs m.generation
  known : ∀ c g, bs.get c = some g → g = m.generation ∨ ∃ rt, m.retiring = some rt ∧ g = rt.generation
  pending : m.retiring.isSome = m.pendingSwitch.isSome
  retiring : ∀ rt, m.retiring = some rt →
    rt.generation = m.generation - 1 ∧ 1 ≤ rt.bound ∧ rt.bound = bindingsTo bs rt.generation

theorem boundKnown_iff (s : State) (ch : Channel) :
    boundKnown s ch ↔
      ∀ g, ch.binding = some g → g = s.map.generation ∨ ∃ rt, s.map.retiring = some rt ∧ g = rt.generation := by
  simp [boundKnown, Channel.binding]

theorem bindingLaw_iff (s : State) : bindingLaw s ↔ CountsBindings s.map s.bindings := by
  simp only [bindingLaw, boundCount_eq_bindingsTo, boundKnown_iff]
  constructor
  · rintro ⟨hbound, h0, h1, hpending, hretiring⟩
    refine ⟨hbound, fun c => ?_, hpending, hretiring⟩
    cases c with
    | c0 => exact h0
    | c1 => exact h1
  · rintro ⟨hbound, hknown, hpending, hretiring⟩
    exact ⟨hbound, hknown .c0, hknown .c1, hpending, hretiring⟩

/-! ## What the takings and the releases do to the counts -/

/-- R37, R39, R40: with nothing bound and no switch pending, nothing is counted. -/
theorem CountsBindings.idle {m : MapUnit} (hbound : m.bound = 0) (hretiring : m.retiring = none) (hpending : m.pendingSwitch = none) :
    CountsBindings m (PerChannel.all none) where
  bound := by rw [hbound]; rfl
  known c g h := by simp at h
  pending := by rw [hretiring, hpending]; rfl
  retiring rt h := by rw [hretiring] at h; cases h

/-- R33, R34: the retiring generation is not the current one. -/
theorem CountsBindings.retiring_ne {m : MapUnit} {bs : PerChannel (Option (BitVec 8))} (h : CountsBindings m bs) {rt : Retiring}
    (hrt : m.retiring = some rt) : rt.generation ≠ m.generation := by
  rw [(h.retiring rt hrt).1]
  bv_omega

/-- R26: a transfer bound to G as it goes to an IDLE channel. -/
theorem CountsBindings.bind {m : MapUnit} {bs : PerChannel (Option (BitVec 8))} (h : CountsBindings m bs) {c : ChannelId}
    (hc : bs.get c = none) : CountsBindings { m with bound := m.bound + 1 } (bs.set c (some m.generation)) where
  bound := by rw [bindingsTo_bind hc, ← h.bound]
  known c' g hg := by
    rw [PerChannel.get_set] at hg
    split at hg
    · cases hg
      exact .inl rfl
    · exact h.known c' g hg
  pending := h.pending
  retiring rt hrt := by
    have hne : some m.generation ≠ some rt.generation := by simpa using (h.retiring_ne hrt).symm
    rw [bindingsTo_set_other (by simp [hc]) hne]
    exact h.retiring rt hrt

/-- R32, R33: a switch, taken while no other is pending: the transfers bound to G are those of the retiring record. -/
theorem CountsBindings.switch {m : MapUnit} {bs : PerChannel (Option (BitVec 8))} (h : CountsBindings m bs) (hnone : m.retiring = none)
    (sw : PendingSwitch) : CountsBindings (mapAfterSwitch m sw) bs := by
  have hall : ∀ c g, bs.get c = some g → g = m.generation := fun c g hg => by
    simpa [hnone] using h.known c g hg
  have hnew : bindingsTo bs (m.generation + 1) = 0 :=
    bindingsTo_eq_zero fun c hc => absurd (hall c _ hc) (by bv_omega)
  have hpending : m.pendingSwitch = none := by simpa [hnone] using h.pending
  by_cases hbound : 0 < m.bound
  · have hmap : mapAfterSwitch m sw =
        ⟨m.staged, m.staged, m.generation + 1, 0, some ⟨m.generation, m.bound⟩, some sw⟩ := by simp [mapAfterSwitch, hbound]
    rw [hmap]
    refine ⟨hnew.symm, fun c g hg => .inr ⟨_, rfl, hall c g hg⟩, rfl, fun rt hrt => ?_⟩
    cases hrt
    exact ⟨by bv_omega, hbound, h.bound⟩
  · have hmap : mapAfterSwitch m sw = ⟨m.staged, m.staged, m.generation + 1, 0, none, none⟩ := by
      simp [mapAfterSwitch, hbound, hnone, hpending]
    rw [hmap]
    refine ⟨hnew.symm, fun c g hg => ?_, rfl, fun rt hrt => by cases hrt⟩
    have hpos := bindingsTo_pos hg
    rw [hall c g hg, ← h.bound] at hpos
    exact absurd hpos hbound

/-- R27, R34: the release of a channel's transfer lowers the count of its generation; the last release of the retiring generation
drains it. -/
theorem CountsBindings.release {m : MapUnit} {bs : PerChannel (Option (BitVec 8))} (h : CountsBindings m bs) {c : ChannelId}
    {g : BitVec 8} (hc : bs.get c = some g) : CountsBindings (mapAfterRelease m g) (bs.set c none) := by
  have hstill : ∀ c' g', (bs.set c none).get c' = some g' → bs.get c' = some g' := fun c' g' hg => by
    rw [PerChannel.get_set] at hg
    split at hg
    · cases hg
    · exact hg
  have hother : ∀ g', g ≠ g' → bindingsTo (bs.set c none) g' = bindingsTo bs g' := fun g' hne =>
    bindingsTo_set_other (by simpa [hc] using hne) (by simp)
  have hfree := bindingsTo_free hc
  by_cases hgen : g = m.generation
  · subst hgen
    have hmap : mapAfterRelease m m.generation = { m with bound := m.bound - 1 } := by simp [mapAfterRelease]
    rw [hmap]
    refine ⟨?_, fun c' g' hg => h.known c' g' (hstill c' g' hg), h.pending, fun rt hrt => ?_⟩
    · rw [h.bound, ← hfree, Nat.add_sub_cancel]
    · rw [hother _ (h.retiring_ne hrt).symm]
      exact h.retiring rt hrt
  · obtain ⟨rt, hrt, rfl⟩ := (h.known c g hc).resolve_left hgen
    obtain ⟨hrgen, hpos, hcount⟩ := h.retiring rt hrt
    have hbound : m.bound = bindingsTo (bs.set c none) m.generation := by rw [hother _ hgen, h.bound]
    by_cases hlast : rt.bound ≤ 1
    · have hmap : mapAfterRelease m rt.generation = { m with retiring := none, pendingSwitch := none } := by
        simp [mapAfterRelease, hgen, hrt, hlast]
      rw [hmap]
      refine ⟨hbound, fun c' g' hg => ?_, rfl, fun _ hrt' => by cases hrt'⟩
      rcases h.known c' g' (hstill c' g' hg) with hg' | ⟨rt', hrt', rfl⟩
      · exact .inl hg'
      · cases hrt.symm.trans hrt'
        have hleft := bindingsTo_pos hg
        omega
    · have hmap : mapAfterRelease m rt.generation = { m with retiring := some { rt with bound := rt.bound - 1 } } := by
        simp [mapAfterRelease, hgen, hrt, hlast]
      rw [hmap]
      refine ⟨hbound, fun c' g' hg => ?_, by simpa [hrt] using h.pending, fun rt' hrt' => ?_⟩
      · rcases h.known c' g' (hstill c' g' hg) with hg' | ⟨rt', hrt', rfl⟩
        · exact .inl hg'
        · cases hrt.symm.trans hrt'
          exact .inr ⟨_, rfl, rfl⟩
      · cases hrt'
        exact ⟨hrgen, by dsimp only; omega, by dsimp only; omega⟩

/-! ## What an eligible head finds of the channels and the switch (R83) -/

theorem Channel.eq_idle_of_isIdle {ch : Channel} (h : ch.isIdle = true) : ch = .idle := by
  cases ch with
  | idle => rfl
  | running | ending => cases h

/-- R83 step 5a, R99: an eligible transfer finds its channel IDLE. -/
theorem freeChannel_idle_of_planWait {s : State} {r : RingId} {k : Kind} {a b c : Option Extent} {d : Direction}
    (h : planWait s r (.transfer k a b c d) = .none) : s.channel (freeChannel s) = .idle := by
  simp only [planWait] at h
  split at h
  · cases h
  · next hbusy =>
    apply Channel.eq_idle_of_isIdle
    unfold freeChannel
    split
    · next h0 => exact h0
    · next h0 =>
      simp only [h0, Bool.not_false, Bool.true_and, Bool.not_eq_true', Bool.not_eq_false] at hbusy
      exact hbusy

/-- R83 step 6: an eligible MAPSWITCH finds no switch pending. -/
theorem retiring_none_of_planWait {s : State} {r : RingId} (h : planWait s r .mapswitch = .none) : s.map.retiring = none := by
  simp only [planWait] at h
  split at h
  · cases h
  · next hnone => simpa using hnone

/-! ## What the commands that reach the bindings do to them -/

@[simp] theorem State.issueTransfer_bindings (s : State) (r : RingId) (p : Prefetched) (k : Kind) (a b c : Option Extent)
    (d : Direction) : (s.issueTransfer r p k a b c d).bindings = s.bindings.set (freeChannel s) (some s.map.generation) := by
  have hbound (m : MapUnit) (reads writes : List PhysExtent) :
      ((s.setMap m).listTransfer r reads writes).bindings = s.bindings := rfl
  simp [State.issueTransfer, hbound, contextAtTaking]

@[simp] theorem State.issueTransfer_map (s : State) (r : RingId) (p : Prefetched) (k : Kind) (a b c : Option Extent)
    (d : Direction) : (s.issueTransfer r p k a b c d).map = { s.map with bound := s.map.bound + 1 } := by
  simp [State.issueTransfer]

@[simp] theorem State.carryOut_mapswitch_map (s : State) (r : RingId) (p : Prefetched) :
    (s.carryOut r p .mapswitch).map = mapAfterSwitch s.map ⟨r, p.slot, p.record.tag⟩ := by
  simp only [State.carryOut]
  split <;> simp

/-- A transfer goes to a channel; every other record leaves the channels alone. -/
def Plan.isTransfer : Plan → Bool
  | .transfer _ _ _ _ _ => true
  | _ => false

/-- R99, R100: of the records carried out, only a transfer reaches a channel. -/
theorem State.carryOut_channels (s : State) (r : RingId) (p : Prefetched) {plan : Plan} (h : plan.isTransfer = false) :
    (s.carryOut r p plan).channels = s.channels := by
  cases plan with
  | transfer => cases h
  | mapswitch =>
    simp only [State.carryOut]
    split <;> simp
  | refuse | complete | mapset | maprevert => simp [State.carryOut]

/-- R26, R32: a record carried out where nothing holds it back keeps the counts. -/
theorem countsBindings_carryOut {s : State} (hs : CountsBindings s.map s.bindings) {r : RingId} (p : Prefetched) {plan : Plan}
    (hfree : ∀ k a b c d, plan = .transfer k a b c d → s.channel (freeChannel s) = .idle)
    (hnone : plan = .mapswitch → s.map.retiring = none) :
    CountsBindings (s.carryOut r p plan).map (s.carryOut r p plan).bindings := by
  have hbindings (h : plan.isTransfer = false) : (s.carryOut r p plan).bindings = s.bindings :=
    State.bindings_congr (State.carryOut_channels s r p h)
  cases plan with
  | transfer k a b c d =>
    have hidle : s.bindings.get (freeChannel s) = none := by
      rw [State.bindings_get, hfree k a b c d rfl]
      rfl
    simpa [State.carryOut] using hs.bind hidle
  | mapswitch =>
    rw [hbindings rfl, State.carryOut_mapswitch_map]
    exact hs.switch (hnone rfl) _
  | refuse | complete | mapset | maprevert =>
    rw [hbindings rfl]
    simp only [State.carryOut, State.completeHead_map, State.setMap_map]
    exact ⟨hs.bound, hs.known, hs.pending, hs.retiring⟩

theorem countsBindings_examine {s : State} (hs : CountsBindings s.map s.bindings) :
    CountsBindings s.examine.map s.examine.bindings := by
  rcases s.examine_cases with ⟨-, he⟩ | ⟨r, p, plan, -, hv, he⟩
  · rw [he]
    exact hs
  · obtain ⟨-, -, -, -, -, -, hwait, -⟩ := verdict_eq_eligible hv
    have hchannels : (s.setWaits.takeHead r).channels = s.channels := by simp
    have htaken : CountsBindings (s.setWaits.takeHead r).map (s.setWaits.takeHead r).bindings := by
      rw [State.bindings_congr hchannels]
      simpa using hs
    rw [he]
    refine countsBindings_carryOut htaken p (fun k a b c d hplan => ?_) fun hplan => ?_
    · subst hplan
      simpa [State.channel, freeChannel, hchannels] using freeChannel_idle_of_planWait hwait
    · subst hplan
      simpa using retiring_none_of_planWait hwait

/-- R27, R117: a hand-off is a release of its channel's transfer. -/
theorem State.handOff_map (s : State) (c : ChannelId) (x : Context) (e : Ending) :
    (s.handOff c x e).map = mapAfterRelease s.map x.generation := by
  simp [State.handOff]

/-- R116: a HAND_OFF leaves the state as it is, or hands its channel's ended transfer off. -/
theorem execHandOff_cases {c : ChannelId} {s t : State} (h : execHandOff c s = .next t) :
    t = s ∨ ∃ x e, s.channel c = .ending x ∧ t = s.handOff c x e := by
  unfold execHandOff at h
  split at h
  · next x hx =>
    split at h
    · next e _ =>
      simp only [Host.Outcome.next.injEq] at h
      subst h
      generalize (if lastRelease s.map x = true then 2 else 1) = room
      split
      · exact .inr ⟨x, e, hx, rfl⟩
      · exact .inl rfl
    · cases h
      exact .inl rfl
  · cases h
    exact .inl rfl
  · cases h
    exact .inl rfl

/-- R169, R170: a QUIESCE and an ABORT leave the Map Unit and the bindings. -/
theorem execQuiesce_bindings {m : Sources} {s t : State} (h : execQuiesce m s = .next t) :
    t.map = s.map ∧ t.bindings = s.bindings := by
  cases h
  split
  · exact ⟨by simp, State.bindings_congr (by simp)⟩
  · exact ⟨rfl, rfl⟩

theorem execAbort_bindings {m : Sources} {s t : State} (h : execAbort m s = .next t) : t.map = s.map ∧ t.bindings = s.bindings := by
  cases h
  split
  · refine ⟨by simp, ?_⟩
    rw [State.bindings_congr (State.drainPart_channels _), State.flagAborts_bindings]
    rfl
  · exact ⟨rfl, rfl⟩

/-! ## The bound counts stay true -/

theorem exec_bindingLaw (c : Instr) (s t : State) (hs : bindingLaw s) (h : exec c s = .next t) : bindingLaw t := by
  rw [bindingLaw_iff] at hs ⊢
  cases c with
  | powerOnReset | softReset =>
    cases h
    exact .idle rfl rfl rfl
  | examination =>
    cases h
    split
    · exact hs
    · exact countsBindings_examine hs
  | quiesce m =>
    obtain ⟨hmap, hbindings⟩ := execQuiesce_bindings h
    rwa [hmap, hbindings]
  | abort m =>
    obtain ⟨hmap, hbindings⟩ := execAbort_bindings h
    rwa [hmap, hbindings]
  | handOff c =>
    rcases execHandOff_cases h with rfl | ⟨x, e, hx, rfl⟩
    · exact hs
    · rw [State.handOff_map, State.bindings_of_set (s.handOff_leaves c x e).2]
      exact hs.release (State.bindings_get_ending hx)
  | _ =>
    have hleaves := exec_leavesBindings rfl h
    rwa [hleaves.map, hleaves.bindings]

/-! ## The drain stays exact (R169, R171) -/

/-- Nothing is on a channel and no switch is pending. -/
def drained (s : State) : Prop := channelsIdle s = true ∧ s.map.pendingSwitch = none

theorem drainLaw_iff (s : State) : drainLaw s ↔
    (s.control.part = .quiesced → drained s) ∧ (s.control.part = .quiescing ∨ s.control.part = .aborting → ¬drained s) := Iff.rfl

theorem drained_congr {s t : State} (hmap : t.map = s.map) (hbindings : t.bindings = s.bindings) : drained t ↔ drained s := by
  simp only [drained, channelsIdle_eq_bindings, hmap, hbindings]

theorem not_drained_of_binding {s : State} {c : ChannelId} {g : BitVec 8} (h : s.bindings.get c = some g) : ¬drained s := by
  rintro ⟨hidle, -⟩
  simp only [channelsIdle_eq_bindings, Bool.and_eq_true, Option.isNone_iff_eq_none] at hidle
  obtain ⟨h0, h1⟩ := hidle
  cases c with
  | c0 => cases h0.symm.trans h
  | c1 => cases h1.symm.trans h

/-- A part that enters no state of the drain, and whose drain is not moved, keeps the law. -/
theorem LeavesBindings.drainLaw {s t : State} (h : LeavesBindings s t) (hs : drainLaw s) : drainLaw t := by
  rw [drainLaw_iff] at hs ⊢
  rw [drained_congr h.map h.bindings]
  rcases h.part with hpart | ⟨hquiescing, haborting, hquiesced⟩
  · rwa [hpart]
  · exact ⟨fun hp => absurd hp hquiesced, fun hp => (hp.elim hquiescing haborting).elim⟩

/-- R169, R171: whatever QUIESCING or ABORTING was entered with, the drain is exact once it has been tried. -/
theorem drainLaw_drainPart {s : State} (h : s.control.part ≠ .quiesced) : drainLaw s.drainPart := by
  rcases s.drainPart_cases with ⟨he, hnot⟩ | ⟨-, hidle, hswitch, he⟩
  · rw [he]
    exact ⟨fun hp => absurd hp h, fun hp hd => hnot ⟨hp, hd⟩⟩
  · rw [he]
    exact ⟨fun _ => ⟨hidle, hswitch⟩, fun hp => by simp at hp⟩

/-- R81, R83: in a part that drains, an examination takes nothing. -/
theorem examine_leavesBindings {s : State} (h : s.control.part ≠ .running) : LeavesBindings s s.examine := by
  rcases s.examine_cases with ⟨-, he⟩ | ⟨r, p, plan, -, hv, -⟩
  · rw [he]
    exact ⟨rfl, rfl, .inl rfl⟩
  · obtain ⟨-, -, hpart, -⟩ := verdict_eq_eligible hv
    exact absurd hpart h

theorem exec_drainLaw (c : Instr) (s t : State) (hs : drainLaw s) (h : exec c s = .next t) : drainLaw t := by
  cases c with
  | powerOnReset | softReset =>
    cases h
    exact ⟨nofun, nofun⟩
  | examination =>
    cases h
    split
    · exact hs
    · by_cases hpart : s.control.part = .running
      · simp [drainLaw, hpart]
      · exact (examine_leavesBindings hpart).drainLaw hs
  | quiesce m =>
    cases h
    split
    · exact drainLaw_drainPart (by simp)
    · exact hs
  | abort m =>
    cases h
    split
    · exact drainLaw_drainPart (by simp)
    · exact hs
  | handOff c =>
    rcases execHandOff_cases h with rfl | ⟨x, e, hx, rfl⟩
    · exact hs
    · have hpart : s.control.part ≠ .quiesced := fun hp => not_drained_of_binding (State.bindings_get_ending hx) (hs.1 hp)
      exact drainLaw_drainPart (by simpa using hpart)
  | _ => exact (exec_leavesBindings rfl h).drainLaw hs

/-- Settles O54: the takings and the releases move the counts with the channels, and a drain is tried whenever it can end. -/
theorem bindingAndDrainKept : Obligations.BindingAndDrainKept :=
  ⟨step_keeps (fun _ _ hs => hs) exec_bindingLaw, step_keeps (fun _ _ hs => hs) exec_drainLaw⟩

end Sys2Proof.Machine

/-! G and the tables (R23, R24, R29, R30, R32, R39, R40): which commands change them, and to what. -/

namespace Sys2Proof.Machine

/-! ## The examination that takes a head (R81) -/

/-- R81, R82: with a ring chosen, an examination takes its head. -/
theorem exec_examination_taken {s : State} {r : RingId} {p : Prefetched} {plan : Plan} (hr : chosenRing s = some r)
    (hv : verdict s r = .eligible p plan) :
    exec .examination s = .next ((s.setWaits.takeHead r).carryOut r p plan).examineDue := by
  obtain ⟨-, -, hpart, -⟩ := verdict_eq_eligible hv
  simp [exec, execExamination, hpart, State.examine, hr, hv]

/-- R81: the command is an examination that takes a head whose record is planned so. -/
def takes (c : Instr) (s : State) (plan : Plan) : Prop :=
  c = .examination ∧ ∃ r p, chosenRing s = some r ∧ verdict s r = .eligible p plan

theorem takes_unique {c : Instr} {s : State} {plan plan' : Plan} (h : takes c s plan) (h' : takes c s plan') : plan' = plan := by
  obtain ⟨-, r, p, hr, hv⟩ := h
  obtain ⟨-, r', p', hr', hv'⟩ := h'
  cases hr.symm.trans hr'
  cases hv.symm.trans hv'
  rfl

/-! ## What changes G and the tables (R24) -/

/-- G and both tables (R5, R22). -/
structure MapVersion where
  generation : BitVec 8
  current : WindowTable
  staged : WindowTable

def MapUnit.version (m : MapUnit) : MapVersion := ⟨m.generation, m.current, m.staged⟩

/-- What a record taken leaves of G and the tables (R29, R30, R32). -/
def MapVersion.after (v : MapVersion) : Plan → MapVersion
  | .mapset i e => { v with staged := setEntry v.staged i e }
  | .maprevert => { v with staged := v.current }
  | .mapswitch => ⟨v.generation + 1, v.staged, v.staged⟩
  | .refuse _ _ | .complete | .transfer _ _ _ _ _ => v

theorem State.carryOut_version (s : State) (r : RingId) (p : Prefetched) (plan : Plan) :
    (s.carryOut r p plan).map.version = s.map.version.after plan := by
  cases plan with
  | mapswitch =>
    rw [State.carryOut_mapswitch_map]
    rfl
  | refuse | complete | mapset | maprevert | transfer => simp [State.carryOut, MapUnit.version, MapVersion.after]

/-- R27, R34: a release leaves G and the tables. -/
theorem mapAfterRelease_version (m : MapUnit) (g : BitVec 8) : (mapAfterRelease m g).version = m.version := by
  unfold mapAfterRelease
  split_ifs
  · rfl
  · split
    · split_ifs <;> rfl
    · rfl

theorem exec_version_of_takes {c : Instr} {s t : State} {plan : Plan} (h : takes c s plan) (ht : exec c s = .next t) :
    t.map.version = s.map.version.after plan := by
  obtain ⟨rfl, r, p, hr, hv⟩ := h
  cases (exec_examination_taken hr hv).symm.trans ht
  simp [State.carryOut_version]

/-- R24: a command that is no reset and takes no record leaves G and the tables. -/
theorem exec_version_kept {c : Instr} {s t : State} (hreset : ¬isReset c) (htakes : ∀ plan, ¬takes c s plan)
    (h : exec c s = .next t) : t.map.version = s.map.version := by
  cases c with
  | powerOnReset => exact absurd (.inl rfl) hreset
  | softReset m => exact absurd (.inr ⟨m, rfl⟩) hreset
  | examination =>
    cases h
    split
    · rfl
    · rcases s.examine_cases with ⟨-, he⟩ | ⟨r, p, plan, hr, hv, -⟩
      · rw [he]
        rfl
      · exact absurd ⟨rfl, r, p, hr, hv⟩ (htakes plan)
  | quiesce m => rw [(execQuiesce_bindings h).1]
  | abort m => rw [(execAbort_bindings h).1]
  | handOff c =>
    rcases execHandOff_cases h with rfl | ⟨x, e, -, rfl⟩
    · rfl
    · rw [State.handOff_map, mapAfterRelease_version]
  | _ => rw [(exec_leavesBindings rfl h).map]

/-- R24, R39, R40: every command is a power-on reset, a soft reset, the taking of one record, or leaves G and the tables. -/
theorem exec_version_cases {c : Instr} {s t : State} (h : exec c s = .next t) :
    (c = .powerOnReset ∧ t.map.version = ⟨0, WindowTable.cleared, WindowTable.cleared⟩) ∨
      (∃ m, c = .softReset m ∧ t.map.version = ⟨s.map.generation, s.map.current, s.map.current⟩) ∨
      (∃ plan, (∀ q, takes c s q ↔ q = plan) ∧ ¬isReset c ∧ t.map.version = s.map.version.after plan) ∨
      (¬isReset c ∧ (∀ q, ¬takes c s q) ∧ t.map.version = s.map.version) := by
  by_cases htaken : ∃ plan, takes c s plan
  · obtain ⟨plan, hplan⟩ := htaken
    have hiff : ∀ q, takes c s q ↔ q = plan := fun q => ⟨takes_unique hplan, fun hq => hq ▸ hplan⟩
    exact .inr (.inr (.inl ⟨plan, hiff, by simp [isReset, hplan.1], exec_version_of_takes hplan h⟩))
  · have hnone : ∀ q, ¬takes c s q := fun q hq => htaken ⟨q, hq⟩
    by_cases hreset : isReset c
    · rcases hreset with rfl | ⟨m, rfl⟩
      · cases h
        exact .inl ⟨rfl, rfl⟩
      · cases h
        exact .inr (.inl ⟨m, rfl, rfl⟩)
    · exact .inr (.inr (.inr ⟨hreset, hnone, exec_version_kept hreset hnone h⟩))

/-- Settles O48, from what each command does to G and the tables. -/
theorem generationAndTablesChange : Obligations.GenerationAndTablesChange := by
  intro c s t h
  change _ ∧ (_ → takes c s _ → _) ∧ (_ → ¬takes c s _ → _) ∧ (takes c s _ → _) ∧ (_ → ¬takes c s _ → _) ∧
    (_ ∨ takes c s _ ∨ takes c s _ → _) ∧ (_ → ¬takes c s _ → ¬takes c s _ → (∀ i e, ¬takes c s _) → _)
  rcases exec_version_cases h with ⟨rfl, hv⟩ | ⟨m, rfl, hv⟩ | ⟨plan, htakes, hreset, hv⟩ | ⟨hreset, htakes, hv⟩
  · obtain ⟨hgen, hcur, hst⟩ := MapVersion.mk.inj hv
    simp [takes, isReset, hgen, hcur, hst]
  · obtain ⟨hgen, hcur, hst⟩ := MapVersion.mk.inj hv
    simp [takes, isReset, hgen, hcur, hst]
  · have hpower : c ≠ .powerOnReset := fun hc => hreset (.inl hc)
    simp only [htakes, hreset, hpower]
    cases plan with
    | mapset | maprevert | mapswitch | refuse | complete | transfer =>
      obtain ⟨hgen, hcur, hst⟩ := MapVersion.mk.inj hv
      simp [MapUnit.version, hgen, hcur, hst]
  · have hpower : c ≠ .powerOnReset := fun hc => hreset (.inl hc)
    obtain ⟨hgen, hcur, hst⟩ := MapVersion.mk.inj hv
    simp [htakes, hreset, hpower, hgen, hcur, hst]

end Sys2Proof.Machine

/-! The taking of a record that completes OK at its taking or is left pending, and of the map commands (R29, R30, R32, R33, R82, R84,
R100). -/

namespace Sys2Proof.Machine

/-! ## The state with a head taken (R61, R66, R82, R84) -/

@[simp] theorem State.setWaits_ring (s : State) (r : RingId) : s.setWaits.ring r = examinedRing s r := by
  cases r <;> rfl

@[simp] theorem examinedRing_dir (s : State) (r : RingId) : (examinedRing s r).dir = (s.ring r).dir := by
  unfold examinedRing
  dsimp only
  split <;> rfl

@[simp] theorem State.movePointer_ring (s : State) (r r' : RingId) : (s.movePointer r).ring r' = s.ring r' := by
  simp [State.ring]

/-- R82: a taking moves the pointer of the ring's class to the ring after it, and leaves the other. -/
theorem State.movePointer_issue (s : State) (r : RingId) :
    (s.movePointer r).issue =
      { s.issue with
        urgentPtr := if (s.ring r).dir.cls = .urgent then RingId.next r else s.issue.urgentPtr
        normalPtr := if (s.ring r).dir.cls = .normal then RingId.next r else s.issue.normalPtr } := by
  unfold State.movePointer
  split <;> simp [*]

theorem Count.since_eq_zero {a b : Count} : a.since b = 0 ↔ a = b := by
  unfold Count.since
  bv_omega

/-- The wait reason that the examination sets is NONE again once the head is taken. -/
theorem ringAfterTaking_examinedRing (s : State) (r : RingId) : ringAfterTaking (examinedRing s r) = takenRing (s.ring r) := by
  unfold examinedRing
  dsimp only
  split <;> simp [ringAfterTaking, takenRing, ringPending, Count.since_eq_zero]

/-- The state after the head of a ring has been taken, with what the record leaves of the Map Unit and the post queue. -/
def State.takenWith (s : State) (r : RingId) (m : MapUnit) (q : List Completion) : State :=
  (((s.setWaits.takeHead r).setMap m).setPostQueue q).examineDue

@[simp] theorem State.takenWith_map (s : State) (r : RingId) (m : MapUnit) (q : List Completion) : (s.takenWith r m q).map = m := rfl

@[simp] theorem State.takenWith_postQueue (s : State) (r : RingId) (m : MapUnit) (q : List Completion) :
    (s.takenWith r m q).writer.postQueue = q := rfl

theorem State.takenWith_ring_same (s : State) (r : RingId) (m : MapUnit) (q : List Completion) :
    (s.takenWith r m q).ring r = takenRing (s.ring r) := by
  simp [State.takenWith, State.takeHead, ← ringAfterTaking_examinedRing]

theorem State.takenWith_ring_other (s : State) {r r' : RingId} (h : r' ≠ r) (m : MapUnit) (q : List Completion) :
    (s.takenWith r m q).ring r' = examinedRing s r' := by
  simp [State.takenWith, State.takeHead, h]

theorem State.takenWith_issue (s : State) (r : RingId) (m : MapUnit) (q : List Completion) :
    (s.takenWith r m q).issue =
      { s.issue with
        urgentPtr := if (s.ring r).dir.cls = .urgent then RingId.next r else s.issue.urgentPtr
        normalPtr := if (s.ring r).dir.cls = .normal then RingId.next r else s.issue.normalPtr
        due := true } := by
  simp [State.takenWith, State.takeHead, State.movePointer_issue, ringAfterTaking_examinedRing, takenRing]

theorem State.takenWith_writer (s : State) (r : RingId) (m : MapUnit) (q : List Completion) :
    (s.takenWith r m q).writer =
      { s.writer with
        cqs := s.writer.cqs.set (s.ring r).dir.cq
          ({ s.cq (s.ring r).dir.cq with reservations := (s.cq (s.ring r).dir.cq).reservations + 1 } : CompletionRing)
        postQueue := q } := by
  simp [State.takenWith, State.takeHead, State.reserve, State.cq]

theorem State.takenWith_channels (s : State) (r : RingId) (m : MapUnit) (q : List Completion) :
    (s.takenWith r m q).channels = s.channels := by
  simp [State.takenWith]

/-- R82, R84, R96, R100: what every taking does, it does whatever the record leaves of the Map Unit and the post queue. -/
theorem State.takenWith_takingOf (s : State) (r : RingId) (m : MapUnit) (q : List Completion) : takingOf s (s.takenWith r m q) r := by
  have hmanager : (s.takenWith r m q).ringManager = { s.ringManager with rings := (s.takenWith r m q).ringManager.rings } := by
    simp [State.takenWith, State.takeHead, State.setWaits]
  have hwriter := s.takenWith_writer r m q
  have hissue := s.takenWith_issue r m q
  refine ⟨fun r' h => s.takenWith_ring_other h m q, hmanager, by rw [hwriter], by rw [hwriter], by rw [hissue], by rw [hissue],
    by rw [hissue], ?_⟩
  simp [State.takenWith]

/-! ## The records that complete OK at their taking (R52, R77, R100) -/

/-- R77: an entry that triggers no stop joins the post queue and does nothing else. -/
theorem State.handEntry_of_not_triggers (s : State) {e : Completion} (h : e.status.triggersStop = false) :
    s.handEntry e = s.setPostQueue (s.writer.postQueue ++ [e]) :=
  State.stopOnError_of_not_triggers _ _ h

/-- The entry of a record completed OK at its taking (R51, R100). -/
def okEntry (s : State) (r : RingId) (p : Prefetched) (generation : BitVec 8) : Completion where
  tag := p.record.tag
  status := .ok
  ring := r
  slot := p.slot
  elementsDone := 0
  generation := generation
  detail := .none
  direction := .ascending
  conflictBeats := 0
  cq := (s.ring r).dir.cq
  transferKey := none

/-- R29, R30, R32, R100: a record completed OK at its taking, with what it leaves of the Map Unit. -/
theorem State.completeHead_taken (s : State) (r : RingId) (p : Prefetched) (m : MapUnit) :
    (((s.setWaits.takeHead r).setMap m).completeHead r p .ok .none).examineDue =
      s.takenWith r m (s.writer.postQueue ++ [okEntry s r p m.generation]) := by
  have hring : (s.setWaits.takeHead r).ring r = takenRing (s.ring r) := s.takenWith_ring_same r s.map s.writer.postQueue
  have hqueue : (s.setWaits.takeHead r).writer.postQueue = s.writer.postQueue := by simp [State.takeHead]
  rw [State.completeHead, State.handEntry_of_not_triggers _ rfl]
  simp [State.takenWith, plainCompletion, okEntry, hring, hqueue, takenRing]

/-! ## The map commands (R29, R30, R32, R33) -/

theorem examination_mapset {s : State} {r : RingId} {p : Prefetched} {i : BitVec 4} {e : WindowEntry} (hr : chosenRing s = some r)
    (hv : verdict s r = .eligible p (.mapset i e)) :
    exec .examination s = .next (s.takenWith r { s.map with staged := setEntry s.map.staged i e }
      (s.writer.postQueue ++ [okEntry s r p s.map.generation])) := by
  rw [exec_examination_taken hr hv, State.carryOut, State.takeHead_map, State.setWaits_map, State.completeHead_taken]

theorem examination_maprevert {s : State} {r : RingId} {p : Prefetched} (hr : chosenRing s = some r)
    (hv : verdict s r = .eligible p .maprevert) :
    exec .examination s = .next (s.takenWith r { s.map with staged := s.map.current }
      (s.writer.postQueue ++ [okEntry s r p s.map.generation])) := by
  rw [exec_examination_taken hr hv, State.carryOut, State.takeHead_map, State.setWaits_map, State.completeHead_taken]

/-- R32: a MAPSWITCH with nothing bound completes OK with the new G. -/
theorem examination_mapswitch_unbound {s : State} {r : RingId} {p : Prefetched} (hr : chosenRing s = some r)
    (hv : verdict s r = .eligible p .mapswitch) (hbound : s.map.bound = 0) :
    exec .examination s = .next (s.takenWith r (mapAfterSwitch s.map ⟨r, p.slot, p.record.tag⟩)
      (s.writer.postQueue ++ [okEntry s r p (s.map.generation + 1)])) := by
  rw [exec_examination_taken hr hv, State.carryOut, State.takeHead_map, State.setWaits_map, if_neg (by omega), State.completeHead_taken]
  rfl

/-- R33: a MAPSWITCH with transfers bound stays pending, and makes no entry. -/
theorem examination_mapswitch_bound {s : State} {r : RingId} {p : Prefetched} (hr : chosenRing s = some r)
    (hv : verdict s r = .eligible p .mapswitch) (hbound : 0 < s.map.bound) :
    exec .examination s = .next (s.takenWith r (mapAfterSwitch s.map ⟨r, p.slot, p.record.tag⟩) s.writer.postQueue) := by
  have hqueue : (s.setWaits.takeHead r).writer.postQueue = s.writer.postQueue := by simp [State.takeHead]
  rw [exec_examination_taken hr hv, State.carryOut, State.takeHead_map, State.setWaits_map, if_pos hbound, ← hqueue]
  rfl

/-- What the taking of every map command comes to, in the words of the obligation. -/
theorem State.takenWith_frame (s : State) (r : RingId) (m : MapUnit) (q : List Completion) :
    takingOf s (s.takenWith r m q) r ∧ (s.takenWith r m q).ring r = takenRing (s.ring r) ∧
      (s.takenWith r m q).channels = s.channels ∧ (s.takenWith r m q).issue.hazards = s.issue.hazards ∧
      (s.takenWith r m q).issue.nextKey = s.issue.nextKey := by
  have hissue := s.takenWith_issue r m q
  exact ⟨s.takenWith_takingOf r m q, s.takenWith_ring_same r m q, s.takenWith_channels r m q, by rw [hissue], by rw [hissue]⟩

/-- Settles O41, from the state that each map command leaves. -/
theorem mapCommandsTaken : Obligations.MapCommandsTaken := by
  intro r p plan s hr hv
  refine ⟨?_, ?_, ?_⟩
  · rintro i e rfl
    refine ⟨_, ⟨examination_mapset hr hv, s.takenWith_frame ..⟩, rfl, ?_, fun j hj => ?_, rfl⟩
    · exact entryAt_setEntry_same ..
    · exact entryAt_setEntry_other _ _ hj
  · rintro rfl
    exact ⟨_, ⟨examination_maprevert hr hv, s.takenWith_frame ..⟩, rfl, rfl⟩
  · rintro rfl
    by_cases hbound : 0 < s.map.bound
    · refine ⟨_, ⟨examination_mapswitch_bound hr hv hbound, s.takenWith_frame ..⟩, rfl, rfl, rfl, rfl, fun hzero => by omega,
        fun _ => ⟨rfl, ?_, ?_⟩⟩ <;> simp [mapAfterSwitch, hbound]
    · have hzero : s.map.bound = 0 := by omega
      refine ⟨_, ⟨examination_mapswitch_unbound hr hv hzero, s.takenWith_frame ..⟩, rfl, rfl, rfl, rfl, fun _ => ⟨rfl, ?_, ?_⟩,
        fun hpos => absurd hpos hbound⟩ <;> simp [mapAfterSwitch, hzero]

end Sys2Proof.Machine

/-! The checks of a MAPSET (R7, R28, R29). -/

namespace Sys2Proof.Machine

/-- R2: the target codes are 0 to 8. -/
theorem Target.ofCode_isSome_iff (c : BitVec 4) : (Target.ofCode c).isSome = true ↔ c.toNat ≤ 8 := by
  revert c
  decide

/-- R43: of a MAPSET without flags, the checks are those of its window. -/
theorem validate_mapset {m : MapUnit} {profiles : PerDevice (Option Profile)} {x : Record} (hkind : x.kind = 0x20)
    (hflags : x.flags = 0) : validate m profiles x = validateMapset m profiles x := by
  have hcode : Kind.ofCode x.kind = some .mapset := by rw [hkind]; rfl
  simp [validate, hcode, flagBitsAllowed, Kind.isTransfer, hflags]

/-- R28: a MAPSET whose target code names no target fails the first check. -/
theorem validateMapset_of_no_target {m : MapUnit} {profiles : PerDevice (Option Profile)} {x : Record}
    (h : Target.ofCode x.targetCode = none) : validateMapset m profiles x = .refuse .windowInvalid (.address x.a) := by
  simp [validateMapset, mapsetEntry, h, refuseAt, recordAddress]

/-- The entry that a MAPSET record spells for a target (R29). -/
def Record.window (x : Record) (t : Target) : WindowEntry := ⟨x.enabled, x.a, x.sizeCode, t, x.b, x.wp, x.lock⟩

/-- R28: the checks of a MAPSET that names a target, in their order. -/
theorem validateMapset_of_target {m : MapUnit} {profiles : PerDevice (Option Profile)} {x : Record} {t : Target}
    (h : Target.ofCode x.targetCode = some t) :
    validateMapset m profiles x =
      if !windowValid profiles (x.window t) then .refuse .windowInvalid (.address x.a)
      else if (entryAt m.current x.index).lock then .refuse .windowLocked (.address x.a)
      else if overlapsOther m.staged x.index (x.window t) then .refuse .windowOverlap (.address x.a)
      else .mapset x.index (x.window t) := by
  simp only [validateMapset, mapsetEntry, h, Option.map_some]
  rfl

/-- R9: two enabled windows overlap when some address is contained in both. -/
theorem windowsOverlap_iff (e f : WindowEntry) :
    windowsOverlap e f = true ↔ ∃ a, windowContains e a = true ∧ windowContains f a = true := by
  constructor
  · intro h
    simp only [windowsOverlap, Bool.and_eq_true, decide_eq_true_eq] at h
    obtain ⟨⟨⟨he, hf⟩, hlow⟩, hhigh⟩ := h
    have hesize := windowSize_pos e
    have hfsize := windowSize_pos f
    refine ⟨max e.logicalBase.toNat f.logicalBase.toNat, ?_, ?_⟩
    · rw [windowContains_iff]
      exact ⟨he, by omega, by omega⟩
    · rw [windowContains_iff]
      exact ⟨hf, by omega, by omega⟩
  · rintro ⟨a, he, hf⟩
    exact windowsOverlap_of_contains he hf

/-- R28 check 4: some entry of the table at another index shares an address with the entry. -/
theorem overlapsOther_iff (t : WindowTable) (i : BitVec 4) (e : WindowEntry) :
    overlapsOther t i e = true ↔ ∃ j, j ≠ i ∧ ∃ a, windowContains e a = true ∧ windowContains (entryAt t j) a = true := by
  simp [overlapsOther, mem_windowIndices, windowsOverlap_iff]

/-- Settles O47, with the window the record spells for its target. -/
theorem mapsetChecks : Obligations.MapsetChecks := by
  intro m profiles x hkind hflags size capacity valid locked overlaps plan
  have hplan : plan = validateMapset m profiles x := validate_mapset hkind hflags
  rw [hplan]
  cases htarget : Target.ofCode x.targetCode with
  | none =>
    have hcode : ¬x.targetCode.toNat ≤ 8 := by simp [← Target.ofCode_isSome_iff, htarget]
    have hinvalid : ¬valid := fun ⟨_, hv, _⟩ => hcode hv
    rw [validateMapset_of_no_target htarget]
    exact ⟨fun _ => rfl, fun hv => absurd hv hinvalid, fun hv => absurd hv hinvalid, fun hv => absurd hv hinvalid⟩
  | some t =>
    have hcode : x.targetCode.toNat ≤ 8 := by simp [← Target.ofCode_isSome_iff, htarget]
    have hcapacity : capacity = targetCapacity profiles t := by
      unfold Target.ofCode at htarget
      split at htarget <;> cases htarget <;> simp only [capacity, *] <;> rfl
    have hvalid : windowValid profiles (x.window t) = true ↔ valid := by
      simp only [windowValid_iff, valid, hcode, hcapacity, Record.window, true_and]
      rfl
    have hoverlaps : overlapsOther m.staged x.index (x.window t) = true ↔ overlaps := by
      simp only [overlapsOther_iff, windowContains_iff, overlaps]
      constructor
      · rintro ⟨j, hj, a, ⟨hx, hlow, hhigh⟩, he, helow, hehigh⟩
        exact ⟨hx, j, hj, he, a, hlow, hhigh, helow, hehigh⟩
      · rintro ⟨hx, j, hj, he, a, hlow, hhigh, helow, hehigh⟩
        exact ⟨j, hj, a, ⟨hx, hlow, hhigh⟩, he, helow, hehigh⟩
    rw [validateMapset_of_target htarget, ← hvalid, ← hoverlaps]
    simp only [locked]
    refine ⟨fun hv => ?_, fun hv hl => ?_, fun hv hl ho => ?_, fun hv hl ho => ⟨x.window t, ?_, rfl, rfl, rfl, rfl, rfl, rfl, ?_⟩⟩
    · simp [hv]
    · simp [hv, hl]
    · simp [hv, hl, ho]
    · simp [hv, hl, ho]
    · unfold Target.ofCode at htarget
      split at htarget <;> cases htarget <;> simp only [Record.window, *]

end Sys2Proof.Machine

/-! Both memories stay canonical (R41, R138): which commands reach them, and that each write lands below the capacity. -/

namespace Sys2Proof.Machine

/-! ## The two memories -/

theorem memoriesWf_iff (s : State) :
    memoriesWf s = true ↔ Memory.wf s.mailbox = true ∧ ∀ b, bankWf b (s.banks.get b) = true := by
  simp only [memoriesWf, Bool.and_eq_true]
  constructor
  · rintro ⟨⟨⟨⟨⟨⟨hm, h0⟩, h1⟩, h2⟩, h3⟩, h4⟩, h5⟩
    refine ⟨hm, fun b => ?_⟩
    cases b <;> assumption
  · rintro ⟨hm, hb⟩
    exact ⟨⟨⟨⟨⟨⟨hm, hb .d0⟩, hb .d1⟩, hb .d2⟩, hb .d3⟩, hb .p0⟩, hb .p1⟩

theorem Memory.wf_putWord {m : MailboxMemory} (hm : Memory.wf m = true) (a : MailboxAddr) (i : Fin 4) (w : Word32) :
    Memory.wf (putWord m a i w) = true :=
  Memory.wf_setWord hm ..

/-- The command writes neither memory. -/
structure LeavesMemories (s t : State) : Prop where
  mailbox : t.mailbox = s.mailbox
  banks : t.banks = s.banks

theorem LeavesMemories.refl (s : State) : LeavesMemories s s := ⟨rfl, rfl⟩

theorem LeavesMemories.wf {s t : State} (h : LeavesMemories s t) (hs : memoriesWf s = true) : memoriesWf t = true := by
  rw [memoriesWf_iff] at hs ⊢
  rwa [h.mailbox, h.banks]

theorem memoriesWf_of_mailbox {s t : State} (hs : memoriesWf s = true) (hm : Memory.wf t.mailbox = true) (hb : t.banks = s.banks) :
    memoriesWf t = true := by
  rw [memoriesWf_iff] at hs ⊢
  rw [hb]
  exact ⟨hm, hs.2⟩

/-- A bank written with a canonical memory leaves both memories canonical. -/
theorem memoriesWf_of_setBank {s t : State} {b : BankId} {m : BankMemory} (hs : memoriesWf s = true) (hm : bankWf b m = true)
    (hmail : t.mailbox = s.mailbox) (hb : t.banks = s.banks.set b m) : memoriesWf t = true := by
  rw [memoriesWf_iff] at hs ⊢
  rw [hmail, hb]
  refine ⟨hs.1, fun b' => ?_⟩
  by_cases hbb : b' = b
  · subst hbb
    rwa [PerBank.get_set_same]
  · rw [PerBank.get_set_other _ _ hbb]
    exact hs.2 b'

theorem memoriesWf_resetBlocks {s : State} (hs : memoriesWf s = true) (c : ControlUnit) (m : MapUnit) :
    memoriesWf (s.resetBlocks c m) = true := by
  rw [memoriesWf_iff] at hs ⊢
  refine ⟨by simpa using Memory.wf_afterReset s hs.1, fun b => ?_⟩
  rw [State.resetBlocks_banks]
  exact bankWf_afterReset s b (hs.2 b)

/-! ## The commands that write a memory -/

/-- The commands that can write mailbox memory or a bank. -/
def reachesMemories : Instr → Bool
  | .powerOnReset | .softReset _ | .fetchComplete _ _ | .setupLoadEnd _ _ | .completionWrite _ | .beatGrant _ _ | .beatEnd _ => true
  | _ => false

/-- R41, R138: every other command leaves both memories. -/
theorem exec_leavesMemories {c : Instr} {s t : State} (hc : reachesMemories c = false) (h : exec c s = .next t) :
    LeavesMemories s t := by
  cases c with
  | powerOnReset | softReset | fetchComplete | setupLoadEnd | completionWrite | beatGrant | beatEnd => cases hc
  | controlMaskWrite | controlUnknownCommand | select | ringctlUnknownCommand | setupWrite | statusWrite | intstatWrite =>
    cases h
    exact ⟨rfl, rfl⟩
  | enable | quiesce | abort | resume | stop | ringResume | flush | ringReset | post | ack | fetchRequest | mPortGrant
  | examination | holdoffExpiry =>
    cases h
    constructor <;> split_ifs <;> simp
  | mailboxFault =>
    simp only [exec, execMailboxFault] at h
    split at h <;> cases h
    · exact .refl s
    · constructor <;> split_ifs <;> simp
  | ready d v =>
    simp only [exec, execReady] at h
    split at h <;> cases h
    · exact .refl s
    · constructor <;> split_ifs <;> simp
  | readyTimeout =>
    simp only [exec, execReadyTimeout] at h
    split at h <;> cases h
    · exact .refl s
    · constructor <;> simp
  | handOff c =>
    rcases execHandOff_cases h with rfl | ⟨x, e, -, rfl⟩
    · exact .refl t
    · constructor <;> simp
  | flushDisposal r =>
    cases h
    split
    · exact .refl s
    · dsimp only
      constructor <;> split_ifs <;> simp

/-- R63: a fetch that ends writes at most what the host wrote before it. -/
theorem memoriesWf_execFetchComplete {host : List HostWrite} {ok : Bool} {s t : State} (hs : memoriesWf s = true)
    (h : execFetchComplete host ok s = .next t) : memoriesWf t = true := by
  have hhost : Memory.wf (mailboxHost s.mailbox host) = true := Memory.wf_host ((memoriesWf_iff s).1 hs).1 host
  unfold execFetchComplete at h
  split at h <;> cases h
  · split
    · exact memoriesWf_of_mailbox hs hhost rfl
    · split <;> exact memoriesWf_of_mailbox hs (by simpa using hhost) (by simp)
    · split <;> exact memoriesWf_of_mailbox hs (by simpa using hhost) (by simp)
  · exact hs

/-- R168: a setup read that ends writes at most what the host wrote before it. -/
theorem memoriesWf_execSetupLoadEnd {host : List HostWrite} {ok : Bool} {s t : State} (hs : memoriesWf s = true)
    (h : execSetupLoadEnd host ok s = .next t) : memoriesWf t = true := by
  have hhost : Memory.wf (mailboxHost s.mailbox host) = true := Memory.wf_host ((memoriesWf_iff s).1 hs).1 host
  unfold execSetupLoadEnd at h
  split at h <;> cases h
  · split_ifs <;> exact memoriesWf_of_mailbox hs (by simpa using hhost) (by simp)
  · exact hs

/-- R151, R153: the words of a completion record land in mailbox memory, whole or up to the one that failed. -/
theorem memoriesWf_execCompletionWrite {result : WriteEnd} {s t : State} (hs : memoriesWf s = true)
    (h : execCompletionWrite result s = .next t) : memoriesWf t = true := by
  have hmail := ((memoriesWf_iff s).1 hs).1
  unfold execCompletionWrite at h
  split at h
  · split at h
    · cases h
      exact hs
    · split at h
      · cases h
        exact hs
      · cases result with
        | done =>
          cases h
          split <;> exact memoriesWf_of_mailbox hs (by simpa using Memory.wf_putWords hmail ..) (by simp)
        | failedAt i =>
          cases h
          exact memoriesWf_of_mailbox hs (by simpa using Memory.wf_putWord (Memory.wf_putWords hmail ..) ..) (by simp)
  · cases h
    exact hs

/-- R136: what agents outside the part wrote lands in words that the bank has. -/
theorem memoriesWf_execBeatGrant {i : ArbiterId} {ws : List OutsideWrite} {s t : State} (hs : memoriesWf s = true)
    (h : execBeatGrant i ws s = .next t) : memoriesWf t = true := by
  unfold execBeatGrant at h
  split at h
  · cases h
    exact hs
  · split at h
    · cases h
      exact memoriesWf_of_mailbox hs (by simpa using ((memoriesWf_iff s).1 hs).1) (by simp)
    · next b _ =>
      split at h
      · cases h
      · next m hm =>
        cases h
        exact memoriesWf_of_setBank hs (bankWf_outside (((memoriesWf_iff s).1 hs).2 b) hm) (by simp) (by simp)

/-- R133, R138: a write beat that ends stores its value in a word that the bank has. -/
theorem memoriesWf_execBeatEnd {b : BankId} {s t : State} (hs : memoriesWf s = true) (h : execBeatEnd b s = .next t) :
    memoriesWf t = true := by
  obtain ⟨hmail, hbanks⟩ := (memoriesWf_iff s).1 hs
  unfold execBeatEnd at h
  split at h
  · cases h
    exact hs
  · next beat _ =>
    split at h
    · next hlt =>
      cases h
      split
      · exact memoriesWf_of_setBank hs (bankWf_set (hbanks b) hlt ⟨beat.value, true⟩) (by simp) (by simp)
      · exact memoriesWf_of_mailbox hs (by simpa using hmail) (by simp)
    · cases h

theorem exec_memoriesWf (c : Instr) (s t : State) (hs : memoriesWf s = true) (h : exec c s = .next t) : memoriesWf t = true := by
  cases c with
  | powerOnReset | softReset =>
    cases h
    exact memoriesWf_resetBlocks hs _ _
  | fetchComplete host ok => exact memoriesWf_execFetchComplete hs h
  | setupLoadEnd host ok => exact memoriesWf_execSetupLoadEnd hs h
  | completionWrite result => exact memoriesWf_execCompletionWrite hs h
  | beatGrant i ws => exact memoriesWf_execBeatGrant hs h
  | beatEnd b => exact memoriesWf_execBeatEnd hs h
  | _ => exact (exec_leavesMemories rfl h).wf hs

/-- Settles O51: the commands that write a memory write bytes of the mailbox and words that the bank has. -/
theorem memoriesStayCanonical : Obligations.MemoriesStayCanonical :=
  step_keeps (fun _ _ hs => hs) exec_memoriesWf

end Sys2Proof.Machine

/-! The transfers on the channels: what of a context no event of the run changes (R102), and which operations leave it. -/

namespace Sys2Proof.Machine

/-! ## The transfer of a context (R102) -/

/-- A context with the fields that the run moves cleared: what stays is the transfer, with its key (log entry 14). -/
def Context.transfer (x : Context) : Context :=
  { x with
    nextStep := 0, elementsDone := 0, residue := none, conflictBeats := 0, pendingAbort := false, ending := none, step := none }

/-- The transfer on a channel, in RUNNING or ENDING; an IDLE channel has none. -/
def Channel.transfer (ch : Channel) : Option Context := ch.context.map Context.transfer

@[simp] theorem Channel.transfer_idle : Channel.idle.transfer = none := rfl
@[simp] theorem Channel.transfer_running (x : Context) : (Channel.running x).transfer = some x.transfer := rfl
@[simp] theorem Channel.transfer_ending (x : Context) : (Channel.ending x).transfer = some x.transfer := rfl

@[simp] theorem Channel.transfer_flagAbort (ch : Channel) : ch.flagAbort.transfer = ch.transfer := by
  cases ch <;> rfl

@[simp] theorem Context.transfer_step (x : Context) (run : Option StepRun) : ({ x with step := run } : Context).transfer = x.transfer :=
  rfl

/-- The transfers on both channels. -/
def State.transfers (s : State) : PerChannel (Option Context) := ⟨s.channels.c0.transfer, s.channels.c1.transfer⟩

theorem State.transfers_get (s : State) (c : ChannelId) : s.transfers.get c = (s.channel c).transfer := by
  cases c <;> rfl

theorem State.transfers_congr {s t : State} (h : t.channels = s.channels) : t.transfers = s.transfers := by
  simp [State.transfers, h]

theorem State.transfers_of_set {s t : State} {c : ChannelId} {ch : Channel} (h : t.channels = s.channels.set c ch) :
    t.transfers = s.transfers.set c ch.transfer := by
  unfold State.transfers
  rw [h]
  cases c <;> rfl

@[simp] theorem State.setChannel_transfers (s : State) (c : ChannelId) (ch : Channel) :
    (s.setChannel c ch).transfers = s.transfers.set c ch.transfer :=
  State.transfers_of_set rfl

/-- A channel that goes on with its transfer leaves the transfers as they are. -/
theorem State.transfers_set_self {s : State} {c : ChannelId} {v : Option Context} (h : (s.channel c).transfer = v) :
    s.transfers.set c v = s.transfers := by
  rw [← h, ← State.transfers_get, PerChannel.set_get]

theorem channelsIdle_iff_transfers (s : State) : channelsIdle s = true ↔ s.transfers = PerChannel.all none := by
  unfold channelsIdle State.transfers PerChannel.all
  cases s.channels.c0 <;> cases s.channels.c1 <;> simp [Channel.isIdle]

/-! ## The transfers under the operations of the channels and arbiters -/

@[simp] theorem State.setArbiter_transfers (s : State) (i : ArbiterId) (a : Arbiter) : (s.setArbiter i a).transfers = s.transfers := rfl

@[simp] theorem State.setBank_transfers (s : State) (b : BankId) (m : BankMemory) : (s.setBank b m).transfers = s.transfers := rfl

@[simp] theorem State.freeArbiter_transfers (s : State) (i : ArbiterId) : (s.freeArbiter i).transfers = s.transfers := rfl

@[simp] theorem State.freeXPort_transfers (s : State) : s.freeXPort.transfers = s.transfers := rfl

@[simp] theorem State.flagAborts_transfers (s : State) : s.flagAborts.transfers = s.transfers := by
  simp [State.transfers, State.flagAborts]

@[simp] theorem State.countConflict_transfers (s : State) (c : ChannelId) : (s.countConflict c).transfers = s.transfers := by
  unfold State.countConflict
  split
  · rfl
  · next x hx =>
    rw [State.setChannel_transfers]
    exact State.transfers_set_self (by rw [hx]; rfl)
  · next x hx =>
    rw [State.setChannel_transfers]
    exact State.transfers_set_self (by rw [hx]; rfl)

@[simp] theorem State.countConflicts_transfers (s : State) (c : ChannelId) (n : Nat) :
    (s.countConflicts c n).transfers = s.transfers := by
  induction n generalizing s with
  | zero => rfl
  | succ n ih => simp [State.countConflicts, ih]

@[simp] theorem State.grantBeat_transfers (s : State) (i : ArbiterId) : (s.grantBeat i).transfers = s.transfers := by
  have hcounted (a : Arbiter) (m n : Nat) :
      (((s.setArbiter i a).countConflicts .c0 m).countConflicts .c1 n).transfers = s.transfers := by simp
  unfold State.grantBeat
  dsimp only
  split
  · rfl
  · split
    · exact (State.transfers_congr rfl).trans (hcounted _ _ _)
    · exact hcounted _ _ _

@[simp] theorem State.requestBeat_transfers (s : State) (b : Beat) : (s.requestBeat b).transfers = s.transfers := by
  unfold State.requestBeat
  dsimp only
  split <;> simp

@[simp] theorem State.requestBeats_transfers (s : State) (bs : List Beat) : (s.requestBeats bs).transfers = s.transfers := by
  unfold State.requestBeats
  induction bs generalizing s with
  | nil => rfl
  | cons b rest ih => simp [ih]

/-! A channel that goes on with a context goes on with its transfer, whatever its step comes to. -/

@[simp] theorem State.beginPhase_transfers (s : State) (c : ChannelId) (x : Context) (p : StepPhase) (rs : List BeatResult)
    (bs : List Beat) : (s.beginPhase c x p rs bs).transfers = s.transfers.set c (some x.transfer) := by
  simp [State.beginPhase]

@[simp] theorem State.beginStep_transfers (s : State) (c : ChannelId) (x : Context) :
    (s.beginStep c x).transfers = s.transfers.set c (some x.transfer) := by
  unfold State.beginStep
  split <;> simp

@[simp] theorem State.endTransfer_transfers (s : State) (c : ChannelId) (x : Context) (st : Status) (d : Detail) :
    (s.endTransfer c x st d).transfers = s.transfers.set c (some x.transfer) := by
  have hended : ({ x with ending := some ⟨st, d⟩, step := none } : Context).transfer = x.transfer := rfl
  unfold State.endTransfer
  dsimp only
  split_ifs <;> simp [hended]

@[simp] theorem State.stepBoundary_transfers (s : State) (c : ChannelId) (x : Context) :
    (s.stepBoundary c x).transfers = s.transfers.set c (some x.transfer) := by
  unfold State.stepBoundary
  split_ifs <;> simp

@[simp] theorem State.finishStep_transfers (s : State) (c : ChannelId) (x : Context) (w : Option W16) :
    (s.finishStep c x w).transfers = s.transfers.set c (some x.transfer) :=
  State.stepBoundary_transfers ..

@[simp] theorem State.failStep_transfers (s : State) (c : ChannelId) (x : Context) (f : BeatResult) :
    (s.failStep c x f).transfers = s.transfers.set c (some x.transfer) :=
  State.endTransfer_transfers ..

@[simp] theorem contextAfterFailedWrite_transfer (x : Context) (rs : List BeatResult) :
    (contextAfterFailedWrite x rs).transfer = x.transfer := by
  unfold contextAfterFailedWrite
  split_ifs <;> rfl

@[simp] theorem State.readsEnded_transfers (s : State) (c : ChannelId) (x : Context) (rs : List BeatResult) :
    (s.readsEnded c x rs).transfers = s.transfers.set c (some x.transfer) := by
  unfold State.readsEnded
  dsimp only
  split
  · simp
  · split
    · split
      · simp
      · exact State.endTransfer_transfers ..
    · split <;> simp
    all_goals simp

@[simp] theorem State.writesEnded_transfers (s : State) (c : ChannelId) (x : Context) (rs : List BeatResult) :
    (s.writesEnded c x rs).transfers = s.transfers.set c (some x.transfer) := by
  unfold State.writesEnded
  split
  · split <;> simp
  · simp

@[simp] theorem State.earlyEnded_transfers (s : State) (c : ChannelId) (x : Context) (rs : List BeatResult) :
    (s.earlyEnded c x rs).transfers = s.transfers.set c (some x.transfer) := by
  unfold State.earlyEnded
  rw [State.setChannel_transfers]
  split <;> split <;> rfl

@[simp] theorem State.phaseEnded_transfers (s : State) (c : ChannelId) (x : Context) (run : StepRun) :
    (s.phaseEnded c x run).transfers = s.transfers.set c (some x.transfer) := by
  unfold State.phaseEnded
  split <;> simp

/-- R103: a returned beat moves its transfer on, and begins and ends none. -/
@[simp] theorem State.beatReturns_transfers (s : State) (b : Beat) (o : BeatOutcome) :
    (s.beatReturns b o).transfers = s.transfers := by
  unfold State.beatReturns
  split
  · next x hx =>
    have hself : s.transfers.set b.channel (some x.transfer) = s.transfers := State.transfers_set_self (by rw [hx]; rfl)
    split
    · dsimp only
      split
      · simp [hself]
      · split <;> simp [hself]
    · rfl
  · rfl
  · rfl

/-! ## The transfers under the commands -/

theorem execBeatGrant_transfers {i : ArbiterId} {ws : List OutsideWrite} {s t : State} (h : execBeatGrant i ws s = .next t) :
    t.transfers = s.transfers := by
  unfold execBeatGrant at h
  split at h
  · cases h
    rfl
  · split at h
    · cases h
      simp
    · split at h <;> cases h
      simp

theorem execBeatEnd_transfers {b : BankId} {s t : State} (h : execBeatEnd b s = .next t) : t.transfers = s.transfers := by
  unfold execBeatEnd at h
  split at h
  · cases h
    rfl
  · split at h <;> cases h
    split <;> simp

theorem execReady_transfers {d : DeviceId} {v : W24} {s t : State} (h : execReady d v s = .next t) : t.transfers = s.transfers := by
  unfold execReady at h
  split at h <;> cases h
  · rfl
  · split <;> simp

theorem execReadyTimeout_transfers {s t : State} (h : execReadyTimeout s = .next t) : t.transfers = s.transfers := by
  unfold execReadyTimeout at h
  split at h <;> cases h
  · rfl
  · simp

/-- R112, R170: an abort flags the transfers on the channels and leaves them there. -/
theorem execAbort_transfers {m : Sources} {s t : State} (h : execAbort m s = .next t) : t.transfers = s.transfers := by
  cases h
  split
  · rw [State.transfers_congr (State.drainPart_channels _), State.flagAborts_transfers]
    rfl
  · rfl

/-- R99: a transfer taken goes to the free channel. -/
@[simp] theorem State.issueTransfer_transfers (s : State) (r : RingId) (p : Prefetched) (k : Kind) (a b c : Option Extent)
    (d : Direction) :
    (s.issueTransfer r p k a b c d).transfers =
      s.transfers.set (freeChannel s) (some (contextAtTaking s r p k a b c d).transfer) :=
  State.beginStep_transfers ..

end Sys2Proof.Machine

/-! The in-flight counts (R54, R66, R69, R153): where a ring's records stand, and that every step counts them. -/

namespace Sys2Proof.Machine

/-! ## Where the records of the rings stand (R54, R66) -/

/-- The rings of the transfers on the channels. -/
def transferRings (ts : PerChannel (Option Context)) : List RingId := (ts.c0.toList ++ ts.c1.toList).map (·.ring)

/-- The rings of the records that stand on a channel, in the post queue or as the pending switch, one for each record. -/
def State.standing (s : State) : List RingId :=
  transferRings s.transfers ++ (s.writer.postQueue.map (·.ring) ++ s.map.pendingSwitch.toList.map (·.ring))

theorem State.standing_congr {s t : State} (htransfers : t.transfers = s.transfers)
    (hqueue : t.writer.postQueue = s.writer.postQueue) (hswitch : t.map.pendingSwitch = s.map.pendingSwitch) :
    t.standing = s.standing := by
  rw [State.standing, htransfers, hqueue, hswitch, State.standing]

theorem located_eq_count (s : State) (r : RingId) : located s r = s.standing.count r := by
  have hqueue : (s.writer.postQueue.filter fun e => decide (e.ring = r)).length = (s.writer.postQueue.map (·.ring)).count r := by
    rw [List.count, List.countP_map, List.countP_eq_length_filter]
    rfl
  have hchannel (ch : Channel) :
      (match ch.context with
        | some x => if x.ring = r then 1 else 0
        | none => 0) = (ch.transfer.toList.map (·.ring)).count r := by
    cases ch <;> simp [Channel.context, Context.transfer, List.count_singleton]
  have hswitch :
      (match s.map.pendingSwitch with
        | some w => if w.ring = r then 1 else 0
        | none => 0) = (s.map.pendingSwitch.toList.map (·.ring)).count r := by
    cases s.map.pendingSwitch <;> simp [List.count_singleton]
  have hsum := congrArg₂ (· + ·) (congrArg₂ (· + ·) (congrArg₂ (· + ·) (hchannel s.channels.c0) (hchannel s.channels.c1)) hqueue) hswitch
  calc located s r = _ := hsum
    _ = s.standing.count r := by
      simp only [State.standing, transferRings, State.transfers, List.map_append, List.count_append, Nat.add_assoc]

/-- R54: at most two records stand on the channels, and one as the pending switch. -/
theorem State.standing_length_le (s : State) : s.standing.length ≤ s.writer.postQueue.length + 3 := by
  have hoption {α : Type} (v : Option α) : v.toList.length ≤ 1 := by cases v <;> simp
  have h0 := hoption s.transfers.c0
  have h1 := hoption s.transfers.c1
  have h2 := hoption s.map.pendingSwitch
  simp only [State.standing, transferRings, List.length_append, List.length_map]
  omega

theorem State.standing_eq_nil_iff (s : State) :
    s.standing = [] ↔ s.writer.postQueue = [] ∧ channelsIdle s = true ∧ s.map.pendingSwitch = none := by
  simp only [channelsIdle_iff_transfers, State.standing, transferRings, PerChannel.all]
  cases s.transfers with
  | mk v0 v1 => cases v0 <;> cases v1 <;> simp

/-- A transfer that goes to a channel that had none. -/
theorem transferRings_set_some {ts : PerChannel (Option Context)} {c : ChannelId} (h : ts.get c = none) (x : Context) :
    (transferRings (ts.set c (some x))).Perm (x.ring :: transferRings ts) := by
  obtain ⟨v0, v1⟩ := ts
  cases c <;> cases h
  · exact .refl _
  · simp [transferRings, PerChannel.set]

/-- A transfer that leaves its channel. -/
theorem transferRings_set_none {ts : PerChannel (Option Context)} {c : ChannelId} {x : Context} (h : ts.get c = some x) :
    (transferRings ts).Perm (x.ring :: transferRings (ts.set c none)) := by
  obtain ⟨v0, v1⟩ := ts
  cases c <;> cases h
  · exact .refl _
  · simp [transferRings, PerChannel.set]

/-! ## The law in terms of where the records stand -/

/-- The in-flight count of a ring against the number of its records that stand somewhere (R54, R66, R69, R153). -/
structure RingCounted (p : PartState) (g : Ring) (n : Nat) : Prop where
  bounded : g.inFlight ≤ 11
  covered : n ≤ g.inFlight
  counted : p ≠ .halted → g.inFlight = n
  stopped : g.phase = .stopped → g.inFlight = 0
  stopping : g.phase = .stopping → 0 < g.inFlight

/-- The rings count the records that stand somewhere; in OFF and LOADING none does, and every ring is DISABLED (R165). -/
structure CountsRecords (p : PartState) (ring : RingId → Ring) (standing : List RingId) : Prop where
  each : ∀ r, RingCounted p (ring r) (standing.count r)
  quiet : p = .off ∨ p = .loading → (∀ r, (ring r).phase = .disabled) ∧ standing = []

theorem inFlightLaw_iff (s : State) :
    inFlightLaw s ↔
      s.map.retiring.isSome = s.map.pendingSwitch.isSome ∧ CountsRecords s.control.part s.ring s.standing := by
  simp only [inFlightLaw, quietWhenOff, located_eq_count, ← State.standing_eq_nil_iff]
  constructor
  · rintro ⟨hquiet, hpaired, heach⟩
    refine ⟨hpaired, fun r => ?_, hquiet⟩
    obtain ⟨hbounded, hcovered, hcounted, hstopped, hstopping⟩ := heach r
    exact ⟨hbounded, hcovered, hcounted, hstopped, hstopping⟩
  · rintro ⟨hpaired, heach, hquiet⟩
    refine ⟨hquiet, hpaired, fun r => ?_⟩
    obtain ⟨hbounded, hcovered, hcounted, hstopped, hstopping⟩ := heach r
    exact ⟨hbounded, hcovered, hcounted, hstopped, hstopping⟩

/-- Nothing stands anywhere, and no ring counts anything. -/
theorem CountsRecords.empty {p : PartState} {ring : RingId → Ring} (hzero : ∀ r, (ring r).inFlight = 0)
    (hphase : ∀ r, (ring r).phase ≠ .stopping) (hquiet : p = .off ∨ p = .loading → ∀ r, (ring r).phase = .disabled) :
    CountsRecords p ring [] where
  each r := ⟨by simp [hzero], by simp, fun _ => hzero r, fun _ => hzero r, fun h => absurd h (hphase r)⟩
  quiet hp := ⟨hquiet hp, rfl⟩

/-! ## What a ring can do without a record moving (R65, R68 to R75) -/

/-- The ring keeps its in-flight count; it enters STOPPED only with none in flight and STOPPING only with some, and does not leave
DISABLED. -/
structure RingKept (g g' : Ring) : Prop where
  inFlight : g'.inFlight = g.inFlight
  stopped : g'.phase = .stopped → g.phase = .stopped ∨ g.inFlight = 0
  stopping : g'.phase = .stopping → g.phase = .stopping ∨ 0 < g.inFlight
  disabled : g.phase = .disabled → g'.phase = .disabled

theorem RingKept.refl (g : Ring) : RingKept g g := ⟨rfl, .inl, .inl, id⟩

theorem RingKept.of_eq {g g' : Ring} (h : g' = g) : RingKept g g' := h ▸ .refl g

theorem RingKept.of_phase {g g' : Ring} (hcount : g'.inFlight = g.inFlight) (hphase : g'.phase = g.phase) : RingKept g g' :=
  ⟨hcount, fun h => .inl (hphase ▸ h), fun h => .inl (hphase ▸ h), fun h => hphase.trans h⟩

/-- A ring that is not DISABLED enters a state other than STOPPED and STOPPING. -/
theorem RingKept.of_move {g g' : Ring} (hcount : g'.inFlight = g.inFlight) (hfrom : g.phase ≠ .disabled)
    (hstopped : g'.phase ≠ .stopped) (hstopping : g'.phase ≠ .stopping) : RingKept g g' :=
  ⟨hcount, fun h => absurd h hstopped, fun h => absurd h hstopping, fun h => absurd h hfrom⟩

theorem RingKept.trans {g g' g'' : Ring} (h : RingKept g g') (h' : RingKept g' g'') : RingKept g g'' where
  inFlight := h'.inFlight.trans h.inFlight
  stopped hp := (h'.stopped hp).elim h.stopped fun h0 => .inr (h.inFlight ▸ h0)
  stopping hp := (h'.stopping hp).elim h.stopping fun h0 => .inr (h.inFlight ▸ h0)
  disabled hp := h'.disabled (h.disabled hp)

/-! ## What moves the counts -/

theorem RingCounted.kept {p p' : PartState} {g g' : Ring} {n : Nat} (h : RingCounted p g n) (hpart : p' ≠ .halted → p ≠ .halted)
    (hring : RingKept g g') : RingCounted p' g' n where
  bounded := hring.inFlight ▸ h.bounded
  covered := hring.inFlight ▸ h.covered
  counted hp := hring.inFlight ▸ h.counted (hpart hp)
  stopped hp := hring.inFlight ▸ (hring.stopped hp).elim h.stopped id
  stopping hp := hring.inFlight ▸ (hring.stopping hp).elim h.stopping id

/-- R163: a part that is not HALTED after a change was not before. -/
theorem stageKept.ne_halted {p p' : PartState} (h : stageKept p p') (hp' : p' ≠ .halted) : p ≠ .halted := by
  rintro rfl
  obtain ⟨hoff, hwork⟩ := h
  have hrest : ¬(p' = .off ∨ p' = .loading) := fun hq => by simpa using hoff hq
  exact (hwork ⟨fun hq => hrest (.inl hq), fun hq => hrest (.inr hq), hp'⟩).2.2 rfl

/-- No record moves, but for one that changes its place, and the part is held to no more than before. -/
theorem CountsRecords.kept {p p' : PartState} {ring ring' : RingId → Ring} {l l' : List RingId} (h : CountsRecords p ring l)
    (hpart : stageKept p p') (hring : ∀ r, RingKept (ring r) (ring' r)) (hl : l'.Perm l) : CountsRecords p' ring' l' where
  each r := hl.count_eq r ▸ (h.each r).kept hpart.ne_halted (hring r)
  quiet hp := by
    obtain ⟨hdisabled, rfl⟩ := h.quiet (hpart.1 hp)
    exact ⟨fun r => (hring r).disabled (hdisabled r), hl.eq_nil⟩

/-- R66: a record of a ring comes to stand somewhere, in a part that works, and the ring counts it. -/
theorem CountsRecords.add {p : PartState} {ring ring' : RingId → Ring} {l l' : List RingId} (h : CountsRecords p ring l) {r : RingId}
    (hpart : p.working) (hcount : (ring' r).inFlight = (ring r).inFlight + 1) (hphase : (ring' r).phase ≠ .stopped)
    (hother : ∀ r', r' ≠ r → RingKept (ring r') (ring' r')) (hl : l'.Perm (r :: l)) (hlength : l'.length ≤ 11) :
    CountsRecords p ring' l' where
  each r' := by
    have hcounts := hl.count_eq r'
    by_cases hr : r' = r
    · subst hr
      have hexact := (h.each r').counted hpart.2.2
      have hmany : l'.count r' ≤ l'.length := List.count_le_length
      rw [List.count_cons_self] at hcounts
      exact ⟨by omega, by omega, fun _ => by omega, fun hp => absurd hp hphase, fun _ => by omega⟩
    · rw [hcounts, List.count_cons_of_ne (Ne.symm hr)]
      exact (h.each r').kept id (hother r' hr)
  quiet hp := (hp.elim hpart.1 hpart.2.1).elim

/-- R151: a record of a ring is written, outside HALTED, and the ring counts it no more. -/
theorem CountsRecords.remove {p : PartState} {ring ring' : RingId → Ring} {l l' : List RingId} (h : CountsRecords p ring l)
    {r : RingId} (hpart : p ≠ .halted) (hcount : (ring' r).inFlight = (ring r).inFlight - 1)
    (hstopped : (ring' r).phase = .stopped → (ring r).phase = .stopped ∨ (ring' r).inFlight = 0)
    (hstopping : (ring' r).phase = .stopping → 0 < (ring' r).inFlight)
    (hother : ∀ r', r' ≠ r → ring' r' = ring r') (hl : l.Perm (r :: l')) : CountsRecords p ring' l' where
  each r' := by
    have hcounts := hl.count_eq r'
    by_cases hr : r' = r
    · subst hr
      obtain ⟨hbounded, -, hcounted, hwas, -⟩ := h.each r'
      have hexact := hcounted hpart
      rw [List.count_cons_self] at hcounts
      have hzero (hp : (ring' r').phase = .stopped) : (ring' r').inFlight = 0 := (hstopped hp).elim (fun h0 => by
        have hnone := hwas h0
        omega) id
      exact ⟨by omega, by omega, fun _ => by omega, hzero, hstopping⟩
    · rw [List.count_cons_of_ne (Ne.symm hr)] at hcounts
      rw [hother r' hr, ← hcounts]
      exact h.each r'
  quiet hp := by
    obtain ⟨-, rfl⟩ := h.quiet hp
    exact absurd hl.symm.eq_nil (by simp)

/-- R153, R172: in HALTED a record can leave without the counts, which are frozen. -/
theorem CountsRecords.lose {p : PartState} {ring : RingId → Ring} {l l' : List RingId} (h : CountsRecords p ring l)
    (hl : l'.Sublist l) : CountsRecords .halted ring l' where
  each r := by
    obtain ⟨hbounded, hcovered, -, hstopped, hstopping⟩ := h.each r
    exact ⟨hbounded, (hl.count_le r).trans hcovered, fun hp => absurd rfl hp, hstopped, hstopping⟩
  quiet hp := by simp at hp

end Sys2Proof.Machine

/-! The commands that move no record: their rings keep their in-flight counts (R54, R66). -/

namespace Sys2Proof.Machine

/-! ## The rings under the shared operations -/

/-- No ring counts a record more or less (R66). -/
def RingsKept (s t : State) : Prop := ∀ r, RingKept (s.ring r) (t.ring r)

theorem RingsKept.refl (s : State) : RingsKept s s := fun _ => .refl _

theorem RingsKept.trans {s t u : State} (h : RingsKept s t) (h' : RingsKept t u) : RingsKept s u := fun r => (h r).trans (h' r)

theorem RingsKept.of_rings {s t : State} (h : t.ringManager.rings = s.ringManager.rings) : RingsKept s t :=
  fun r => .of_eq (by rw [State.ring, h, State.ring])

theorem ringsKept_setRing {s : State} {r : RingId} {g : Ring} (h : RingKept (s.ring r) g) : RingsKept s (s.setRing r g) := by
  intro r'
  rw [State.ring_setRing]
  split
  · next hr => exact hr ▸ h
  · exact .refl _

theorem ringsKept_refreshFlush (s : State) (r : RingId) : RingsKept s (s.refreshFlush r) := by
  unfold State.refreshFlush
  split
  · exact ringsKept_setRing (.of_phase rfl rfl)
  · exact .refl s

/-- R76: of the rings, a withdrawn disposal changes at most the reservation that its own holds. -/
theorem State.withdrawDisposal_ring (s : State) (r r' : RingId) :
    (s.withdrawDisposal r).ring r' = s.ring r' ∨
      (s.withdrawDisposal r).ring r' = { s.ring r' with disposalReserved := false } := by
  unfold State.withdrawDisposal
  dsimp only
  split
  · by_cases hr : r' = r
    · subst hr
      exact .inr (State.ring_setRing_same s r' _)
    · exact .inl (State.ring_setRing_other s _ hr)
  · exact .inl rfl

theorem ringsKept_withdrawDisposal (s : State) (r : RingId) : RingsKept s (s.withdrawDisposal r) := fun r' =>
  (s.withdrawDisposal_ring r r').elim RingKept.of_eq fun h => .of_phase (by rw [h]) (by rw [h])

/-- R78: a ring with none in flight enters STOPPED. -/
theorem ringsKept_enterStopped {s : State} {r : RingId} (hfrom : (s.ring r).phase ≠ .disabled) (hzero : (s.ring r).inFlight = 0) :
    RingsKept s (s.enterStopped r) :=
  ringsKept_setRing (s := s) ⟨rfl, fun _ => .inr hzero, nofun, fun h => absurd h hfrom⟩

/-- R75: a flush ends with none in flight. -/
theorem ringsKept_endFlush {s : State} {r : RingId} (hfrom : (s.ring r).phase ≠ .disabled) (hzero : (s.ring r).inFlight = 0) :
    RingsKept s (s.endFlush r) :=
  ringsKept_setRing (s := s) ⟨rfl, fun _ => .inr hzero, nofun, fun h => absurd h hfrom⟩

theorem ringsKept_joinRecord (s : State) (r : RingId) (req : FetchRequest) : RingsKept s (s.joinRecord r req) := by
  have hjoined (p : Prefetched) :
      RingsKept s (s.setRing r { s.ring r with queue := (s.ring r).queue ++ [p], fetch := (s.ring r).fetch + 1 }) :=
    ringsKept_setRing (.of_phase rfl rfl)
  unfold State.joinRecord
  dsimp only
  split_ifs
  · exact hjoined _
  · exact ((hjoined _).trans (ringsKept_refreshFlush _ r)).trans (.of_rings rfl)
  · exact (hjoined _).trans (ringsKept_refreshFlush _ r)

/-- R58, R59: a POST that overruns or retracts takes a ring that is not DISABLED to FAULTED. -/
theorem ringsKept_postFault {s : State} {r : RingId} (cause : FaultCause) (hfrom : (s.ring r).phase ≠ .disabled) :
    RingsKept s (s.postFault r cause) := by
  have hwithdraw := ringsKept_withdrawDisposal s r
  have hphase : ((s.withdrawDisposal r).ring r).phase = (s.ring r).phase := by
    rcases s.withdrawDisposal_ring r r with h | h <;> rw [h]
  unfold State.postFault
  split
  · exact .refl s
  · exact hwithdraw.trans (ringsKept_setRing (s := s.withdrawDisposal r)
      (.of_move rfl (by rwa [hphase]) (by simp [Ring.enter]) (by simp [Ring.enter])))

/-- R60: a POST that is applied moves the tail, and takes an IDLE ring to ACTIVE. -/
theorem ringsKept_postApply (s : State) (r : RingId) (tail : Count) : RingsKept s (s.postApply r tail) := by
  have htail : RingsKept s (s.setRing r { s.ring r with tail := tail }) := ringsKept_setRing (.of_phase rfl rfl)
  unfold State.postApply
  dsimp only
  split
  · next hidle =>
    refine htail.trans (ringsKept_setRing (s := s.setRing r { s.ring r with tail := tail }) ?_)
    exact .of_move rfl (by simp [hidle.1]) (by simp [Ring.enter]) (by simp [Ring.enter])
  · exact htail

/-! ## The rings under the commands -/

/-- R68: STOP from IDLE or ACTIVE leads to STOPPED with none in flight, and else to STOPPING. -/
theorem execStop_ringsKept {r : RingId} {s t : State} (h : execStop r s = .next t) : RingsKept s t := by
  cases h
  split
  · next htaken =>
    have hfrom : (s.ring r).phase ≠ .disabled := by
      rcases (show (s.ring r).phase = .idle ∨ (s.ring r).phase = .active from htaken.2) with hp | hp <;> simp [hp]
    split
    · next hzero => exact ringsKept_enterStopped (s := s.selectRing r) hfrom hzero
    · next hsome =>
      refine ringsKept_setRing (s := s.selectRing r) ⟨rfl, nofun, fun _ => .inr (Nat.pos_of_ne_zero hsome), ?_⟩
      exact fun hp => absurd hp hfrom
  · exact .refl s

/-- R70: RESUME leads from STOPPED to ACTIVE or IDLE. -/
theorem execRingResume_ringsKept {r : RingId} {s t : State} (h : execRingResume r s = .next t) : RingsKept s t := by
  cases h
  split
  · next htaken =>
    have hfrom : (s.ring r).phase ≠ .disabled := by simp [show (s.ring r).phase = .stopped from htaken.2]
    split
    · exact ringsKept_setRing (s := s.selectRing r) (.of_move rfl hfrom (by simp [Ring.enter]) (by simp [Ring.enter]))
    · exact ringsKept_setRing (s := s.selectRing r) (.of_move rfl hfrom (by simp [Ring.enter]) (by simp [Ring.enter]))
  · exact .refl s

/-- R73, R75: FLUSH leads to FLUSHING, and from there at once to STOPPED when there is nothing to dispose of. -/
theorem execFlush_ringsKept {r : RingId} {s t : State} (hs : (s.ring r).phase = .stopped → (s.ring r).inFlight = 0)
    (h : execFlush r s = .next t) : RingsKept s t := by
  cases h
  split
  · next htaken =>
    have hphase : (s.ring r).phase = .stopped ∨ (s.ring r).phase = .faulted ∧ (s.ring r).inFlight = 0 := htaken.2
    have hfrom : (s.ring r).phase ≠ .disabled := by rcases hphase with hp | ⟨hp, -⟩ <;> simp [hp]
    have hzero : (s.ring r).inFlight = 0 := hphase.elim hs And.right
    have hflushing : RingsKept s
        ((s.selectRing r).setRing r { (s.ring r).enter .flushing with flushTarget := (s.ring r).tail }) :=
      ringsKept_setRing (s := s.selectRing r) (.of_move rfl hfrom (by simp [Ring.enter]) (by simp [Ring.enter]))
    dsimp only
    split
    · exact hflushing.trans (ringsKept_endFlush (by simp [Ring.enter]) (by simpa [Ring.enter] using hzero))
    · exact hflushing.trans (ringsKept_refreshFlush _ r)
  · exact .refl s

/-- R71: RESET leads from STOPPED or FAULTED to IDLE. -/
theorem execRingReset_ringsKept {r : RingId} {s t : State} (h : execRingReset r s = .next t) : RingsKept s t := by
  cases h
  split
  · next htaken =>
    have hfrom : (s.ring r).phase ≠ .disabled := by
      rcases (show (s.ring r).phase = .stopped ∨ (s.ring r).phase = .faulted from htaken.2.1) with hp | hp <;> simp [hp]
    exact ringsKept_setRing (s := s.selectRing r) (.of_move rfl hfrom (by simp [Ring.enter]) (by simp [Ring.enter]))
  · exact .refl s

theorem execPost_ringsKept {r : RingId} {tail : Count} {s t : State} (h : execPost r tail s = .next t) : RingsKept s t := by
  cases h
  split
  · exact .of_rings rfl
  · next htaken =>
    have hfrom : (s.ring r).phase ≠ .disabled := fun hp => htaken (.inr (.inr (.inr hp)))
    split
    · exact ringsKept_postFault _ hfrom
    · split
      · exact ringsKept_postFault _ hfrom
      · exact ringsKept_postApply s r tail

theorem execFetchComplete_ringsKept {host : List HostWrite} {ok : Bool} {s t : State} (h : execFetchComplete host ok s = .next t) :
    RingsKept s t := by
  unfold execFetchComplete at h
  split at h <;> cases h
  · split
    · exact .of_rings rfl
    · split <;> exact .of_rings rfl
    · split
      · exact ringsKept_joinRecord { s with mailbox := mailboxHost s.mailbox host }.freePort _ _
      · exact .of_rings rfl
  · exact .refl s

/-! ## The commands that move no record -/

/-- The commands that can move a record to where it is counted, or from there, or set a ring anew. -/
def reachesRecords : Instr → Bool
  | .powerOnReset | .softReset _ | .setupLoadEnd _ _ | .mailboxFault | .examination | .handOff _ | .flushDisposal _
  | .completionWrite _ => true
  | _ => false

/-- The command moves no record into the post queue or out of it, and no ring counts one more or less. -/
structure LeavesRecords (s t : State) : Prop where
  rings : RingsKept s t
  postQueue : t.writer.postQueue = s.writer.postQueue

theorem LeavesRecords.of_blocks {s t : State} (hrings : t.ringManager.rings = s.ringManager.rings)
    (hqueue : t.writer.postQueue = s.writer.postQueue) : LeavesRecords s t :=
  ⟨.of_rings hrings, hqueue⟩

theorem LeavesRecords.refl (s : State) : LeavesRecords s s := ⟨.refl s, rfl⟩

theorem execBeatGrant_leavesRecords {i : ArbiterId} {ws : List OutsideWrite} {s t : State} (h : execBeatGrant i ws s = .next t) :
    LeavesRecords s t := by
  unfold execBeatGrant at h
  split at h
  · cases h
    exact .refl s
  · split at h
    · cases h
      exact .of_blocks (by simp) (by simp)
    · split at h <;> cases h
      exact .of_blocks (by simp) (by simp)

theorem execBeatEnd_leavesRecords {b : BankId} {s t : State} (h : execBeatEnd b s = .next t) : LeavesRecords s t := by
  unfold execBeatEnd at h
  split at h
  · cases h
    exact .refl s
  · split at h <;> cases h
    split <;> exact .of_blocks (by simp) (by simp)

theorem execReady_leavesRecords {d : DeviceId} {v : W24} {s t : State} (h : execReady d v s = .next t) : LeavesRecords s t := by
  unfold execReady at h
  split at h <;> cases h
  · exact .refl s
  · split
    · exact .of_blocks (by simp) (by simp)
    · exact .refl s

theorem execReadyTimeout_leavesRecords {s t : State} (h : execReadyTimeout s = .next t) : LeavesRecords s t := by
  unfold execReadyTimeout at h
  split at h <;> cases h
  · exact .refl s
  · exact .of_blocks (by simp) (by simp)

theorem execPost_postQueue {r : RingId} {tail : Count} {s t : State} (h : execPost r tail s = .next t) :
    t.writer.postQueue = s.writer.postQueue := by
  cases h
  simp only [State.postFault, State.withdrawDisposal]
  split_ifs <;> simp

theorem execFetchComplete_postQueue {host : List HostWrite} {ok : Bool} {s t : State} (h : execFetchComplete host ok s = .next t) :
    t.writer.postQueue = s.writer.postQueue := by
  unfold execFetchComplete at h
  split at h <;> cases h
  · split
    · rfl
    · split <;> rfl
    · split <;> simp
  · rfl

/-- R54, R66: the other commands move no record. `hs` is what the law says of a STOPPED ring (R69), from which a FLUSH may end at
once. -/
theorem exec_leavesRecords {c : Instr} {s t : State} (hc : reachesRecords c = false)
    (hs : ∀ r, (s.ring r).phase = .stopped → (s.ring r).inFlight = 0) (h : exec c s = .next t) : LeavesRecords s t := by
  cases c with
  | powerOnReset | softReset | setupLoadEnd | mailboxFault | examination | handOff | flushDisposal | completionWrite => cases hc
  | controlMaskWrite | controlUnknownCommand | select | ringctlUnknownCommand | setupWrite | statusWrite | intstatWrite =>
    cases h
    exact .of_blocks rfl rfl
  | enable | quiesce | abort | resume | ack | fetchRequest | mPortGrant | holdoffExpiry =>
    cases h
    apply LeavesRecords.of_blocks <;> split_ifs <;> simp
  | stop r =>
    refine ⟨execStop_ringsKept h, ?_⟩
    cases h
    split_ifs <;> simp
  | ringResume r =>
    refine ⟨execRingResume_ringsKept h, ?_⟩
    cases h
    split_ifs <;> simp
  | flush r =>
    refine ⟨execFlush_ringsKept (hs r) h, ?_⟩
    cases h
    split_ifs <;> simp
  | ringReset r =>
    refine ⟨execRingReset_ringsKept h, ?_⟩
    cases h
    split_ifs <;> simp
  | post r tail => exact ⟨execPost_ringsKept h, execPost_postQueue h⟩
  | fetchComplete host ok => exact ⟨execFetchComplete_ringsKept h, execFetchComplete_postQueue h⟩
  | beatGrant i ws => exact execBeatGrant_leavesRecords h
  | beatEnd b => exact execBeatEnd_leavesRecords h
  | ready d v => exact execReady_leavesRecords h
  | readyTimeout => exact execReadyTimeout_leavesRecords h

end Sys2Proof.Machine

/-! The commands that move a record: takings, hand-offs, disposals, completion writes, mailbox faults, resets and loads keep the
in-flight counts (R54, R66, R69, R75, R151, R153, R168, R172). -/

namespace Sys2Proof.Machine

/-! ## The commands that move none -/

theorem exec_transfers_kept {c : Instr} {s t : State} (hc : reachesRecords c = false) (h : exec c s = .next t) :
    t.transfers = s.transfers := by
  cases c with
  | powerOnReset | softReset | setupLoadEnd | mailboxFault | examination | handOff | flushDisposal | completionWrite => cases hc
  | abort m => exact execAbort_transfers h
  | beatGrant i ws => exact execBeatGrant_transfers h
  | beatEnd b => exact execBeatEnd_transfers h
  | ready d v => exact execReady_transfers h
  | readyTimeout => exact execReadyTimeout_transfers h
  | _ => exact State.transfers_congr (leavesTransfers_of_exec rfl h).channels

theorem exec_map_kept {c : Instr} {s t : State} (hc : reachesRecords c = false) (h : exec c s = .next t) : t.map = s.map := by
  cases c with
  | powerOnReset | softReset | setupLoadEnd | mailboxFault | examination | handOff | flushDisposal | completionWrite => cases hc
  | quiesce m => exact (execQuiesce_bindings h).1
  | abort m => exact (execAbort_bindings h).1
  | _ => exact (exec_leavesBindings rfl h).map

/-- The counts of a state whose records stand where they stood. -/
theorem LeavesRecords.countsRecords {s t : State} (h : LeavesRecords s t) (hs : CountsRecords s.control.part s.ring s.standing)
    (hstage : stageKept s.control.part t.control.part) (htransfers : t.transfers = s.transfers) (hmap : t.map = s.map) :
    CountsRecords t.control.part t.ring t.standing :=
  hs.kept hstage h.rings (.of_eq (State.standing_congr htransfers h.postQueue (by rw [hmap])))

/-! ## An entry handed to the post queue (R77, R149) -/

/-- R77: of a ring with a record in flight, stop-on-error can make a STOPPING one. -/
theorem ringsKept_handEntry {s : State} {e : Completion} (hpos : 0 < (s.ring e.ring).inFlight) : RingsKept s (s.handEntry e) := by
  unfold State.handEntry
  rcases State.stopOnError_cases (s.setPostQueue (s.writer.postQueue ++ [e])) e.ring e.status with h | ⟨-, -, hphase, h⟩
  · rw [h]
    exact .of_rings rfl
  · rw [h]
    have hfrom : (s.ring e.ring).phase ≠ .disabled := by
      rcases (show (s.ring e.ring).phase = .idle ∨ (s.ring e.ring).phase = .active from hphase) with hp | hp <;> simp [hp]
    exact ringsKept_setRing (s := s.setPostQueue (s.writer.postQueue ++ [e]))
      ⟨rfl, nofun, fun _ => .inr hpos, fun hp => absurd hp hfrom⟩

/-- R149: a handed entry's record stands in the post queue. -/
theorem State.handEntry_standing (s : State) (e : Completion) : (s.handEntry e).standing.Perm (e.ring :: s.standing) := by
  have htransfers : (s.handEntry e).transfers = s.transfers := State.transfers_congr (s.handEntry_channels e)
  rw [List.perm_iff_count]
  intro r
  simp only [State.standing, htransfers, State.handEntry_writer, State.handEntry_map, List.map_append, List.count_append,
    List.map_cons, List.map_nil, List.count_cons, List.count_nil]
  omega

/-! ## Takings (R66, R96, R99, R100) -/

/-- R96, R99, R100: the record carried out comes to stand on a channel, in the post queue, or as the pending switch. -/
theorem State.carryOut_standing {s : State} {r : RingId} (p : Prefetched) {plan : Plan}
    (hfree : ∀ k a b c d, plan = .transfer k a b c d → s.channel (freeChannel s) = .idle)
    (hnone : plan = .mapswitch → s.map.pendingSwitch = none) : (s.carryOut r p plan).standing.Perm (r :: s.standing) := by
  have hcompleted (m : MapUnit) (st : Status) (d : Detail) (hm : m.pendingSwitch = s.map.pendingSwitch) :
      ((s.setMap m).completeHead r p st d).standing.Perm (r :: s.standing) := by
    have hsame : (s.setMap m).standing = s.standing := State.standing_congr rfl rfl hm
    exact hsame ▸ State.handEntry_standing (s.setMap m) _
  cases plan with
  | refuse st d => exact hcompleted s.map st d rfl
  | complete => exact hcompleted s.map .ok .none rfl
  | mapset i e => exact hcompleted _ .ok .none rfl
  | maprevert => exact hcompleted _ .ok .none rfl
  | mapswitch =>
    simp only [State.carryOut]
    split
    · next hbound =>
      have hqueue : (s.setMap (mapAfterSwitch s.map ⟨r, p.slot, p.record.tag⟩)).standing = s.standing ++ [r] := by
        simp [State.standing, State.transfers, mapAfterSwitch, hbound, hnone rfl]
      rw [hqueue]
      exact List.perm_append_singleton r s.standing
    · next hbound => exact hcompleted _ .ok .none (by simp [mapAfterSwitch, hbound])
  | transfer k a b c d =>
    have hidle : s.transfers.get (freeChannel s) = none := by
      rw [State.transfers_get, hfree k a b c d rfl]
      rfl
    simp only [State.carryOut, State.standing, State.issueTransfer_transfers, State.issueTransfer_writer, State.issueTransfer_map]
    exact (transferRings_set_some hidle _).append_right _

/-- R77: the record carried out is in flight, so stop-on-error finds its ring with one. -/
theorem ringsKept_carryOut {s : State} {r : RingId} (p : Prefetched) (plan : Plan) (hpos : 0 < (s.ring r).inFlight) :
    RingsKept s (s.carryOut r p plan) := by
  have hcompleted (m : MapUnit) (st : Status) (d : Detail) : RingsKept s ((s.setMap m).completeHead r p st d) :=
    ringsKept_handEntry (s := s.setMap m) hpos
  cases plan with
  | refuse st d => exact hcompleted s.map st d
  | complete => exact hcompleted s.map .ok .none
  | mapset i e => exact hcompleted _ .ok .none
  | maprevert => exact hcompleted _ .ok .none
  | mapswitch =>
    simp only [State.carryOut]
    split
    · exact .of_rings rfl
    · exact hcompleted _ .ok .none
  | transfer k a b c d => exact .of_rings (by simp [State.carryOut])

/-- R84: an examination moves the wait reason of a ring alone. -/
theorem ringKept_examinedRing (s : State) (r : RingId) : RingKept (s.ring r) (examinedRing s r) := by
  unfold examinedRing
  dsimp only
  split
  · exact .of_phase rfl rfl
  · exact .refl _

theorem postRoom_iff (s : State) (n : Nat) : postRoom s n = true ↔ s.writer.postQueue.length + n ≤ 8 := by
  exact decide_eq_true_iff

/-- R66: a taking counts the record taken. -/
theorem countsRecords_examine {s : State} (hs : CountsRecords s.control.part s.ring s.standing)
    (hpaired : s.map.retiring.isSome = s.map.pendingSwitch.isSome) :
    CountsRecords s.examine.control.part s.examine.ring s.examine.standing := by
  rcases s.examine_cases with ⟨-, he⟩ | ⟨r, p, plan, -, hv, he⟩
  · rw [he]
    have hrings : RingsKept s s.setWaits := fun r => by
      rw [State.setWaits_ring]
      exact ringKept_examinedRing s r
    exact hs.kept (stageKept_refl _) hrings (.refl _)
  · obtain ⟨-, hactive, hrunning, -, -, -, hwait, hroom⟩ := verdict_eq_eligible hv
    rw [he]
    generalize hu : s.setWaits.takeHead r = u
    have hchannels : u.channels = s.channels := by simp [← hu]
    have hmap : u.map = s.map := by simp [← hu]
    have hsame : u.standing = s.standing :=
      State.standing_congr (State.transfers_congr hchannels) (by simp [← hu, State.takeHead]) (by rw [hmap])
    have htaken : u.ring r = takenRing (s.ring r) := by simp [← hu, State.takeHead, ← ringAfterTaking_examinedRing]
    have hother (r' : RingId) (hr : r' ≠ r) : u.ring r' = examinedRing s r' := by simp [← hu, State.takeHead, hr]
    have hrings : RingsKept u (u.carryOut r p plan) := ringsKept_carryOut p plan (by simp [htaken, takenRing])
    have hperm : (u.carryOut r p plan).standing.Perm (r :: s.standing) := by
      rw [← hsame]
      refine State.carryOut_standing p (fun k a b c d hplan => ?_) fun hplan => ?_
      · subst hplan
        simpa [State.channel, freeChannel, hchannels] using freeChannel_idle_of_planWait hwait
      · subst hplan
        rw [retiring_none_of_planWait hwait] at hpaired
        simpa [hmap] using hpaired.symm
    have hphase : ((u.carryOut r p plan).ring r).phase ≠ .stopped := fun hp => by
      have hnot : (takenRing (s.ring r)).phase ≠ .stopped := by
        simp only [takenRing, hactive]
        split <;> simp
      rcases (hrings r).stopped hp with h0 | h0
      · exact hnot (htaken ▸ h0)
      · simp [htaken, takenRing] at h0
    have hlength : (u.carryOut r p plan).standing.length ≤ 11 := by
      have hmany := s.standing_length_le
      have hfits := (postRoom_iff s 1).1 hroom
      rw [hperm.length_eq, List.length_cons]
      omega
    have hcontrol : (u.carryOut r p plan).control = s.control := by simp [← hu]
    change CountsRecords (u.carryOut r p plan).control.part (u.carryOut r p plan).ring (u.carryOut r p plan).standing
    rw [hcontrol]
    refine hs.add (by simp [PartState.working, hrunning]) ?_ hphase (fun r' hr => ?_) hperm hlength
    · rw [(hrings r).inFlight, htaken]
      rfl
    · exact (hother r' hr ▸ ringKept_examinedRing s r').trans (hrings r')

/-! ## Flush disposals (R74) -/

/-- R74: a disposal that takes its reservation changes no more than that. -/
theorem State.reserveDisposal_leavesRecords (s : State) (r : RingId) : LeavesRecords s (s.reserveDisposal r) := by
  unfold State.reserveDisposal
  dsimp only
  split
  · exact .refl s
  · exact ⟨ringsKept_setRing (s := s) (.of_phase rfl rfl), rfl⟩

theorem State.reserveDisposal_phase (s : State) (r : RingId) : ((s.reserveDisposal r).ring r).phase = (s.ring r).phase := by
  unfold State.reserveDisposal
  dsimp only
  split
  · rfl
  · simp

/-- R66, R74: the disposed head is in flight, and its FLUSHED entry stands in the post queue. -/
theorem countsRecords_disposeHead {s : State} {r : RingId} (p : Prefetched) (hs : CountsRecords s.control.part s.ring s.standing)
    (hpart : s.control.part.working) (hphase : (s.ring r).phase = .flushing) (hroom : postRoom s 1 = true) :
    CountsRecords (s.disposeHead r p).control.part (s.disposeHead r p).ring (s.disposeHead r p).standing := by
  generalize hg : ({ s.ring r with
    queue := (s.ring r).queue.tail, inFlight := (s.ring r).inFlight + 1, disposalReserved := false } : Ring) = g
  have hdispose : s.disposeHead r p =
      (s.setRing r g).handEntry (plainCompletion (s.setRing r g) r p.slot p.record.tag .flushed .none) := by
    rw [← hg]
    rfl
  have hrings : (s.disposeHead r p).ring = (s.setRing r g).ring := by
    rw [hdispose, State.handEntry_of_not_triggers _ rfl]
    rfl
  have hperm : (s.disposeHead r p).standing.Perm (r :: s.standing) := by
    rw [hdispose]
    exact State.handEntry_standing (s.setRing r g) _
  have hlength : (s.disposeHead r p).standing.length ≤ 11 := by
    have hmany := s.standing_length_le
    have hfits := (postRoom_iff s 1).1 hroom
    rw [hperm.length_eq, List.length_cons]
    omega
  rw [hrings, State.disposeHead_control]
  refine hs.add hpart ?_ ?_ (fun r' hr => ?_) hperm hlength
  · rw [State.ring_setRing_same, ← hg]
  · rw [State.ring_setRing_same, ← hg]
    simp [hphase]
  · rw [State.ring_setRing_other s _ hr]
    exact .refl _

theorem countsRecords_refreshFlush {s : State} (hs : CountsRecords s.control.part s.ring s.standing) (r : RingId) :
    CountsRecords (s.refreshFlush r).control.part (s.refreshFlush r).ring (s.refreshFlush r).standing :=
  LeavesRecords.countsRecords ⟨ringsKept_refreshFlush s r, by simp⟩ hs (by simp) (State.transfers_congr (by simp)) (by simp)

theorem countsRecords_execFlushDisposal {r : RingId} {s t : State} (hs : CountsRecords s.control.part s.ring s.standing)
    (h : execFlushDisposal r s = .next t) : CountsRecords t.control.part t.ring t.standing := by
  cases h
  split
  · exact hs
  · next p _ _ =>
    split
    · exact hs
    · next htried =>
      split
      · have hnot := not_or.1 htried
        have hphase : (s.ring r).phase = .flushing := not_not.1 hnot.2
        have hquiet (hp : s.control.part = .off ∨ s.control.part = .loading) : False := by
          simpa [hphase] using (hs.quiet hp).1 r
        have hpart : s.control.part.working := ⟨fun hp => hquiet (.inl hp), fun hp => hquiet (.inr hp), hnot.1⟩
        have hreserved := (s.reserveDisposal_leavesRecords r).countsRecords hs (by simp) (State.transfers_congr (by simp)) (by simp)
        dsimp only
        apply countsRecords_refreshFlush
        split
        · next hroom =>
          refine countsRecords_disposeHead p hreserved (by simpa using hpart) ?_ hroom
          rw [State.reserveDisposal_phase, hphase]
        · exact hreserved
      · exact countsRecords_refreshFlush hs r

/-! ## Hand-offs (R27, R34, R116, R117) -/

/-- R27, R34: a release takes the pending switch with it when it is the last of the retiring generation, and else leaves it. -/
theorem mapAfterRelease_pendingSwitch {m : MapUnit} {bs : PerChannel (Option (BitVec 8))} (h : CountsBindings m bs) (x : Context) :
    (mapAfterRelease m x.generation).pendingSwitch = if lastRelease m x then none else m.pendingSwitch := by
  unfold mapAfterRelease lastRelease
  cases hrt : m.retiring with
  | none => split <;> rfl
  | some rt =>
    have hne := h.retiring_ne hrt
    obtain ⟨-, hpos, -⟩ := h.retiring rt hrt
    have hlast : rt.bound ≤ 1 ↔ rt.bound = 1 := by omega
    by_cases hgen : x.generation = rt.generation
    · by_cases hone : rt.bound = 1 <;> simp [hgen, hne, hlast, hone]
    · by_cases hcur : x.generation = m.generation <;> simp [hgen, hcur, hne.symm]

/-- R34: the entry of a drained switch stands in the post queue. -/
theorem State.drainSwitch_postQueue (s : State) (sw : Option PendingSwitch) :
    (s.drainSwitch sw).writer.postQueue.map (·.ring) = s.writer.postQueue.map (·.ring) ++ sw.toList.map (·.ring) := by
  cases sw <;> simp [State.drainSwitch, plainCompletion]

/-- R52: the entry of a drained switch is OK, so no ring stops for it. -/
theorem ringsKept_drainSwitch (s : State) (sw : Option PendingSwitch) : RingsKept s (s.drainSwitch sw) := by
  cases sw with
  | none => exact .refl s
  | some w =>
    rw [State.drainSwitch, State.handEntry_of_not_triggers _ rfl]
    exact .of_rings rfl

theorem State.handOff_ringManager (s : State) (c : ChannelId) (x : Context) (e : Ending) :
    (s.handOff c x e).ringManager =
      (((s.handEntry (channelCompletion s x e)).setMap (mapAfterRelease s.map x.generation)).drainSwitch
        (if lastRelease s.map x then s.map.pendingSwitch else none)).ringManager := by
  simp [State.handOff]

/-- R116, R34: the record of a transfer moves from its channel to the post queue, and that of a switch it drains follows it there. -/
theorem State.handOff_standing {s : State} (hbinding : CountsBindings s.map s.bindings) {c : ChannelId} {x : Context} (e : Ending)
    (hx : s.channel c = .ending x) : (s.handOff c x e).standing.Perm s.standing := by
  have hget : s.transfers.get c = some x.transfer := by
    rw [State.transfers_get, hx]
    rfl
  have htransfers : (s.handOff c x e).transfers = s.transfers.set c none := State.transfers_of_set (s.handOff_leaves c x e).2
  have hleft := transferRings_set_none hget
  have hqueue : (s.handOff c x e).writer.postQueue.map (·.ring) = (s.writer.postQueue.map (·.ring) ++ [x.ring]) ++
      ((if lastRelease s.map x then s.map.pendingSwitch else none).toList).map (·.ring) := by
    simp [State.handOff, State.drainSwitch_postQueue, channelCompletion]
  have hswitch : (s.handOff c x e).map.pendingSwitch = if lastRelease s.map x then none else s.map.pendingSwitch := by
    rw [State.handOff_map, mapAfterRelease_pendingSwitch hbinding]
  rw [List.perm_iff_count]
  intro r
  have hcount : (transferRings s.transfers).count r =
      (transferRings (s.transfers.set c none)).count r + if x.ring = r then 1 else 0 := by
    simpa [List.count_cons, Context.transfer] using hleft.count_eq r
  simp only [State.standing, htransfers, hqueue, hswitch, List.count_append, List.count_singleton, beq_iff_eq, hcount]
  cases lastRelease s.map x <;> simp <;> omega

theorem countsRecords_handOff {s : State} (hs : CountsRecords s.control.part s.ring s.standing)
    (hbinding : CountsBindings s.map s.bindings) {c : ChannelId} {x : Context} (e : Ending) (hx : s.channel c = .ending x) :
    CountsRecords (s.handOff c x e).control.part (s.handOff c x e).ring (s.handOff c x e).standing := by
  have hstands : x.ring ∈ s.standing := by
    have hget : s.transfers.get c = some x.transfer := by
      rw [State.transfers_get, hx]
      rfl
    exact List.mem_append_left _ ((transferRings_set_none hget).mem_iff.2 List.mem_cons_self)
  have hpos : 0 < (s.ring x.ring).inFlight := (List.count_pos_iff.2 hstands).trans_le (hs.each x.ring).covered
  have hentry : RingsKept s ((s.handEntry (channelCompletion s x e)).setMap (mapAfterRelease s.map x.generation)) :=
    ringsKept_handEntry (e := channelCompletion s x e) hpos
  have hrings : RingsKept s (s.handOff c x e) :=
    (hentry.trans (ringsKept_drainSwitch _ _)).trans (.of_rings (by rw [State.handOff_ringManager]))
  exact hs.kept (s.handOff_leaves c x e).1.stage hrings (State.handOff_standing hbinding e hx)

end Sys2Proof.Machine

/-! Completion writes, mailbox faults, loads and resets keep the in-flight counts (R69, R75, R151, R153, R168, R172, R175), and so does
every step. -/

namespace Sys2Proof.Machine

/-! ## Completion writes (R69, R75, R151, R153) -/

theorem State.recordWritten_ring_other (s : State) {r r' : RingId} (h : r' ≠ r) : (s.recordWritten r).ring r' = s.ring r' := by
  unfold State.recordWritten
  dsimp only
  split_ifs <;> simp [State.endFlush, h]

/-- R69, R75: a written record lowers its ring's count; the ring enters STOPPED with none in flight alone, and leaves STOPPING when it
has none. -/
theorem State.recordWritten_ring_same (s : State) (r : RingId) :
    ((s.recordWritten r).ring r).inFlight = (s.ring r).inFlight - 1 ∧
      (((s.recordWritten r).ring r).phase = .stopped →
        (s.ring r).phase = .stopped ∨ ((s.recordWritten r).ring r).inFlight = 0) ∧
      (((s.recordWritten r).ring r).phase = .stopping → 0 < ((s.recordWritten r).ring r).inFlight) := by
  unfold State.recordWritten
  dsimp only
  split
  · next hstop =>
    have hzero : (s.ring r).inFlight - 1 = 0 := by simpa using hstop.2
    simp [Ring.enter, hzero]
  · next hstop =>
    split
    · next hflush =>
      have hzero : (s.ring r).inFlight - 1 = 0 := by
        have hdone := hflush.2
        simp only [flushDone, Bool.and_eq_true, decide_eq_true_eq] at hdone
        simpa using hdone.2
      simp [State.endFlush, Ring.enter, hzero]
    · refine ⟨by simp, fun hp => .inl (by simpa using hp), fun hp => Nat.pos_of_ne_zero fun h0 => hstop ⟨hp, h0⟩⟩

/-- R151: of the rings, a written entry reaches its own alone. -/
theorem State.entryWritten_ring (s : State) (e : Completion) (r : RingId) :
    (s.entryWritten e).ring r = ((s.setCq e.cq (cqAfterWrite (s.cq e.cq))).recordWritten e.ring).ring r := by
  simp [State.entryWritten, State.ring]

@[simp] theorem State.entryWritten_postQueue (s : State) (e : Completion) :
    (s.entryWritten e).writer.postQueue = s.writer.postQueue := by
  simp [State.entryWritten]

/-- R149: the written entry's record leaves the post queue. -/
theorem State.standing_of_writerEntry {s t : State} {e : Completion} (he : writerEntry s = some e)
    (hchannels : t.channels = s.channels) (hmap : t.map = s.map)
    (hqueue : t.writer.postQueue = s.writer.postQueue.eraseIdx (failedWrites s)) : s.standing.Perm (e.ring :: t.standing) := by
  obtain ⟨hlt, hget⟩ := List.getElem?_eq_some_iff.1 he
  have herased : (s.writer.postQueue.map (·.ring)).Perm (e.ring :: t.writer.postQueue.map (·.ring)) := by
    have hperm := (List.getElem_cons_eraseIdx_perm hlt).symm.map (·.ring)
    rwa [List.map_cons, hget, ← hqueue] at hperm
  have hsame : t.transfers = s.transfers := State.transfers_congr hchannels
  rw [List.perm_iff_count]
  intro r
  have hcount := herased.count_eq r
  simp only [State.standing, hsame, hmap, List.count_append, List.count_cons] at hcount ⊢
  omega

/-- R151, R153: the end of a completion write moves no record, or takes the entry written out of the post queue; outside HALTED the
counts follow. -/
theorem execCompletionWrite_cases {result : WriteEnd} {s t : State} (h : execCompletionWrite result s = .next t) :
    (LeavesRecords s t ∧ LeavesTransfers s t) ∨
      ∃ (e : Completion) (u : State), writerEntry s = some e ∧ u.control = s.control ∧ u.ringManager = s.ringManager ∧ u.channels = s.channels ∧
        u.map = s.map ∧ u.writer.postQueue = s.writer.postQueue.eraseIdx (failedWrites s) ∧
        t = if s.control.part = .halted then u else u.entryWritten e := by
  unfold execCompletionWrite at h
  have hfree : LeavesTransfers s s.freePort := by constructor <;> simp
  split at h
  · split at h
    · cases h
      exact .inl ⟨.of_blocks rfl rfl, hfree⟩
    · split at h
      · cases h
        exact .inl ⟨.of_blocks rfl rfl, hfree⟩
      · next e he =>
        cases result with
        | done =>
          simp only [Host.Outcome.next.injEq] at h
          refine .inr ⟨e, _, he, ?_, ?_, ?_, ?_, ?_, h.symm⟩ <;> simp
        | failedAt i =>
          cases h
          exact .inl ⟨.of_blocks rfl rfl, by constructor <;> simp⟩
  · cases h
    exact .inl ⟨.refl s, .refl s⟩

theorem countsRecords_execCompletionWrite {result : WriteEnd} {s t : State}
    (hs : CountsRecords s.control.part s.ring s.standing) (h : execCompletionWrite result s = .next t) :
    CountsRecords t.control.part t.ring t.standing := by
  rcases execCompletionWrite_cases h with ⟨hrecords, hleaves⟩ | ⟨e, u, he, hcontrol, hrings, hchannels, hmap, hqueue, rfl⟩
  · exact hrecords.countsRecords hs hleaves.stage (State.transfers_congr hleaves.channels) hleaves.map
  · have hring : u.ring = s.ring := funext fun r => by rw [State.ring, hrings, State.ring]
    split
    · next hpart =>
      have hsub : u.standing.Sublist s.standing := by
        rw [State.standing, State.standing, State.transfers_congr hchannels, hmap, hqueue]
        exact .append_left (.append_right ((List.eraseIdx_sublist _ _).map _) _) _
      rw [hring, hcontrol, hpart]
      exact hs.lose hsub
    · next hpart =>
      have hperm : s.standing.Perm (e.ring :: (u.entryWritten e).standing) :=
        State.standing_of_writerEntry he (by simp [hchannels]) (by simp [hmap]) (by simp [hqueue])
      have hu (r : RingId) : (u.setCq e.cq (cqAfterWrite (u.cq e.cq))).ring r = s.ring r := congrFun hring r
      obtain ⟨hcount, hstopped, hstopping⟩ := (u.setCq e.cq (cqAfterWrite (u.cq e.cq))).recordWritten_ring_same e.ring
      simp only [← State.entryWritten_ring, hu] at hcount hstopped hstopping
      rw [State.entryWritten_control, hcontrol]
      refine hs.remove hpart hcount hstopped hstopping (fun r' hr => ?_) hperm
      rw [State.entryWritten_ring, State.recordWritten_ring_other _ hr, hu]

/-! ## Mailbox faults (R153, R172) -/

/-- R153, R172: a fault taken leaves the part HALTED and the rings as they are, and loses an entry at most. -/
theorem countsRecords_execMailboxFault {s t : State} (hs : CountsRecords s.control.part s.ring s.standing)
    (h : execMailboxFault s = .next t) : CountsRecords t.control.part t.ring t.standing := by
  unfold execMailboxFault at h
  split at h
  · cases h
    exact hs
  · next f rest _ =>
    simp only [Host.Outcome.next.injEq] at h
    generalize hu : (s.setMPort { s.mport with errors := rest }).loseEntry f.kind = u at h
    have hsub : u.standing.Sublist s.standing := by
      have hqueue : u.writer.postQueue.Sublist s.writer.postQueue := by
        rw [← hu, State.loseEntry_writer]
        dsimp only
        split
        · exact List.tail_sublist _
        · exact .refl _
      have htransfers : u.transfers = s.transfers := State.transfers_congr (by simp [← hu])
      have hmap : u.map = s.map := by simp [← hu]
      rw [State.standing, State.standing, htransfers, hmap]
      exact .append_left (.append_right (hqueue.map _) _) _
    have hring : u.ring = s.ring := funext fun r => by simp [← hu, State.ring]
    have hlost : CountsRecords .halted u.ring u.standing := hring ▸ hs.lose hsub
    have hpart : u.control.part = s.control.part := by simp [← hu]
    subst h
    split
    · next hhalted =>
      rw [hhalted] at hpart
      exact (show (u.control.part = .halted) from hpart) ▸ hlost
    · exact hlost

/-! ## Loads and resets (R168, R175) -/

/-- R168: the end of a setup read moves no record, or, in LOADING, the block is loaded. -/
theorem execSetupLoadEnd_records {host : List HostWrite} {ok : Bool} {s t : State} (h : execSetupLoadEnd host ok s = .next t) :
    (LeavesRecords s t ∧ LeavesTransfers s t) ∨
      (s.control.part = .loading ∧ ∃ (u : State) (b : SetupBlock), u.channels = s.channels ∧ u.map = s.map ∧ u.writer = s.writer ∧ t = u.finishLoad b) := by
  unfold execSetupLoadEnd at h
  split at h
  · next addr fate _ _ =>
    simp only [Host.Outcome.next.injEq] at h
    generalize hu : { s with mailbox := mailboxHost s.mailbox host }.freePort = u at h
    have hleaves : LeavesTransfers s u := by constructor <;> simp [← hu]
    have hrecords : LeavesRecords s u := .of_blocks (by simp [← hu]) (by simp [← hu])
    have hcontrol : u.control = s.control := by simp [← hu]
    have hwriter : u.writer = s.writer := by simp [← hu]
    subst h
    split_ifs with hfate hok hpart
    · exact .inl ⟨hrecords, hleaves⟩
    · exact .inl ⟨⟨hrecords.rings, hrecords.postQueue⟩, hleaves.pending, hleaves.map, hleaves.channels, hleaves.ports, hleaves.stage⟩
    · rcases u.loadBlock_cases (SetupBlock.ofWords (mailboxWords u.mailbox addr 12)) with ⟨e, he⟩ | ⟨-, he⟩
      · rw [he]
        rw [hcontrol] at hpart
        have hstage : stageKept s.control.part (u.failLoad e).control.part := by
          simp [stageKept, PartState.working, hpart, State.failLoad]
        exact .inl ⟨⟨hrecords.rings, hrecords.postQueue⟩, hleaves.pending, hleaves.map, hleaves.channels, hleaves.ports, hstage⟩
      · exact .inr ⟨hcontrol ▸ hpart, u, _, hleaves.channels, hleaves.map, hwriter, he⟩
    · exact .inl ⟨hrecords, hleaves⟩
  · cases h
    exact .inl ⟨.refl s, .refl s⟩

/-- R168: a load sets every ring anew, and leaves none STOPPING. -/
theorem State.finishLoad_ring (s : State) (b : SetupBlock) (r : RingId) : (s.finishLoad b).ring r = loadedRing (b.rings.get r) := by
  cases r <;> rfl

theorem countsRecords_execSetupLoadEnd {host : List HostWrite} {ok : Bool} {s t : State}
    (hs : CountsRecords s.control.part s.ring s.standing) (h : execSetupLoadEnd host ok s = .next t) :
    CountsRecords t.control.part t.ring t.standing := by
  rcases execSetupLoadEnd_records h with ⟨hrecords, hleaves⟩ | ⟨hpart, u, b, hchannels, hmap, hwriter, rfl⟩
  · exact hrecords.countsRecords hs hleaves.stage (State.transfers_congr hleaves.channels) hleaves.map
  · have hsame : (u.finishLoad b).standing = s.standing :=
      State.standing_congr (State.transfers_congr (by simp [hchannels])) (by simp [State.finishLoad, hwriter]) (by simp [hmap])
    rw [hsame, (hs.quiet (.inr hpart)).2]
    refine .empty (fun r => ?_) (fun r => ?_) (by simp [State.finishLoad])
    · rw [State.finishLoad_ring]
      rfl
    · rw [State.finishLoad_ring]
      simp only [loadedRing]
      split <;> simp

/-- R79, R175: after a reset nothing stands anywhere. -/
theorem countsRecords_resetBlocks (s : State) (c : ControlUnit) {m : MapUnit} (hm : m.pendingSwitch = none) :
    CountsRecords (s.resetBlocks c m).control.part (s.resetBlocks c m).ring (s.resetBlocks c m).standing := by
  have hring (r : RingId) : (s.resetBlocks c m).ring r = Ring.reset := PerRing.get_all ..
  have hnone : (s.resetBlocks c m).standing = [] := (State.standing_eq_nil_iff _).2 ⟨rfl, rfl, hm⟩
  rw [hnone]
  exact .empty (fun r => by rw [hring r]; rfl) (fun r => by simp [hring, Ring.reset]) (fun _ r => by rw [hring r]; rfl)

/-! ## Every command -/

theorem exec_countsRecords {c : Instr} {s t : State} (hbinding : CountsBindings s.map s.bindings)
    (hs : CountsRecords s.control.part s.ring s.standing) (h : exec c s = .next t) :
    CountsRecords t.control.part t.ring t.standing := by
  cases c with
  | powerOnReset | softReset =>
    cases h
    exact countsRecords_resetBlocks _ _ rfl
  | setupLoadEnd host ok => exact countsRecords_execSetupLoadEnd hs h
  | mailboxFault => exact countsRecords_execMailboxFault hs h
  | examination =>
    cases h
    split
    · exact hs
    · exact countsRecords_examine hs hbinding.pending
  | handOff c =>
    rcases execHandOff_cases h with rfl | ⟨x, e, hx, rfl⟩
    · exact hs
    · exact countsRecords_handOff hs hbinding e hx
  | flushDisposal r => exact countsRecords_execFlushDisposal hs h
  | completionWrite result => exact countsRecords_execCompletionWrite hs h
  | _ =>
    exact (exec_leavesRecords rfl (fun r => (hs.each r).stopped) h).countsRecords hs (exec_leavesTables rfl h).stage
      (exec_transfers_kept rfl h) (exec_map_kept rfl h)

/-- Settles O56: each command moves records between the places where they are counted, counts one that comes, and outside HALTED counts
one that leaves no more. -/
theorem inFlightLawKept : Obligations.InFlightLawKept := by
  intro s t hbinding _ hs h
  have hboth := step_keeps (P := fun s => bindingLaw s ∧ inFlightLaw s) (fun _ _ hs => hs) (fun c s t hs h => ?_) s t ⟨hbinding, hs⟩ h
  · exact hboth.2
  · obtain ⟨hbinding, hlaw⟩ := hs
    have hkept := exec_bindingLaw c s t hbinding h
    exact ⟨hkept, (inFlightLaw_iff t).2 ⟨((bindingLaw_iff t).1 hkept).pending,
      exec_countsRecords ((bindingLaw_iff s).1 hbinding) ((inFlightLaw_iff s).1 hlaw).2 h⟩⟩

end Sys2Proof.Machine

/-! The bits of words as arithmetic of their values: fields laid side by side, cut out, and single bits (sections 3.2 to 3.7). -/

namespace Sys2Proof

/-- Fields laid side by side: the lower one keeps its value, the upper one counts in multiples. -/
theorem toNat_append_eq {m n : Nat} (x : BitVec m) (y : BitVec n) : (x ++ y).toNat = x.toNat * 2 ^ n + y.toNat := by
  rw [BitVec.toNat_append, ← Nat.shiftLeft_add_eq_or_of_lt y.isLt, Nat.shiftLeft_eq]

/-- A field cut out of a word. -/
theorem toNat_extractLsb'_eq {n : Nat} (s m : Nat) (x : BitVec n) : (x.extractLsb' s m).toNat = x.toNat / 2 ^ s % 2 ^ m := by
  rw [BitVec.extractLsb'_toNat, Nat.shiftRight_eq_div_pow]

/-- A bit of a word. -/
theorem getLsbD_eq_decide {n : Nat} (x : BitVec n) (i : Nat) : x.getLsbD i = decide (x.toNat / 2 ^ i % 2 = 1) := by
  rw [← BitVec.testBit_toNat, Nat.testBit_eq_decide_div_mod_eq]

end Sys2Proof

/-! Register writes (section 3.7): the fields of a written word, and the command that a word is. -/

namespace Sys2Proof

open Machine (Register)

/-! ## CONTROL words (R54, R164) -/

theorem controlWord_toNat (k : BitVec 3) (m : Sources) :
    (controlWord k m).toNat = k.toNat + m.cq0.toNat * 2 ^ 8 + m.cq1.toNat * 2 ^ 9 + m.event.toNat * 2 ^ 10 := by
  simp only [controlWord, Machine.Sources.bits, toNat_append_eq, BitVec.toNat_ofBool, BitVec.ofNat_eq_ofNat, BitVec.toNat_ofNat]
  omega

@[simp] theorem controlWord_code (k : BitVec 3) (m : Sources) : (controlWord k m).extractLsb' 0 3 = k := by
  apply BitVec.eq_of_toNat_eq
  rw [toNat_extractLsb'_eq, controlWord_toNat]
  omega

@[simp] theorem maskOfControl_controlWord (k : BitVec 3) (m : Sources) : maskOfControl (controlWord k m) = m := by
  obtain ⟨cq0, cq1, event⟩ := m
  simp only [maskOfControl, getLsbD_eq_decide, controlWord_toNat]
  have hk := k.isLt
  cases cq0 <;> cases cq1 <;> cases event <;> simp <;> omega

theorem decodeControl_unknown {k : BitVec 3} (hk : 6 ≤ k.toNat) (m : Sources) :
    decodeControl (controlWord k m) = .controlUnknownCommand k m := by
  have hcodes : k = 6 ∨ k = 7 := by bv_omega
  rcases hcodes with rfl | rfl <;> simp [decodeControl]

/-- R54: only codes 6 and 7 are unknown to CONTROL. -/
theorem decodeControl_wf (w : Word32) : (decodeControl w).wf = true := by
  unfold decodeControl
  split
  case h_7 _ h0 h1 h2 h3 h4 h5 =>
    have hcode : 6 ≤ (w.extractLsb' 0 3).toNat := by
      simp only [imp_false] at h0 h1 h2 h3 h4 h5
      omega
    exact decide_eq_true hcode
  all_goals rfl

/-! ## RINGCTL and POST words (R54, R57, R67) -/

@[simp] theorem RingId.ofCode_code (r : RingId) : Machine.RingId.ofCode (BitVec.ofNat 2 (Machine.RingId.code r)) = r := by
  cases r <;> rfl

theorem RingId.code_lt (r : RingId) : Machine.RingId.code r < 4 := by
  cases r <;> decide

theorem ringctlWord_toNat (k : BitVec 3) (r : RingId) : (ringctlWord k r).toNat = Machine.RingId.code r + k.toNat * 2 ^ 4 := by
  have hr := RingId.code_lt r
  simp only [ringctlWord, toNat_append_eq, BitVec.ofNat_eq_ofNat, BitVec.toNat_ofNat]
  omega

/-- A word whose two lowest bits are a ring's code names that ring. -/
theorem ringOfWord_eq {w : Word32} {r : RingId} (h : w.toNat % 4 = Machine.RingId.code r) : ringOfWord w = r := by
  have hcode : w.extractLsb' 0 2 = BitVec.ofNat 2 (Machine.RingId.code r) := by
    apply BitVec.eq_of_toNat_eq
    rw [toNat_extractLsb'_eq, BitVec.toNat_ofNat]
    omega
  rw [ringOfWord, hcode, RingId.ofCode_code]

@[simp] theorem ringctlWord_code (k : BitVec 3) (r : RingId) : (ringctlWord k r).extractLsb' 4 3 = k := by
  have hr := RingId.code_lt r
  apply BitVec.eq_of_toNat_eq
  rw [toNat_extractLsb'_eq, ringctlWord_toNat]
  omega

@[simp] theorem ringOfWord_ringctlWord (k : BitVec 3) (r : RingId) : ringOfWord (ringctlWord k r) = r := by
  have hr := RingId.code_lt r
  apply ringOfWord_eq
  rw [ringctlWord_toNat]
  omega

theorem decodeRingctl_unknown {k : BitVec 3} (hk : 5 ≤ k.toNat) (r : RingId) :
    decodeRingctl (ringctlWord k r) = .ringctlUnknownCommand k r := by
  have hcodes : k = 5 ∨ k = 6 ∨ k = 7 := by bv_omega
  rcases hcodes with rfl | rfl | rfl <;> simp [decodeRingctl]

/-- R54: only codes 5 to 7 are unknown to RINGCTL. -/
theorem decodeRingctl_wf (w : Word32) : (decodeRingctl w).wf = true := by
  unfold decodeRingctl
  split
  case h_6 _ h0 h1 h2 h3 h4 =>
    have hcode : 5 ≤ (w.extractLsb' 4 3).toNat := by
      simp only [imp_false] at h0 h1 h2 h3 h4
      omega
    exact decide_eq_true hcode
  all_goals rfl

/-- R57: the ring and the tail of a POST word. -/
theorem decodeRegisterWrite_post (r : RingId) (tail : Count) :
    decodeRegisterWrite .post (tail ++ (0 : BitVec 14) ++ BitVec.ofNat 2 (Machine.RingId.code r)) = .post r tail := by
  have hr := RingId.code_lt r
  have hword : (tail ++ (0 : BitVec 14) ++ BitVec.ofNat 2 (Machine.RingId.code r)).toNat =
      tail.toNat * 2 ^ 16 + Machine.RingId.code r := by
    simp only [toNat_append_eq, BitVec.ofNat_eq_ofNat, BitVec.toNat_ofNat]
    omega
  have htail : (tail ++ (0 : BitVec 14) ++ BitVec.ofNat 2 (Machine.RingId.code r)).extractLsb' 16 16 = tail := by
    apply BitVec.eq_of_toNat_eq
    rw [toNat_extractLsb'_eq, hword]
    omega
  have hring : ringOfWord (tail ++ (0 : BitVec 14) ++ BitVec.ofNat 2 (Machine.RingId.code r)) = r :=
    ringOfWord_eq (by rw [hword]; omega)
  exact congrArg₂ Instr.post hring htail

/-- R155: the completion ring and the head of an ACK word. -/
theorem decodeRegisterWrite_ack (c : CqId) (head : Count) :
    decodeRegisterWrite .ack (head ++ (0 : BitVec 15) ++ BitVec.ofBool (decide (c = .cq1))) = .ack c head := by
  have hword (b : Bool) : (head ++ (0 : BitVec 15) ++ BitVec.ofBool b).toNat = head.toNat * 2 ^ 16 + b.toNat := by
    simp only [toNat_append_eq, BitVec.toNat_ofBool, BitVec.ofNat_eq_ofNat, BitVec.toNat_ofNat]
    omega
  have hhead (b : Bool) : (head ++ (0 : BitVec 15) ++ BitVec.ofBool b).extractLsb' 16 16 = head := by
    apply BitVec.eq_of_toNat_eq
    rw [toNat_extractLsb'_eq, hword]
    cases b <;> simp <;> omega
  have hbit (b : Bool) : (head ++ (0 : BitVec 15) ++ BitVec.ofBool b).getLsbD 0 = b := by
    rw [getLsbD_eq_decide, hword]
    cases b <;> simp <;> omega
  have hcq : Machine.CqId.ofBit ((head ++ (0 : BitVec 15) ++ BitVec.ofBool (decide (c = .cq1))).getLsbD 0) = c := by
    rw [hbit]
    cases c <;> rfl
  exact congrArg₂ Instr.ack hcq (hhead _)

/-- R54: the address of a SETUP word. -/
theorem decodeRegisterWrite_setup (a : MailboxAddr) : decodeRegisterWrite .setup ((0 : BitVec 16) ++ a) = .setupWrite a :=
  congrArg Instr.setupWrite BitVec.extractLsb'_append_eq_right

/-! ## Every register -/

theorem decodeRegisterWrite_wf (r : Register) (w : Word32) : (decodeRegisterWrite r w).wf = true := by
  cases r with
  | control => exact decodeControl_wf w
  | ringctl => exact decodeRingctl_wf w
  | status | setup | post | ack | intstat => rfl

theorem decodeRegisterWrite_encodeRegisterWrite {i : Instr} {r : Register} {w : Word32} (hi : i.wf = true)
    (h : encodeRegisterWrite i = some (r, w)) : decodeRegisterWrite r w = i := by
  cases i with
  | controlMaskWrite m | enable m | quiesce m | resume m | abort m | softReset m =>
    cases h
    simp [decodeRegisterWrite, decodeControl]
  | controlUnknownCommand code m =>
    cases h
    exact decodeControl_unknown (of_decide_eq_true hi) m
  | select ring | stop ring | ringResume ring | flush ring | ringReset ring =>
    cases h
    simp [decodeRegisterWrite, decodeRingctl]
  | ringctlUnknownCommand code ring =>
    cases h
    exact decodeRingctl_unknown (of_decide_eq_true hi) ring
  | post ring tail =>
    cases h
    exact decodeRegisterWrite_post ring tail
  | ack c head =>
    cases h
    exact decodeRegisterWrite_ack c head
  | setupWrite a =>
    cases h
    exact decodeRegisterWrite_setup a
  | statusWrite v | intstatWrite v =>
    cases h
    rfl
  | _ => cases h

/-- Settles O3, from the fields of each register's words. -/
theorem registerWritesDecode : Obligations.RegisterWritesDecode :=
  ⟨fun _ _ _ => decodeRegisterWrite_encodeRegisterWrite, decodeRegisterWrite_wf⟩

end Sys2Proof

/-! Request records, the setup block and the words of mailbox memory (sections 3.2 and 3.6, R41, R53). -/

namespace Sys2Proof.Machine

/-! ## Ignored bits (R41) -/

/-- Two words that agree on the bits of a mask agree on every field inside it. -/
theorem extractLsb'_eq_of_and_eq {n s m : Nat} {w v mask : BitVec n} (h : w &&& mask = v &&& mask)
    (hmask : mask.extractLsb' s m = BitVec.allOnes m) : w.extractLsb' s m = v.extractLsb' s m := by
  have hfield (u : BitVec n) : u.extractLsb' s m = (u &&& mask).extractLsb' s m := by
    rw [BitVec.extractLsb'_and, hmask, BitVec.and_allOnes]
  rw [hfield w, hfield v, h]

/-- Two words that agree on the bits of a mask agree on every bit of it. -/
theorem getLsbD_eq_of_and_eq {n i : Nat} {w v mask : BitVec n} (h : w &&& mask = v &&& mask) (hmask : mask.getLsbD i = true) :
    w.getLsbD i = v.getLsbD i := by
  have hbit (u : BitVec n) : u.getLsbD i = (u &&& mask).getLsbD i := by simp [hmask]
  rw [hbit w, hbit v, h]

@[simp] theorem getD_toList {α : Type} {n : Nat} (w : Vector α n) (i : Nat) (d : α) (h : i < n) : w.toList.getD i d = w[i] := by
  simp [List.getD, h]

/-- Section 3.2: a record's fields are cut from inside the bits that the layout does not mark ignored. -/
theorem Record.ofWords_eq_of_and_eq {w v : Vector Word32 8} (h0 : w[0] = v[0])
    (h1 : w[1] &&& 0xFF01FFFF#32 = v[1] &&& 0xFF01FFFF#32) (h2 : w[2] &&& 0xFFFFFF#32 = v[2] &&& 0xFFFFFF#32)
    (h3 : w[3] &&& 0xFFFFFF#32 = v[3] &&& 0xFFFFFF#32) (h4 : w[4] &&& 0xFFFFFF#32 = v[4] &&& 0xFFFFFF#32)
    (h5 : w[5] &&& 0xFFFFFF#32 = v[5] &&& 0xFFFFFF#32) (h6 : w[6] &&& 0x3FF1F#32 = v[6] &&& 0x3FF1F#32) :
    Record.ofWords w.toList = Record.ofWords v.toList := by
  simp only [Record.ofWords, getD_toList, Nat.reduceLT, Record.mk.injEq, h0, true_and]
  exact ⟨extractLsb'_eq_of_and_eq h1 (by decide), extractLsb'_eq_of_and_eq h1 (by decide), extractLsb'_eq_of_and_eq h2 (by decide),
    extractLsb'_eq_of_and_eq h3 (by decide), extractLsb'_eq_of_and_eq h4 (by decide), extractLsb'_eq_of_and_eq h5 (by decide),
    extractLsb'_eq_of_and_eq h6 (by decide), getLsbD_eq_of_and_eq h6 (by decide), extractLsb'_eq_of_and_eq h6 (by decide),
    extractLsb'_eq_of_and_eq h6 (by decide), getLsbD_eq_of_and_eq h6 (by decide), getLsbD_eq_of_and_eq h6 (by decide)⟩

/-! ## Records as laid down (section 3.2) -/

/-- A field of a word, by its value. -/
theorem extractLsb'_eq_of_toNat {n s m : Nat} {w : BitVec n} {x : BitVec m} (h : w.toNat / 2 ^ s % 2 ^ m = x.toNat) :
    w.extractLsb' s m = x :=
  BitVec.eq_of_toNat_eq (by rw [toNat_extractLsb'_eq, h])

/-- A bit of a word, by its value. -/
theorem getLsbD_eq_of_toNat {n i : Nat} {w : BitVec n} {b : Bool} (h : w.toNat / 2 ^ i % 2 = b.toNat) : w.getLsbD i = b := by
  rw [getLsbD_eq_decide, h]
  cases b <;> rfl

/-- The first word of a record: kind, flags and tag. -/
theorem toNat_recordWord0 (kind flags : BitVec 8) (tag : BitVec 16) :
    (tag ++ flags ++ kind).toNat = kind.toNat + flags.toNat * 2 ^ 8 + tag.toNat * 2 ^ 16 := by
  simp only [toNat_append_eq]
  omega

/-- The second word of a record: count and pad. -/
theorem toNat_recordWord1 (count : BitVec 17) (pad : Byte) :
    (pad ++ (0 : BitVec 7) ++ count).toNat = count.toNat + pad.toNat * 2 ^ 24 := by
  simp only [toNat_append_eq, BitVec.ofNat_eq_ofNat, BitVec.toNat_ofNat]
  omega

/-- The seventh word of a record: the fields of a MAPSET's window. -/
theorem toNat_recordWord6 (index sizeCode targetCode : BitVec 4) (enabled wp lock : Bool) :
    ((0 : BitVec 14) ++ BitVec.ofBool lock ++ BitVec.ofBool wp ++ targetCode ++ sizeCode ++ (0 : BitVec 3) ++
        BitVec.ofBool enabled ++ index).toNat =
      index.toNat + enabled.toNat * 2 ^ 4 + sizeCode.toNat * 2 ^ 8 + targetCode.toNat * 2 ^ 12 + wp.toNat * 2 ^ 16 +
        lock.toNat * 2 ^ 17 := by
  simp only [toNat_append_eq, BitVec.toNat_ofBool, BitVec.ofNat_eq_ofNat, BitVec.toNat_ofNat]
  omega

/-- Section 3.2: the fields of a record are read from its words as they were laid down. -/
theorem Record.ofWords_toWords (r : Record) : Record.ofWords r.toWords = r := by
  obtain ⟨kind, flags, tag, count, pad, a, b, c, pattern, index, enabled, sizeCode, targetCode, wp, lock⟩ := r
  have h0 := toNat_recordWord0 kind flags tag
  have h1 := toNat_recordWord1 count pad
  have h6 := toNat_recordWord6 index sizeCode targetCode enabled wp lock
  have haddress (x : BitVec 24) : ((0 : BitVec 8) ++ x).extractLsb' 0 24 = x := BitVec.extractLsb'_append_eq_right
  have henabled := enabled.toNat_lt
  have hwp := wp.toNat_lt
  have hlock := lock.toNat_lt
  simp only [Record.ofWords, Record.toWords, List.getD_cons_zero, List.getD_cons_succ, Record.mk.injEq]
  exact ⟨extractLsb'_eq_of_toNat (by omega), extractLsb'_eq_of_toNat (by omega), extractLsb'_eq_of_toNat (by omega),
    extractLsb'_eq_of_toNat (by omega), extractLsb'_eq_of_toNat (by omega), haddress a, haddress b, haddress c, haddress pattern,
    extractLsb'_eq_of_toNat (by omega), getLsbD_eq_of_toNat (by omega), extractLsb'_eq_of_toNat (by omega),
    extractLsb'_eq_of_toNat (by omega), getLsbD_eq_of_toNat (by omega), getLsbD_eq_of_toNat (by omega)⟩

/-! ## Words of mailbox memory (R41) -/

theorem mailboxWords_eq_map (m : MailboxMemory) (a : MailboxAddr) (n : Nat) :
    mailboxWords m a n = (List.range n).map fun i => mailboxWord m (a + BitVec.ofNat 16 (4 * i)) := by
  induction n generalizing a with
  | zero => rfl
  | succ n ih =>
    have hnext (i : Nat) : a + 4 + BitVec.ofNat 16 (4 * i) = a + BitVec.ofNat 16 (4 * (i + 1)) := by
      apply BitVec.eq_of_toNat_eq
      simp only [BitVec.toNat_add, BitVec.toNat_ofNat, BitVec.ofNat_eq_ofNat]
      omega
    simp only [mailboxWords, ih, hnext, List.range_succ_eq_map, List.map_cons, List.map_map]
    simp

/-- R41: bits 7-0 of a word are the byte at its lowest address. -/
theorem mailboxWord_byte (m : MailboxMemory) (a : MailboxAddr) (n : Fin 4) :
    (mailboxWord m a).extractLsb' (8 * n.val) 8 = mailboxByte m (a + BitVec.ofNat 16 n.val) := by
  have hword : (mailboxWord m a).toNat = (mailboxByte m a).toNat + (mailboxByte m (a + 1#16)).toNat * 2 ^ 8 +
      (mailboxByte m (a + 2#16)).toNat * 2 ^ 16 + (mailboxByte m (a + 3#16)).toNat * 2 ^ 24 := by
    simp only [mailboxWord, toNat_append_eq, BitVec.ofNat_eq_ofNat]
    omega
  have hfirst : a + 0#16 = a := BitVec.add_zero a
  match n with
  | 0 => exact extractLsb'_eq_of_toNat (s := 0) (x := mailboxByte m (a + 0#16)) (by rw [hfirst]; omega)
  | 1 => exact extractLsb'_eq_of_toNat (s := 8) (x := mailboxByte m (a + 1#16)) (by omega)
  | 2 => exact extractLsb'_eq_of_toNat (s := 16) (x := mailboxByte m (a + 2#16)) (by omega)
  | 3 => exact extractLsb'_eq_of_toNat (s := 24) (x := mailboxByte m (a + 3#16)) (by omega)

/-! ## The setup block (section 3.6, R53) -/

theorem ringDirectoryOfWord_fields (v : Word32) :
    let d := ringDirectoryOfWord v
    let bit (n : Nat) : Bool := decide (v.toNat / 2 ^ n % 2 = 1)
    d.base.toNat = v.toNat % 65536 ∧ d.depthCode.toNat = v.toNat / 65536 % 16 ∧ d.enabled = bit 20 ∧
      (d.cls = .normal ↔ bit 21 = true) ∧ (d.cq = .cq1 ↔ bit 22 = true) ∧ d.ordered = bit 23 ∧ d.stopOnError = bit 24 := by
  dsimp only
  simp only [ringDirectoryOfWord, toNat_extractLsb'_eq, CqId.ofBit, ← getLsbD_eq_decide]
  refine ⟨by omega, rfl, trivial, ?_, ?_, trivial, trivial⟩
  · cases v.getLsbD 21 <;> simp
  · cases v.getLsbD 22 <;> simp

theorem cqSetupOfWords_fields (v u : Word32) :
    let q := cqSetupOfWords v u
    q.base.toNat = v.toNat % 65536 ∧ q.depthCode.toNat = v.toNat / 65536 % 16 ∧
      q.enabled = decide (v.toNat / 2 ^ 20 % 2 = 1) ∧ q.threshold.toNat = u.toNat % 64 ∧
      q.holdoff.toNat = u.toNat / 65536 % 2048 := by
  simp only [cqSetupOfWords, toNat_extractLsb'_eq, getLsbD_eq_decide]
  exact ⟨by omega, rfl, trivial, by omega, rfl⟩

theorem deviceSetupOfWord_fields (v : Word32) :
    let f := deviceSetupOfWord v
    let bit (n : Nat) : Bool := decide (v.toNat / 2 ^ n % 2 = 1)
    f.present = bit 0 ∧ (f.profile.width = .w24 ↔ bit 1 = true) ∧ f.profile.sizeCode.toNat = v.toNat / 16 % 32 ∧
      f.profile.writable = bit 9 ∧ f.profile.timeout.toNat = v.toNat / 65536 % 256 := by
  dsimp only
  simp only [deviceSetupOfWord, toNat_extractLsb'_eq, ← getLsbD_eq_decide]
  refine ⟨trivial, ?_, rfl, trivial, rfl⟩
  cases v.getLsbD 1 <;> simp

/-- The words of a setup block, each where section 3.6 puts it. -/
theorem SetupBlock.ofWords_toList (w : Vector Word32 12) :
    SetupBlock.ofWords w.toList =
      { format := w[0]
        rings := ⟨ringDirectoryOfWord w[1], ringDirectoryOfWord w[2], ringDirectoryOfWord w[3], ringDirectoryOfWord w[4]⟩
        cqs := ⟨cqSetupOfWords w[5] w[6], cqSetupOfWords w[7] w[8]⟩
        devices := ⟨deviceSetupOfWord w[9], deviceSetupOfWord w[10], deviceSetupOfWord w[11]⟩ } := by
  simp [SetupBlock.ofWords]

/-- Settles O4, from the words of a record, of mailbox memory and of the setup block. -/
theorem recordWordsDecode : Obligations.RecordWordsDecode := by
  refine ⟨Record.ofWords_toWords, ?_, fun m a => ⟨mailboxWords_eq_map m a, mailboxWord_byte m a⟩, fun w => ?_⟩
  · rintro w v ⟨h0, h1, h2, h3, h4, h5, h6⟩
    exact Record.ofWords_eq_of_and_eq h0 h1 h2 h3 h4 h5 h6
  · rw [SetupBlock.ofWords_toList]
    refine ⟨rfl, fun r => ?_, fun c => ?_, fun d => ?_⟩
    · cases r <;> exact ringDirectoryOfWord_fields _
    · cases c <;> exact cqSetupOfWords_fields _ _
    · cases d <;> exact deviceSetupOfWord_fields _

end Sys2Proof.Machine

/-! Ring selection and the RINGCTL commands that are dropped (R54, R67, R72). -/

namespace Sys2Proof.Machine

/-- R72: the ring is selected and RINGCTL_REFUSED is set, and nothing else changes. -/
def State.droppedRingctl (s : State) (r : RingId) : State := (s.selectRing r).refuseRingctl

theorem exec_stop_dropped {s : State} {r : RingId}
    (h : ¬(s.control.part ≠ .halted ∧ ((s.ring r).phase = .idle ∨ (s.ring r).phase = .active))) :
    exec (.stop r) s = .next (s.droppedRingctl r) :=
  congrArg Host.Outcome.next (if_neg h)

theorem exec_ringResume_dropped {s : State} {r : RingId} (h : ¬(s.control.part ≠ .halted ∧ (s.ring r).phase = .stopped)) :
    exec (.ringResume r) s = .next (s.droppedRingctl r) :=
  congrArg Host.Outcome.next (if_neg h)

theorem exec_flush_dropped {s : State} {r : RingId}
    (h : ¬(s.control.part ≠ .halted ∧
      ((s.ring r).phase = .stopped ∨ ((s.ring r).phase = .faulted ∧ (s.ring r).inFlight = 0)))) :
    exec (.flush r) s = .next (s.droppedRingctl r) :=
  congrArg Host.Outcome.next (if_neg h)

theorem exec_ringReset_dropped {s : State} {r : RingId}
    (h : ¬(s.control.part ≠ .halted ∧ ((s.ring r).phase = .stopped ∨ (s.ring r).phase = .faulted) ∧ (s.ring r).inFlight = 0)) :
    exec (.ringReset r) s = .next (s.droppedRingctl r) :=
  congrArg Host.Outcome.next (if_neg h)

/-- Settles O9: each command's guard fails in HALTED and in the states that do not take it. -/
theorem ringSelectAndRefusals : Obligations.RingSelectAndRefusals := by
  intro c k r s
  refine ⟨rfl, rfl, ?_⟩
  rintro (⟨hpart, rfl | rfl | rfl | rfl⟩ | ⟨rfl, hidle, hactive⟩ | ⟨rfl, hstopped⟩ | ⟨rfl, hstopped, hfaulted⟩ | ⟨rfl, hphase⟩)
  · exact exec_stop_dropped fun h => h.1 hpart
  · exact exec_ringResume_dropped fun h => h.1 hpart
  · exact exec_flush_dropped fun h => h.1 hpart
  · exact exec_ringReset_dropped fun h => h.1 hpart
  · exact exec_stop_dropped fun h => h.2.elim hidle hactive
  · exact exec_ringResume_dropped fun h => hstopped h.2
  · refine exec_flush_dropped fun ⟨_, h⟩ => h.elim hstopped fun ⟨hp, hzero⟩ => ?_
    exact hfaulted.elim (fun hne => hne hp) fun hne => hne hzero
  · refine exec_ringReset_dropped fun ⟨_, hp, hzero⟩ => ?_
    exact hphase.elim (fun hne => hp.elim hne.1 hne.2) fun hne => hne hzero

end Sys2Proof.Machine

/-! SETUP, STATUS and INTSTAT writes as the registers read afterwards, and the interrupt line (R41, R54, R158, R160). -/

namespace Sys2Proof.Machine

/-! ## The writes, bit by bit (R54, R158) -/

/-- R54: a bit of STATUS reads 0 after a write when it is one of bits 15 to 8 and was written 1, and as before otherwise. -/
theorem readStatus_clearStatus (s : State) (w : Word32) :
    readStatus (clearStatus s w) = readStatus s &&& ~~~(w &&& 0xFF00#32) := by
  apply BitVec.eq_of_getLsbD_eq
  intro i hi
  simp only [readStatus, clearStatus, BitVec.getLsbD_and, BitVec.getLsbD_not, BitVec.getLsbD_append, BitVec.getLsbD_ofBool]
  interval_cases i <;> simp

/-- R158: a source of INTSTAT reads 0 after a write of 1, and as before otherwise; the other bits are zero. -/
theorem intstatWord_clearSources (i : Sources) (w : Word32) :
    (0 : BitVec 29) ++ Sources.bits (clearSources i w) = ((0 : BitVec 29) ++ Sources.bits i : Word32) &&& ~~~w := by
  apply BitVec.eq_of_getLsbD_eq
  intro j hj
  simp only [Sources.bits, clearSources, BitVec.getLsbD_and, BitVec.getLsbD_not, BitVec.getLsbD_append, BitVec.getLsbD_ofBool]
  interval_cases j <;> simp

/-! ## The interrupt line (R160) -/

/-- The mask bits of CONTROL stand eight places above the sources of INTSTAT. -/
theorem intstat_and_control_eq_zero_iff : ∀ a b : BitVec 3,
    ((0 : BitVec 29) ++ a : Word32) &&& (((0 : BitVec 21) ++ b ++ (0 : BitVec 8) : Word32) >>> 8) = 0 ↔ a &&& b = 0 := by
  decide

theorem Sources.bits_and_eq_zero_iff (i m : Sources) :
    Sources.bits i &&& Sources.bits m = 0 ↔ (i.cq0 && m.cq0 || i.cq1 && m.cq1 || i.event && m.event) = false := by
  obtain ⟨i0, i1, i2⟩ := i
  obtain ⟨m0, m1, m2⟩ := m
  revert i0 i1 i2 m0 m1 m2
  decide

theorem interruptLine_iff (s : State) :
    interruptLine s = true ↔ readRegister s .intstat &&& (readRegister s .control >>> 8) ≠ 0 := by
  rw [ne_eq, readRegister, readRegister, intstat_and_control_eq_zero_iff, Sources.bits_and_eq_zero_iff, Bool.not_eq_false]
  rfl

/-- Settles O15: each write changes the named bits of its register, and the line is the conjunction of sources and mask. -/
theorem registerWritesTakeEffect : Obligations.RegisterWritesTakeEffect := by
  intro a w s
  exact ⟨⟨_, rfl, rfl, rfl⟩, ⟨_, rfl, readStatus_clearStatus s w, rfl⟩,
    ⟨_, rfl, intstatWord_clearSources s.coalescer.intstat w, rfl⟩, interruptLine_iff s⟩

end Sys2Proof.Machine

/-! The registers as the host reads them (section 3.7, R54, R67). -/

namespace Sys2Proof.Machine

/-! ## Each code fits the field that holds it -/

theorem PartState.code_lt (x : PartState) : x.code < 8 := by cases x <;> decide

theorem SetupError.code_lt (x : SetupError) : x.code < 16 := by cases x <;> decide

theorem FaultKind.code_lt (x : FaultKind) : x.code < 4 := by cases x <;> decide

theorem RingPhase.code_lt (x : RingPhase) : x.code < 8 := by cases x <;> decide

theorem WaitReason.code_lt (x : WaitReason) : x.code < 8 := by cases x <;> decide

theorem FaultCause.code_lt (x : FaultCause) : x.code < 4 := by cases x <;> decide

/-! ## The words as sums of their fields -/

/-- Zero bits above a field leave its value. -/
theorem zero_append_toNat {m n : Nat} (x : BitVec n) : ((0 : BitVec m) ++ x).toNat = x.toNat := by
  simp

/-- The flags and the rings-changed bits of STATUS, as one field (R54). -/
def State.statusFlags (s : State) : BitVec 8 :=
  let m := s.ringManager
  BitVec.ofBool m.ringsChanged.sq3 ++ BitVec.ofBool m.ringsChanged.sq2 ++ BitVec.ofBool m.ringsChanged.sq1 ++
    BitVec.ofBool m.ringsChanged.sq0 ++
    (BitVec.ofBool s.control.refused ++ BitVec.ofBool s.writer.ackInvalid ++ BitVec.ofBool m.ringctlRefused ++
      BitVec.ofBool m.postRejected)

theorem readStatus_toNat (s : State) :
    (readStatus s).toNat =
      s.control.part.code + s.control.setupError.code * 2 ^ 4 + s.statusFlags.toNat * 2 ^ 8 +
        s.control.faultRecord.kind.code * 2 ^ 16 + s.control.moreFaults.toNat * 2 ^ 18 +
        s.control.faultRecord.addr.toNat / 16 * 2 ^ 20 := by
  have hpart := s.control.part.code_lt
  have herror := s.control.setupError.code_lt
  have hkind := s.control.faultRecord.kind.code_lt
  have haddr := s.control.faultRecord.addr.isLt
  simp only [readStatus, State.statusFlags, toNat_append_eq, BitVec.toNat_ofBool, BitVec.toNat_ofNat, BitVec.ofNat_eq_ofNat,
    toNat_extractLsb'_eq]
  omega

/-- RINGCTL, while the counts are within their bounds (R54, R67). -/
theorem readRing_toNat (g : Ring) (hqueue : g.queue.length ≤ 4) (hflight : g.inFlight ≤ 11) :
    (readRing g).toNat =
      g.fetch.toNat + g.phase.code * 2 ^ 16 + g.wait.code * 2 ^ 19 + g.cause.code * 2 ^ 22 + g.queue.length * 2 ^ 24 +
        g.inFlight * 2 ^ 27 := by
  have hphase := g.phase.code_lt
  have hwait := g.wait.code_lt
  have hcause := g.cause.code_lt
  simp only [readRing, toNat_append_eq, BitVec.toNat_ofNat, BitVec.ofNat_eq_ofNat]
  omega

theorem Sources.bits_toNat (m : Sources) :
    (Sources.bits m).toNat = (if m.cq0 then 1 else 0) + (if m.cq1 then 2 else 0) + (if m.event then 4 else 0) := by
  obtain ⟨cq0, cq1, event⟩ := m
  revert cq0 cq1 event
  decide

theorem readControl_toNat (s : State) :
    (readRegister s .control).toNat =
      (if s.control.mask.cq0 then 2 ^ 8 else 0) + (if s.control.mask.cq1 then 2 ^ 9 else 0) +
        (if s.control.mask.event then 2 ^ 10 else 0) := by
  simp only [readRegister, toNat_append_eq, Sources.bits_toNat, BitVec.ofNat_eq_ofNat, BitVec.toNat_ofNat]
  split_ifs <;> rfl

/-! ## The fields of the words -/

/-- STATUS, apart from its single flags (section 3.7). -/
theorem readStatus_fields (s : State) :
    let v := (readStatus s).toNat
    v % 8 = s.control.part.code ∧ v / 8 % 2 = 0 ∧ v / 16 % 16 = s.control.setupError.code ∧
      v / 2 ^ 16 % 4 = s.control.faultRecord.kind.code ∧ v / 2 ^ 20 = s.control.faultRecord.addr.toNat / 16 := by
  have hpart := s.control.part.code_lt
  have herror := s.control.setupError.code_lt
  have hkind := s.control.faultRecord.kind.code_lt
  have hmore := s.control.moreFaults.toNat_lt
  have hflags := s.statusFlags.isLt
  rw [readStatus_toNat]
  refine ⟨?_, ?_, ?_, ?_, ?_⟩ <;> omega

/-- The flags of STATUS at bits 8 to 11, the rings-changed bits, the more-faults bit and the zero bit above it (section 3.7). -/
theorem readStatus_bits (s : State) :
    let bit : Nat → Bool := fun n => (readStatus s).getLsbD n
    bit 8 = s.ringManager.postRejected ∧ bit 9 = s.ringManager.ringctlRefused ∧ bit 10 = s.writer.ackInvalid ∧
      bit 11 = s.control.refused ∧ bit 12 = s.ringManager.ringsChanged.sq0 ∧ bit 13 = s.ringManager.ringsChanged.sq1 ∧
      bit 14 = s.ringManager.ringsChanged.sq2 ∧ bit 15 = s.ringManager.ringsChanged.sq3 ∧ bit 18 = s.control.moreFaults ∧
      bit 19 = false := by
  simp only [readStatus, BitVec.getLsbD_append, BitVec.getLsbD_ofBool]
  simp

/-- RINGCTL, while the counts are within their bounds (R54, R67). -/
theorem readRing_fields (g : Ring) (hqueue : g.queue.length ≤ 4) (hflight : g.inFlight ≤ 11) :
    let v := (readRing g).toNat
    v % 65536 = g.fetch.toNat ∧ v / 2 ^ 16 % 8 = g.phase.code ∧ v / 2 ^ 19 % 8 = g.wait.code ∧ v / 2 ^ 22 % 4 = g.cause.code ∧
      v / 2 ^ 24 % 8 = g.queue.length ∧ v / 2 ^ 27 = g.inFlight := by
  have hphase := g.phase.code_lt
  have hwait := g.wait.code_lt
  have hcause := g.cause.code_lt
  have hfetch := g.fetch.isLt
  rw [readRing_toNat g hqueue hflight]
  refine ⟨?_, ?_, ?_, ?_, ?_, ?_⟩ <;> omega

/-- Settles O16: the fields of each word, by its value or bit by bit. -/
theorem registersReadTheState : Obligations.RegistersReadTheState := by
  intro s g c status ringctl bit
  have bit_eq : ∀ n, bit status n = (readStatus s).getLsbD n := fun n => (getLsbD_eq_decide _ n).symm
  simp only [bit_eq]
  obtain ⟨hpart, hzero, herror, hkind, haddr⟩ := readStatus_fields s
  obtain ⟨h8, h9, h10, h11, h12, h13, h14, h15, h18, h19⟩ := readStatus_bits s
  refine ⟨⟨hpart, hzero, herror, h8, h9, h10, h11, h12, h13, h14, h15, hkind, h18, h19, haddr⟩,
    readRing_fields g, readControl_toNat s, zero_append_toNat _,
    (zero_append_toNat _).trans (Sources.bits_toNat s.coalescer.intstat), rfl, rfl⟩

end Sys2Proof.Machine

/-! The words of a completion record, and the status codes (section 3.4, R50, R52). -/

namespace Sys2Proof.Machine

theorem Status.code_lt (x : Status) : x.code < 64 := by cases x <;> decide

/-- R52: the refusals and the transfer errors are the codes from 8 on. -/
theorem Status.triggersStop_iff (x : Status) : x.triggersStop = true ↔ 8 ≤ x.code := by cases x <;> decide

/-- R50: the detail word is the address or the index, or NONE. -/
theorem Detail.bits_toNat (d : Detail) :
    d.bits.toNat = match d with
      | .none => 0xFFFFFFFF
      | .address a => a.toNat
      | .index i => i.toNat := by
  cases d with
  | none => rfl
  | address a => exact zero_append_toNat a
  | index i => exact zero_append_toNat i

theorem Direction.bit_eq_true_iff (d : Direction) : d.bit = true ↔ d = .descending := by cases d <;> decide

/-- Section 3.4: word 0, low field first. -/
theorem Completion.word_zero_toNat (e : Completion) (phase : Bool) :
    (e.words phase)[0].toNat =
      e.tag.toNat + e.status.code * 2 ^ 16 + phase.toNat * 2 ^ 22 + e.direction.bit.toNat * 2 ^ 23 + RingId.code e.ring * 2 ^ 24 := by
  have hstatus := e.status.code_lt
  have hring := RingId.code_lt e.ring
  simp only [Completion.words, Vector.getElem_mk, List.getElem_toArray, List.getElem_cons_zero, toNat_append_eq,
    BitVec.toNat_ofBool, BitVec.toNat_ofNat, BitVec.ofNat_eq_ofNat]
  omega

/-- Section 3.4: word 1. -/
theorem Completion.word_one_toNat (e : Completion) (phase : Bool) (hdone : e.elementsDone ≤ 65536) :
    (e.words phase)[1].toNat = e.elementsDone + e.generation.toNat * 2 ^ 24 := by
  simp only [Completion.words, Vector.getElem_mk, List.getElem_toArray, List.getElem_cons_succ, List.getElem_cons_zero,
    toNat_append_eq, BitVec.toNat_ofNat, BitVec.ofNat_eq_ofNat]
  omega

/-- Section 3.4: word 3. -/
theorem Completion.word_three_toNat (e : Completion) (phase : Bool) (hbeats : e.conflictBeats ≤ 65535) (hslot : e.slot < 256) :
    (e.words phase)[3].toNat = e.slot + e.conflictBeats * 2 ^ 16 := by
  simp only [Completion.words, Vector.getElem_mk, List.getElem_toArray, List.getElem_cons_succ, List.getElem_cons_zero,
    toNat_append_eq, BitVec.toNat_ofNat, BitVec.ofNat_eq_ofNat]
  omega

/-- Settles O24: each word as the sum of its fields, and the codes by their definition. -/
theorem completionRecordLayout : Obligations.CompletionRecordLayout := by
  intro e phase hdone hbeats hslot w code ring w0 w1 w3
  have hw0 : w0 = _ := e.word_zero_toNat phase
  have hw1 : w1 = _ := e.word_one_toNat phase hdone
  have hw3 : w3 = _ := e.word_three_toNat phase hbeats hslot
  refine ⟨?_, ?_, e.detail.bits_toNat, ?_, e.status.triggersStop_iff⟩
  · have hcode : code = e.status.code := rfl
    have hring : ring = RingId.code e.ring := rfl
    have hcode_lt := e.status.code_lt
    have hring_lt := RingId.code_lt e.ring
    have hphase := phase.toNat_lt
    have hdirection := e.direction.bit.toNat_lt
    have htag := e.tag.isLt
    rw [← Direction.bit_eq_true_iff, ← Bool.toNat_eq_one, ← Bool.toNat_eq_one]
    refine ⟨?_, ?_, ?_, ?_, ?_, ?_⟩ <;> omega
  · refine ⟨?_, ?_, ?_⟩ <;> omega
  · refine ⟨?_, ?_, ?_⟩ <;> omega

end Sys2Proof.Machine

/-! The record-level checks (R43 to R46, R91): unknown kind, flag bits, count. -/

namespace Sys2Proof.Machine

/-! ## The kind field (section 3.2, R43) -/

theorem Kind.ofCode_eq_none_iff (c : BitVec 8) :
    Kind.ofCode c = none ↔
      ¬((1 ≤ c.toNat ∧ c.toNat ≤ 7) ∨ c.toNat = 0x10 ∨ c.toNat = 0x11 ∨ c.toNat = 0x20 ∨ c.toNat = 0x21 ∨ c.toNat = 0x22) := by
  revert c
  decide

theorem Kind.code_of_ofCode {c : BitVec 8} {k : Kind} (h : Kind.ofCode c = some k) : c = k.code := by
  revert c
  cases k <;> decide

theorem Kind.ofCode_code (k : Kind) : Kind.ofCode k.code = some k := by cases k <;> rfl

/-- The kind field and the code of a kind say the same (section 3.2). -/
theorem Kind.ofCode_eq_some_iff (c : BitVec 8) (k : Kind) : Kind.ofCode c = some k ↔ c.toNat = k.code.toNat := by
  constructor
  · intro h
    rw [Kind.code_of_ofCode h]
  · intro h
    rw [BitVec.eq_of_toNat_eq h, Kind.ofCode_code]

theorem Kind.isTransfer_iff_code (k : Kind) : k.isTransfer = true ↔ 1 ≤ k.code.toNat ∧ k.code.toNat ≤ 7 := by
  cases k <;> decide

/-- PACK and UNPACK are the kinds 04h and 05h. -/
theorem Kind.pairwise_iff_code (k : Kind) : k = .pack ∨ k = .unpack ↔ k.code.toNat = 4 ∨ k.code.toNat = 5 := by
  cases k <;> decide

/-! ## The flag bits and the count (R43 to R45) -/

/-- The bits of the flags field above STRICT and HIGHONLY. -/
theorem extractLsb'_eq_zero_iff_and (flags : BitVec 8) : flags.extractLsb' 2 6 = 0 ↔ flags &&& 0xFC#8 = 0 := by
  revert flags
  decide

theorem flagBitsAllowed_iff (k : Kind) (flags : BitVec 8) :
    flagBitsAllowed k flags = true ↔ flags = 0 ∨ (k.isTransfer = true ∧ flags &&& 0xFC#8 = 0) := by
  cases h : k.isTransfer with
  | false => simp [flagBitsAllowed, h]
  | true =>
    simp only [flagBitsAllowed, h, if_true, decide_eq_true_eq, extractLsb'_eq_zero_iff_and, true_and]
    exact ⟨.inr, fun h => h.elim (fun hzero => by rw [hzero]; rfl) id⟩

theorem countAllowed_iff (k : Kind) (n : Nat) :
    countAllowed k n = true ↔ n ≤ 65536 ∧ (k = .pack ∨ k = .unpack → n % 2 = 0) := by
  cases k <;> simp [countAllowed, stepElements]

/-! ## The checks, one after the other (R43, R91) -/

section

variable {m : MapUnit} {profiles : PerDevice (Option Profile)} {x : Record} {k : Kind}

theorem validate_of_unknown (h : Kind.ofCode x.kind = none) : validate m profiles x = .refuse .badKind .none := by
  simp [validate, h]

theorem validate_of_badFlags (hk : Kind.ofCode x.kind = some k) (hf : flagBitsAllowed k x.flags = false) :
    validate m profiles x = .refuse .badFlags (if k = .mapset then .address x.a else .none) := by
  simp [validate, hk, hf]

/-- R43, R46: a transfer kind whose flag bits pass. -/
theorem validate_transfer (hk : Kind.ofCode x.kind = some k) (ht : k.isTransfer = true) (hf : flagBitsAllowed k x.flags = true) :
    validate m profiles x =
      if !countAllowed k x.count.toNat then .refuse .badCount .none
      else if x.count = 0 then .complete
      else validateTransfer m.current profiles k x := by
  simp only [validate, hk, hf]
  cases k with
  | copy | fill | compare | pack | unpack | split | join => rfl
  | fence | mark | mapset | maprevert | mapswitch => cases ht

/-- R43: a control kind whose flag bits pass: the count is not looked at. -/
theorem validate_control (hk : Kind.ofCode x.kind = some k) (ht : k.isTransfer = false) (hf : flagBitsAllowed k x.flags = true) :
    validate m profiles x =
      if k = .mapset then validateMapset m profiles x
      else if k = .maprevert then .maprevert
      else if k = .mapswitch then .mapswitch
      else .complete := by
  simp only [validate, hk, hf]
  cases k with
  | copy | fill | compare | pack | unpack | split | join => cases ht
  | fence | mark | mapset | maprevert | mapswitch => rfl

end

/-- Settles O43: a known code is that of a kind, and the checks of that kind follow in their order. -/
theorem recordLevelChecks : Obligations.RecordLevelChecks := by
  intro m profiles x code transfer known flagsOk countOk plan
  have code_eq : ∀ {k}, Kind.ofCode x.kind = some k → code = k.code.toNat := fun {k} => (Kind.ofCode_eq_some_iff _ k).1
  have kind_of_code : ∀ k : Kind, code = k.code.toNat → Kind.ofCode x.kind = some k := fun k => (Kind.ofCode_eq_some_iff _ k).2
  have transfer_iff : ∀ {k}, Kind.ofCode x.kind = some k → (transfer ↔ k.isTransfer = true) := by
    intro k hk
    rw [Kind.isTransfer_iff_code, ← code_eq hk]
  have flagsOk_iff : ∀ {k}, Kind.ofCode x.kind = some k → (flagsOk ↔ flagBitsAllowed k x.flags = true) := by
    intro k hk
    rw [flagBitsAllowed_iff, ← transfer_iff hk]
  have countOk_iff : ∀ {k}, Kind.ofCode x.kind = some k → (countOk ↔ countAllowed k x.count.toNat = true) := by
    intro k hk
    rw [countAllowed_iff, Kind.pairwise_iff_code, ← code_eq hk]
  have kind_of_known : known → ∃ k, Kind.ofCode x.kind = some k := fun h =>
    Option.ne_none_iff_exists'.1 fun hnone => (Kind.ofCode_eq_none_iff _).1 hnone h
  refine ⟨?_, ?_, ?_, ?_, ?_, ?_, ?_⟩
  · exact fun hunknown => validate_of_unknown ((Kind.ofCode_eq_none_iff _).2 hunknown)
  · intro hknown hflags
    obtain ⟨k, hk⟩ := kind_of_known hknown
    have hmapset : k = .mapset ↔ code = 0x20 := by
      rw [code_eq hk]
      cases k <;> decide
    rw [flagsOk_iff hk, Bool.not_eq_true] at hflags
    exact (validate_of_badFlags hk hflags).trans (by simp only [hmapset])
  · intro ht hf hcount
    obtain ⟨k, hk⟩ := kind_of_known (.inl ht)
    rw [countOk_iff hk] at hcount
    exact (validate_transfer hk ((transfer_iff hk).1 ht) ((flagsOk_iff hk).1 hf)).trans
      (if_pos (by simp [hcount]))
  · intro ht hf hzero
    obtain ⟨k, hk⟩ := kind_of_known (.inl ht)
    have hcount : countAllowed k x.count.toNat = true := by simp [countAllowed_iff, hzero]
    exact (validate_transfer hk ((transfer_iff hk).1 ht) ((flagsOk_iff hk).1 hf)).trans
      ((if_neg (by simp [hcount])).trans (if_pos hzero))
  · rintro (hcode | hcode) hf
    · have hk := kind_of_code .fence hcode
      exact validate_control hk rfl ((flagsOk_iff hk).1 hf)
    · have hk := kind_of_code .mark hcode
      exact validate_control hk rfl ((flagsOk_iff hk).1 hf)
  · intro hcode hf
    have hk := kind_of_code .maprevert hcode
    exact validate_control hk rfl ((flagsOk_iff hk).1 hf)
  · intro hcode hf
    have hk := kind_of_code .mapswitch hcode
    exact validate_control hk rfl ((flagsOk_iff hk).1 hf)

end Sys2Proof.Machine

/-! The valid counts of a transfer kind, and the extents that no window holds (R45, R91). -/

namespace Sys2Proof.Machine

/-! ## Resolution refuses with MAP_MISS or RANGE_SPLIT (R11, R12) -/

theorem resolveOne_eq_error {t : WindowTable} {profiles : PerDevice (Option Profile)} {k : Kind} {x : Record} {n : ExtentName}
    {st : Status} {d : Detail} (h : resolveOne t profiles k x n = .error (st, d)) : st = .mapMiss ∨ st = .rangeSplit := by
  unfold resolveOne at h
  split at h
  · cases h
  · split at h
    · cases h
    · cases h
      exact .inl rfl
    · cases h
      exact .inr rfl

theorem resolveAll_eq_error {t : WindowTable} {profiles : PerDevice (Option Profile)} {k : Kind} {x : Record}
    {st : Status} {d : Detail} (h : resolveAll t profiles k x = .error (st, d)) : st = .mapMiss ∨ st = .rangeSplit := by
  unfold resolveAll at h
  split at h
  · next ha =>
    cases h
    exact resolveOne_eq_error ha
  · split at h
    · next hb =>
      cases h
      exact resolveOne_eq_error hb
    · split at h
      · next hc =>
        cases h
        exact resolveOne_eq_error hc
      · cases h

/-- An extent that a kind names and that passes check 4 is found. -/
theorem resolve_found_of_resolveOne {t : WindowTable} {profiles : PerDevice (Option Profile)} {k : Kind} {x : Record}
    {n : ExtentName} {y : Option (Extent × Bool)} {len : Nat} (h : resolveOne t profiles k x n = .ok y)
    (hlen : extentLength k x.count.toNat n = some len) : ∃ e wp, resolve t profiles (recordAddress x n) len = .found e wp := by
  unfold resolveOne at h
  rw [hlen] at h
  dsimp only at h
  split at h
  · next e wp hfound => exact ⟨e, wp, hfound⟩
  · cases h
  · cases h

/-! ## The checks after resolution do not look at the count (R91) -/

/-- R91: checks 4 to 9 never refuse with BAD_COUNT. -/
theorem validateTransfer_ne_badCount {t : WindowTable} {profiles : PerDevice (Option Profile)} {k : Kind} {x : Record} (d : Detail) :
    validateTransfer t profiles k x ≠ .refuse .badCount d := by
  intro h
  unfold validateTransfer at h
  split at h
  · next hall =>
    cases h
    exact absurd (resolveAll_eq_error hall) (by simp)
  · split at h
    · cases h
    · split at h
      · cases h
      · split at h
        · cases h
        · split at h
          · cases h
          · split at h <;> cases h

/-! ## An extent longer than every window (R7, R45) -/

/-- R6, R7: a window of size code at most 8 has at most 65,536 words. -/
theorem windowSize_le {e : WindowEntry} (h : e.sizeCode.toNat ≤ 8) : windowSize e ≤ 65536 := by
  have hpow : 2 ^ e.sizeCode.toNat ≤ 2 ^ 8 := Nat.pow_le_pow_right (by omega) h
  unfold windowSize
  omega

/-- R8, R11: a found extent has no more words than the largest window. -/
theorem length_le_of_resolve_found {t : WindowTable} {profiles : PerDevice (Option Profile)} {start : LogicalAddr} {n : Nat}
    {x : Extent} {wp : Bool} (hsize : ∀ i, (entryAt t i).sizeCode.toNat ≤ 8) (h : resolve t profiles start n = .found x wp) :
    n ≤ 65536 := by
  obtain ⟨i, hfirst, hlast, -, -⟩ := resolve_eq_found h
  obtain ⟨-, hlow, -⟩ := (windowContains_iff _ _).1 hfirst
  obtain ⟨-, -, hhigh⟩ := (windowContains_iff _ _).1 hlast
  have hle := windowSize_le (hsize i)
  omega

/-- R45, R48: a PACK or an UNPACK names an extent of three words for every two elements. -/
theorem exists_packed_extent {k : Kind} (hk : k = .pack ∨ k = .unpack) (n : Nat) :
    ∃ name, extentLength k n name = some (3 * n / 2) := by
  rcases hk with rfl | rfl
  · exact ⟨.b, rfl⟩
  · exact ⟨.a, rfl⟩

/-- R45: a transfer with an extent longer than every window is refused at resolution. -/
theorem validateTransfer_of_long {t : WindowTable} {profiles : PerDevice (Option Profile)} {k : Kind} {x : Record}
    {n : ExtentName} {len : Nat} (hsize : ∀ i, (entryAt t i).sizeCode.toNat ≤ 8)
    (hlen : extentLength k x.count.toNat n = some len) (hlong : 65536 < len) :
    ∃ st d, validateTransfer t profiles k x = .refuse st d ∧ (st = .mapMiss ∨ st = .rangeSplit) := by
  cases hall : resolveAll t profiles k x with
  | error e =>
    obtain ⟨st, d⟩ := e
    exact ⟨st, d, by simp [validateTransfer, hall], resolveAll_eq_error hall⟩
  | ok y =>
    obtain ⟨e, wp, hfound⟩ := resolve_found_of_resolveOne (resolveAll_eq_ok hall n) hlen
    exact absurd (length_le_of_resolve_found hsize hfound) (by omega)

/-! ## BAD_COUNT (R43, R45) -/

/-- R43: a transfer kind whose flag bits pass is refused with BAD_COUNT exactly when its count is not a valid one. -/
theorem validate_badCount_iff {m : MapUnit} {profiles : PerDevice (Option Profile)} {x : Record} {k : Kind}
    (hk : Kind.ofCode x.kind = some k) (ht : k.isTransfer = true) (hf : flagBitsAllowed k x.flags = true) :
    (∃ d, validate m profiles x = .refuse .badCount d) ↔ ¬countAllowed k x.count.toNat = true := by
  rw [validate_transfer hk ht hf]
  constructor
  · rintro ⟨d, h⟩ hcount
    rw [if_neg (by simp [hcount])] at h
    split at h
    · cases h
    · exact validateTransfer_ne_badCount d h
  · exact fun hcount => ⟨.none, if_pos (by simpa using hcount)⟩

/-- R43, R45: a control kind's count makes no difference. -/
theorem validate_count_of_control {m : MapUnit} {profiles : PerDevice (Option Profile)} {x : Record} {k : Kind}
    (hk : Kind.ofCode x.kind = some k) (hcontrol : k.isTransfer = false) (n : BitVec 17) :
    validate m profiles { x with count := n } = validate m profiles x := by
  cases hf : flagBitsAllowed k x.flags with
  | false => exact (validate_of_badFlags (x := { x with count := n }) hk hf).trans (validate_of_badFlags hk hf).symm
  | true => exact (validate_control (x := { x with count := n }) hk hcontrol hf).trans (validate_control hk hcontrol hf).symm

/-- Settles O44: the count is looked at for a transfer kind alone; above 43,690 the packed extent of a PACK or an UNPACK is longer
than every window. -/
theorem validCounts : Obligations.ValidCounts := by
  intro m profiles x k hk
  refine ⟨fun ht hflags => ?_, fun hcontrol n => ?_⟩
  · have hf : flagBitsAllowed k x.flags = true := (flagBitsAllowed_iff k x.flags).2 (.inr ⟨ht, hflags⟩)
    refine ⟨?_, fun hsize hpacked heven hlow hhigh => ?_⟩
    · rw [validate_badCount_iff hk ht hf, countAllowed_iff, not_and_or, not_le, Classical.not_imp, Nat.mod_two_not_eq_zero]
    · have hcount : countAllowed k x.count.toNat = true := (countAllowed_iff k _).2 ⟨hhigh, fun _ => heven⟩
      have hzero : x.count ≠ 0 := by bv_omega
      obtain ⟨name, hlen⟩ := exists_packed_extent hpacked x.count.toNat
      rw [validate_transfer hk ht hf, if_neg (by simp [hcount]), if_neg hzero]
      exact validateTransfer_of_long hsize hlen (by omega)
  · exact validate_count_of_control hk hcontrol n

end Sys2Proof.Machine

/-! What holds a head back, and what a transfer reads and writes (R48, R83, R84, R98). -/

namespace Sys2Proof.Machine

/-! ## The extents of a valid transfer (R48, R91) -/

/-- R43, R91: a record that validates as a transfer is one of its kind. -/
theorem kind_of_validate_eq_transfer {m : MapUnit} {profiles : PerDevice (Option Profile)} {x : Record} {k : Kind}
    {a b c : Option Extent} {d : Direction} (h : validate m profiles x = .transfer k a b c d) : k.isTransfer = true := by
  cases hk : Kind.ofCode x.kind with
  | none => cases (validate_of_unknown hk).symm.trans h
  | some k' =>
    cases hf : flagBitsAllowed k' x.flags with
    | false => cases (validate_of_badFlags hk hf).symm.trans h
    | true =>
      cases ht : k'.isTransfer with
      | false =>
        rw [validate_control hk ht hf] at h
        rcases validateMapset_cases m profiles x with ⟨_, _, hm⟩ | ⟨_, hm, -⟩ <;> rw [hm] at h <;> split_ifs at h
      | true =>
        rw [validate_transfer hk ht hf] at h
        split_ifs at h
        rcases validateTransfer_cases m.current profiles k' x with ⟨_, _, hm⟩ | ⟨_, -, hm⟩
        · cases hm.symm.trans h
        · cases hm.symm.trans h
          exact ht

/-- The words of an extent, none for one that the record does not name. -/
def physOf (e : Option Extent) : List PhysExtent := (e.map fun e => e.phys).toList

/-- What a transfer of a kind writes (R48). -/
def transferWrites (k : Kind) (b c : Option Extent) : List PhysExtent :=
  match k with
  | .compare => []
  | .split => physOf b ++ physOf c
  | _ => physOf b

/-- What a transfer of a kind reads (R48). -/
def transferReads (k : Kind) (a b c : Option Extent) : List PhysExtent :=
  match k with
  | .compare => physOf a ++ physOf b
  | .split => physOf a
  | _ => physOf a ++ physOf c

/-- R48: a valid transfer has the extents that its kind names, so its lists are those of the kind. -/
theorem planExtents_of_validate {m : MapUnit} {profiles : PerDevice (Option Profile)} {x : Record} {k : Kind}
    {a b c : Option Extent} {d : Direction} (h : validate m profiles x = .transfer k a b c d) :
    planExtents k a b c true = transferWrites k b c ∧ planExtents k a b c false = transferReads k a b c := by
  have hkind := kind_of_validate_eq_transfer h
  obtain ⟨-, -, y, hy, -, -, hc, -⟩ := validate_eq_transfer h
  have hnone : extentLength k x.count.toNat .c = none → c = none := by
    intro hlen
    have hone := resolveAll_eq_ok hy .c
    simp only [resolveOne, hlen, Except.ok.injEq] at hone
    rw [hc, extentOf, ← hone]
    rfl
  cases k with
  | fence | mark | mapset | maprevert | mapswitch => cases hkind
  | compare =>
    rw [hnone rfl]
    cases a <;> cases b <;> exact ⟨rfl, rfl⟩
  | copy | fill | pack | unpack | split | join => cases a <;> cases b <;> cases c <;> exact ⟨rfl, rfl⟩

/-! ## Hazards (R14, R98) -/

theorem physOverlap_iff (e f : PhysExtent) :
    physOverlap e f = true ↔ e.target = f.target ∧ e.first ≤ f.last ∧ f.first ≤ e.last := by
  simp [physOverlap, and_assoc]

theorem physOverlap_comm (e f : PhysExtent) : physOverlap e f = physOverlap f e := by
  rw [Bool.eq_iff_iff, physOverlap_iff, physOverlap_iff, eq_comm, and_comm (a := e.first ≤ f.last)]

/-- R98: no hazard with an entry: what is written meets nothing of the entry, what is read nothing that the entry writes. -/
theorem hazardWith_eq_false_iff (reads writes : List PhysExtent) (h : Hazard) :
    hazardWith reads writes h = false ↔
      (∀ w ∈ writes, ∀ e ∈ h.reads ++ h.writes, physOverlap w e = false) ∧ ∀ w ∈ reads, ∀ e ∈ h.writes, physOverlap w e = false := by
  simp only [hazardWith, Bool.or_eq_false_iff, List.any_eq_false, Bool.not_eq_true]

/-- R98: a head meets no hazard with its ring's list. -/
theorem hasHazard_eq_false_iff (s : State) (r : RingId) (k : Kind) (a b c : Option Extent) :
    hasHazard s r k a b c = false ↔
      ∀ h ∈ s.issue.hazards.get r, hazardWith (planExtents k a b c false) (planExtents k a b c true) h = false := by
  simp only [hasHazard, List.any_eq_false, Bool.not_eq_true]

/-! ## Steps 5 and 6 (R83) -/

/-- Step 5a: a transfer finds an IDLE channel. -/
def channelFree (s : State) (plan : Plan) : Prop :=
  ∀ k a b c d, plan = .transfer k a b c d → s.channel .c0 = .idle ∨ s.channel .c1 = .idle

/-- Step 5b: a transfer meets no hazard. -/
def hazardFree (s : State) (r : RingId) (plan : Plan) : Prop :=
  ∀ k a b c d, plan = .transfer k a b c d → hasHazard s r k a b c = false

/-- Step 6: a MAPSWITCH finds no retiring generation. -/
def switchFree (s : State) (plan : Plan) : Prop := plan = .mapswitch → s.map.retiring = none

theorem Channel.isIdle_iff (ch : Channel) : ch.isIdle = true ↔ ch = .idle := by
  cases ch <;> simp [Channel.isIdle]

/-- R83: which of steps 5a, 5b and 6 holds a planned head back. -/
theorem planWait_iff (s : State) (r : RingId) (plan : Plan) :
    (planWait s r plan = .channel ↔ ¬channelFree s plan) ∧
      (planWait s r plan = .hazard ↔ channelFree s plan ∧ ¬hazardFree s r plan) ∧
      (planWait s r plan = .mapDrain ↔ ¬switchFree s plan) ∧
      (planWait s r plan = .none ↔ channelFree s plan ∧ hazardFree s r plan ∧ switchFree s plan) ∧
      planWait s r plan ≠ .part ∧ planWait s r plan ≠ .order ∧ planWait s r plan ≠ .completion := by
  cases plan with
  | refuse | complete | mapset | maprevert => simp [planWait, channelFree, hazardFree, switchFree]
  | mapswitch =>
    simp only [planWait, channelFree, hazardFree, switchFree]
    cases s.map.retiring <;> simp
  | transfer k a b c d =>
    have hfree : channelFree s (.transfer k a b c d) ↔ (!s.channels.c0.isIdle && !s.channels.c1.isIdle) = false := by
      simp only [channelFree, Plan.transfer.injEq, and_imp, State.channel, PerChannel.get,
        ← Channel.isIdle_iff]
      cases s.channels.c0.isIdle <;> cases s.channels.c1.isIdle <;> simp
    have hclear : hazardFree s r (.transfer k a b c d) ↔ hasHazard s r k a b c = false := by
      simp only [hazardFree, Plan.transfer.injEq]
      exact ⟨fun h => h k a b c d ⟨rfl, rfl, rfl, rfl, rfl⟩, by rintro h _ _ _ _ _ ⟨rfl, rfl, rfl, rfl, rfl⟩; exact h⟩
    rw [hfree, hclear]
    simp only [planWait, switchFree]
    cases (!s.channels.c0.isIdle && !s.channels.c1.isIdle) <;> cases hasHazard s r k a b c <;> simp

/-! ## The verdict on a head (R83) -/

theorem verdict_of_not_active {s : State} {r : RingId} (h : (s.ring r).phase ≠ .active ∨ (s.ring r).queue = []) :
    verdict s r = .noHead := by
  unfold verdict
  dsimp only
  split
  · rfl
  · next hqueue => rw [if_pos (h.resolve_right (by simp [hqueue]))]

/-- R83: the conditions on the head of an ACTIVE ring, in their order. -/
theorem verdict_of_head {s : State} {r : RingId} {p : Prefetched} {rest : List Prefetched} (hactive : (s.ring r).phase = .active)
    (hqueue : (s.ring r).queue = p :: rest) :
    verdict s r =
      if s.control.part ≠ .running then .wait .part
      else if ¬(needsOrder (s.ring r) p = true → (s.ring r).inFlight = 0) then .wait .order
      else if ¬cqHasRoom (s.cq (s.ring r).dir.cq) = true then .wait .completion
      else if planWait s r (validate s.map s.ports.profiles p.record) = .none ∧ postRoom s 1 = true then
        .eligible p (validate s.map s.ports.profiles p.record)
      else .wait (planWait s r (validate s.map s.ports.profiles p.record)) := by
  simp only [verdict, hqueue, hactive, ne_eq, not_true_eq_false, if_false, Bool.and_eq_true, decide_eq_true_eq, Bool.not_eq_true',
    Bool.not_eq_true, Classical.not_imp]
  refine if_congr Iff.rfl rfl (if_congr Iff.rfl rfl (if_congr Iff.rfl rfl ?_))
  split
  · next hwait => simp only [hwait, true_and]
  · next hwait => rw [if_neg fun h => hwait h.1]

/-- R83: a head is eligible exactly when it has met every condition. -/
theorem verdict_eligible_iff (s : State) (r : RingId) (p : Prefetched) (plan : Plan) :
    verdict s r = .eligible p plan ↔
      (s.ring r).queue.head? = some p ∧ (s.ring r).phase = .active ∧ s.control.part = .running ∧
        (needsOrder (s.ring r) p = true → (s.ring r).inFlight = 0) ∧ cqHasRoom (s.cq (s.ring r).dir.cq) = true ∧
        plan = validate s.map s.ports.profiles p.record ∧ planWait s r plan = .none ∧ postRoom s 1 = true := by
  refine ⟨verdict_eq_eligible, ?_⟩
  rintro ⟨hhead, hactive, hpart, horder, hroom, rfl, hwait, hpost⟩
  obtain ⟨rest, hqueue⟩ := List.head?_eq_some_iff.1 hhead
  rw [verdict_of_head hactive hqueue, if_neg (by simp [hpart]), if_neg (not_not.2 horder), if_neg (not_not.2 hroom),
    if_pos ⟨hwait, hpost⟩]

theorem Verdict.isEligible_iff (v : Verdict) : v.isEligible = true ↔ ∃ p plan, v = .eligible p plan := by
  cases v <;> simp [Verdict.isEligible]

end Sys2Proof.Machine

/-! The conditions on a head, their order, and the choice among eligible heads (R81 to R84, R98). -/

namespace Sys2Proof.Machine

/-! ## The order of the conditions (R83) -/

/-- Step 3: a head that waits for the records before it finds none in flight. -/
theorem inOrder_iff (g : Ring) (p : Prefetched) :
    (needsOrder g p = true → g.inFlight = 0) ↔
      ((g.dir.ordered = true ∨ (p.record.kind = 0x10 ∧ p.record.flags = 0)) → g.inFlight = 0) := by
  simp only [needsOrder, Bool.or_eq_true, Bool.and_eq_true, decide_eq_true_eq]
  exact Iff.rfl

/-- R98: no hazard, in the words of the rule. -/
theorem hazardFree_validate_iff (s : State) (r : RingId) (m : MapUnit) (profiles : PerDevice (Option Profile)) (x : Record) :
    hazardFree s r (validate m profiles x) ↔
      ∀ k a b c d, validate m profiles x = .transfer k a b c d → ∀ h ∈ s.issue.hazards.get r,
        (∀ w ∈ transferWrites k b c, ∀ e ∈ h.reads ++ h.writes,
          ¬(w.target = e.target ∧ w.first ≤ e.last ∧ e.first ≤ w.last)) ∧
        ∀ w ∈ transferReads k a b c, ∀ e ∈ h.writes, ¬(w.target = e.target ∧ w.first ≤ e.last ∧ e.first ≤ w.last) := by
  refine forall_congr' fun k => forall_congr' fun a => forall_congr' fun b => forall_congr' fun c => forall_congr' fun d =>
    forall_congr' fun hplan => ?_
  obtain ⟨hwrites, hreads⟩ := planExtents_of_validate hplan
  simp only [hasHazard_eq_false_iff, hazardWith_eq_false_iff, hwrites, hreads, ← physOverlap_iff, Bool.not_eq_true]

section

variable {s : State} {r : RingId} {p : Prefetched} {rest : List Prefetched}

/-- R83: the conditions on a head in their order, and the reason of the first that fails. -/
theorem verdict_order (hactive : (s.ring r).phase = .active) (hqueue : (s.ring r).queue = p :: rest) :
    let plan := validate s.map s.ports.profiles p.record
    let running := s.control.part = .running
    let inOrder := needsOrder (s.ring r) p = true → (s.ring r).inFlight = 0
    let room := cqHasRoom (s.cq (s.ring r).dir.cq) = true
    (verdict s r = .wait .part ↔ ¬running) ∧
      (verdict s r = .wait .order ↔ running ∧ ¬inOrder) ∧
      (verdict s r = .wait .completion ↔ running ∧ inOrder ∧ ¬room) ∧
      (verdict s r = .wait .channel ↔ running ∧ inOrder ∧ room ∧ ¬channelFree s plan) ∧
      (verdict s r = .wait .hazard ↔ running ∧ inOrder ∧ room ∧ channelFree s plan ∧ ¬hazardFree s r plan) ∧
      (verdict s r = .wait .mapDrain ↔ running ∧ inOrder ∧ room ∧ ¬switchFree s plan) ∧
      (verdict s r = .wait .none ↔
        running ∧ inOrder ∧ room ∧ channelFree s plan ∧ hazardFree s r plan ∧ switchFree s plan ∧ ¬postRoom s 1 = true) ∧
      (verdict s r = .eligible p plan ↔
        running ∧ inOrder ∧ room ∧ channelFree s plan ∧ hazardFree s r plan ∧ switchFree s plan ∧ postRoom s 1 = true) := by
  intro plan running inOrder room
  obtain ⟨hchannel, hhazard, hdrain, hnone, hpart, horder, hcompletion⟩ := planWait_iff s r plan
  have hverdict := verdict_of_head hactive hqueue
  by_cases h2 : running
  · by_cases h3 : inOrder
    · by_cases h4 : room
      · rw [if_neg (not_not.2 h2), if_neg (not_not.2 h3), if_neg (not_not.2 h4)] at hverdict
        simp only [h2, h3, h4, true_and, not_true_eq_false, iff_false, ← hchannel, ← hhazard, ← hdrain]
        have hlast (q : Prop) : (channelFree s plan ∧ hazardFree s r plan ∧ switchFree s plan ∧ q) ↔
            planWait s r plan = .none ∧ q := by rw [hnone, and_assoc, and_assoc]
        rw [hlast, hlast, hverdict]
        by_cases h5 : planWait s r plan = .none ∧ postRoom s 1 = true
        · rw [if_pos h5]
          simp [h5, plan]
        · rw [if_neg h5]
          simp only [Verdict.wait.injEq, reduceCtorEq, false_iff]
          exact ⟨hpart, horder, hcompletion, Iff.rfl, Iff.rfl, Iff.rfl, ⟨fun h => ⟨h, fun hpost => h5 ⟨h, hpost⟩⟩, And.left⟩, h5⟩
      · rw [if_neg (not_not.2 h2), if_neg (not_not.2 h3), if_pos h4] at hverdict
        simp [hverdict, h2, h3, h4]
    · rw [if_neg (not_not.2 h2), if_pos h3] at hverdict
      simp [hverdict, h2, h3]
  · rw [if_pos h2] at hverdict
    simp [hverdict, h2]

end

/-- Settles O38: the verdict on the head of an ACTIVE ring, with each condition in the words of its rule. -/
theorem eligibilityOrder : Obligations.EligibilityOrder := by
  intro r s
  refine ⟨verdict_of_not_active, fun w hw => by rw [hw]; rfl, fun hv => by rw [hv]; rfl, fun p plan hv => by rw [hv]; rfl, ?_⟩
  intro p rest hactive hqueue
  have horder := verdict_order hactive hqueue
  have hroom : cqHasRoom (s.cq (s.ring r).dir.cq) = true ↔
      (s.cq (s.ring r).dir.cq).reservations + ((s.cq (s.ring r).dir.cq).tail - (s.cq (s.ring r).dir.cq).head).toNat <
        2 ^ (s.cq (s.ring r).dir.cq).depthCode.toNat := decide_eq_true_iff
  have hpost : postRoom s 1 = true ↔ s.writer.postQueue.length < 8 := postRoom_iff s 1
  have hfull : ¬s.writer.postQueue.length < 8 ↔ 8 ≤ s.writer.postQueue.length := not_lt
  simp only [hroom, hpost, hfull, inOrder_iff, hazardFree_validate_iff] at horder
  exact horder

/-! ## The choice among eligible heads (R82) -/

theorem ringsFrom_nodup (ptr : RingId) : (ringsFrom ptr).Nodup := by cases ptr <;> decide

theorem mem_ringsFrom (ptr r : RingId) : r ∈ ringsFrom ptr := by cases ptr <;> cases r <;> decide

/-- The first element with a property, in a list that holds each once. -/
theorem find?_eq_some_iff_of_nodup {α : Type} {l : List α} (hl : l.Nodup) {x : α} (hx : x ∈ l) (p : α → Bool) :
    l.find? p = some x ↔ p x = true ∧ ∀ pre post, l = pre ++ x :: post → ∀ y ∈ pre, ¬p y = true := by
  rw [List.find?_eq_some_iff_append]
  refine and_congr_right fun _ => ⟨?_, fun h => ?_⟩
  · rintro ⟨as, bs, rfl, has⟩ pre post hsplit y hy
    have hnot : x ∉ as := fun hmem => (List.nodup_append.1 hl).2.2 x hmem x List.mem_cons_self rfl
    have hnot' : x ∉ bs := (List.nodup_cons.1 (List.nodup_append.1 hl).2.1).1
    obtain ⟨rfl, -, -⟩ := (List.append_cons_inj_of_notMem hnot hnot').1 hsplit
    simpa using has y hy
  · obtain ⟨as, bs, rfl⟩ := List.append_of_mem hx
    exact ⟨as, bs, rfl, fun y hy => by simpa using h as bs rfl y hy⟩

/-- R82: within a class, the first eligible head from the pointer on. -/
theorem searchClass_eq_some_iff (s : State) (cls : RingClass) (ptr r : RingId) :
    searchClass s cls ptr = some r ↔
      (verdict s r).isEligible = true ∧ (s.ring r).dir.cls = cls ∧ ∀ pre post, ringsFrom ptr = pre ++ r :: post →
        ∀ q ∈ pre, ¬((verdict s q).isEligible = true ∧ (s.ring q).dir.cls = cls) := by
  rw [searchClass, find?_eq_some_iff_of_nodup (ringsFrom_nodup ptr) (mem_ringsFrom ptr r)]
  simp only [Bool.and_eq_true, decide_eq_true_eq, and_comm (b := (verdict s _).isEligible = true), and_assoc]

theorem searchClass_eq_none_iff (s : State) (cls : RingClass) (ptr : RingId) :
    searchClass s cls ptr = none ↔ ∀ q, (verdict s q).isEligible = true → (s.ring q).dir.cls ≠ cls := by
  simp only [searchClass, List.find?_eq_none, mem_ringsFrom, true_implies, Bool.and_eq_true, decide_eq_true_eq, not_and', ne_eq]

/-- R82: an eligible URGENT head before any NORMAL one. -/
theorem chosenRing_eq_some_iff (s : State) (r : RingId) :
    chosenRing s = some r ↔
      searchClass s .urgent s.issue.urgentPtr = some r ∨
        ((∀ q, (verdict s q).isEligible = true → (s.ring q).dir.cls = .normal) ∧
          searchClass s .normal s.issue.normalPtr = some r) := by
  have hnormal : (∀ q, (verdict s q).isEligible = true → (s.ring q).dir.cls = .normal) ↔
      searchClass s .urgent s.issue.urgentPtr = none := by
    rw [searchClass_eq_none_iff]
    refine forall_congr' fun q => imp_congr_right fun _ => ?_
    cases (s.ring q).dir.cls <;> simp
  rw [hnormal]
  unfold chosenRing
  split
  · next hsome => simp [hsome]
  · next hnone => simp [hnone]

/-- R82: no head is chosen exactly when none is eligible. -/
theorem chosenRing_eq_none_iff (s : State) : chosenRing s = none ↔ ∀ q, (verdict s q).isEligible = false := by
  constructor
  · intro hnone q
    unfold chosenRing at hnone
    split at hnone
    · cases hnone
    · next hurgent =>
      rw [searchClass_eq_none_iff] at hurgent hnone
      cases hcls : (s.ring q).dir.cls with
      | urgent => exact Bool.eq_false_iff.2 fun hq => hurgent q hq hcls
      | normal => exact Bool.eq_false_iff.2 fun hq => hnone q hq hcls
  · intro hall
    cases hr : chosenRing s with
    | none => rfl
    | some r => exact absurd (chosenRing_eligible hr) (by simp [hall r])

/-- Settles O39, by the searches of the two classes. -/
theorem headChoice : Obligations.HeadChoice := by
  intro s eligible order first
  have heligible (r : RingId) : (verdict s r).isEligible = true ↔ eligible r := Verdict.isEligible_iff _
  have horder (ptr : RingId) : ringsFrom ptr = order ptr := by cases ptr <;> rfl
  have hfirst (cls : RingClass) (ptr r : RingId) : searchClass s cls ptr = some r ↔ first cls ptr r := by
    simp only [searchClass_eq_some_iff, heligible, horder, first]
  refine ⟨fun r => ?_, ?_⟩
  · simp only [chosenRing_eq_some_iff, hfirst, heligible]
  · rintro ⟨r, hr⟩
    refine Option.ne_none_iff_exists'.1 fun hnone => ?_
    exact absurd ((heligible r).2 hr) (by simp [(chosenRing_eq_none_iff s).1 hnone r])

/-! ## An examination that takes nothing (R81, R84) -/

theorem State.examine_of_none {s : State} (h : chosenRing s = none) :
    s.examine = { s.setWaits with issue := { s.issue with due := false } } := by
  rcases s.examine_cases with ⟨-, he⟩ | ⟨r, _, _, hr, -, -⟩
  · rw [he, State.setWaits_issue]
  · cases h.symm.trans hr

/-- Settles O37, from the rings that the examination leaves. -/
theorem examinationTakesNothing : Obligations.ExaminationTakesNothing := by
  intro s
  refine ⟨fun hpart => by simp [exec, execExamination, hpart], fun hhalted hoff hloading hnone => ?_⟩
  have hring (r : RingId) : s.setWaits.ringManager.rings.get r = examinedRing s r := s.setWaits_ring r
  refine ⟨s.setWaits.ringManager.rings, hring, fun r hactive => ?_, ?_⟩
  · rw [hring, examinedRing, if_pos hactive]
    exact ⟨fun hv => by rw [hv]; rfl, fun w hw => by rw [hw]; rfl⟩
  · simp only [exec, execExamination, hhalted, hoff, hloading, or_self, if_false,
      State.examine_of_none ((chosenRing_eq_none_iff s).2 hnone)]
    rfl

end Sys2Proof.Machine

/-! The taking of a record that is refused or completed at once, and of a transfer (R46, R77, R87, R88, R96, R97, R99, R100, R102). -/

namespace Sys2Proof.Machine

/-! ## Refusals stop a stop-on-error ring (R52, R77, R96) -/

theorem validateMapset_refuse_triggersStop {m : MapUnit} {profiles : PerDevice (Option Profile)} {x : Record} {st : Status} {d : Detail}
    (h : validateMapset m profiles x = .refuse st d) : st.triggersStop = true := by
  unfold validateMapset at h
  split at h
  · cases h; rfl
  · split_ifs at h <;> cases h <;> rfl

theorem validateTransfer_refuse_triggersStop {t : WindowTable} {profiles : PerDevice (Option Profile)} {k : Kind} {x : Record}
    {st : Status} {d : Detail} (h : validateTransfer t profiles k x = .refuse st d) : st.triggersStop = true := by
  unfold validateTransfer at h
  split at h
  · next hall =>
    cases h
    rcases resolveAll_eq_error hall with rfl | rfl <;> rfl
  · split at h
    · cases h; rfl
    · split at h
      · cases h; rfl
      · split at h
        · cases h; rfl
        · split at h
          · cases h; rfl
          · split at h <;> cases h
            rfl

/-- R52, R96: every status that validation refuses with is of the refusal class. -/
theorem validate_refuse_triggersStop {m : MapUnit} {profiles : PerDevice (Option Profile)} {x : Record} {st : Status} {d : Detail}
    (h : validate m profiles x = .refuse st d) : st.triggersStop = true := by
  cases hk : Kind.ofCode x.kind with
  | none =>
    cases (validate_of_unknown hk).symm.trans h
    rfl
  | some k =>
    cases hf : flagBitsAllowed k x.flags with
    | false =>
      cases (validate_of_badFlags hk hf).symm.trans h
      rfl
    | true =>
      cases ht : k.isTransfer with
      | false =>
        rw [validate_control hk ht hf] at h
        split_ifs at h
        exact validateMapset_refuse_triggersStop h
      | true =>
        rw [validate_transfer hk ht hf] at h
        split_ifs at h
        · cases h; rfl
        · exact validateTransfer_refuse_triggersStop h

/-! ## The records completed at their taking (R96, R100) -/

/-- The entry of a record completed at its taking (R51, R96, R100). -/
def takingEntry (s : State) (r : RingId) (p : Prefetched) (status : Status) (detail : Detail) : Completion where
  tag := p.record.tag
  status := status
  ring := r
  slot := p.slot
  elementsDone := 0
  generation := s.map.generation
  detail := detail
  direction := .ascending
  conflictBeats := 0
  cq := (s.ring r).dir.cq
  transferKey := none

theorem State.stopOnError_examineDue (s : State) (r : RingId) (st : Status) :
    (s.stopOnError r st).examineDue = s.examineDue.stopOnError r st := by
  unfold State.stopOnError
  exact (apply_ite State.examineDue _ _ _).trans rfl

/-- R77, R96, R100: the state after a record is completed at its taking: its entry is in the post queue, and stop-on-error acts. -/
theorem State.completeHead_taking (s : State) (r : RingId) (p : Prefetched) (st : Status) (d : Detail) :
    ((s.setWaits.takeHead r).completeHead r p st d).examineDue =
      (s.takenWith r s.map (s.writer.postQueue ++ [takingEntry s r p st d])).stopOnError r st := by
  have hring : (s.setWaits.takeHead r).ring r = takenRing (s.ring r) := s.takenWith_ring_same r s.map s.writer.postQueue
  have hqueue : (s.setWaits.takeHead r).writer.postQueue = s.writer.postQueue := by simp [State.takeHead]
  have hmap : (s.setWaits.takeHead r).map = s.map := by simp
  have hentry : plainCompletion (s.setWaits.takeHead r) r p.slot p.record.tag st d = takingEntry s r p st d := by
    simp [plainCompletion, takingEntry, hring, takenRing]
  rw [State.completeHead, State.handEntry, hentry, hqueue, State.stopOnError_examineDue, State.takenWith, ← hmap]
  rfl

/-- R46, R87, R88, R96, R100: the examination that takes a refused or complete head. -/
theorem examination_completed {s : State} {r : RingId} {p : Prefetched} {plan : Plan} {st : Status} {d : Detail}
    (hr : chosenRing s = some r) (hv : verdict s r = .eligible p plan)
    (hplan : plan = .refuse st d ∨ (plan = .complete ∧ st = .ok ∧ d = .none)) :
    exec .examination s =
      .next ((s.takenWith r s.map (s.writer.postQueue ++ [takingEntry s r p st d])).stopOnError r st) := by
  rw [exec_examination_taken hr hv, ← State.completeHead_taking]
  rcases hplan with rfl | ⟨rfl, rfl, rfl⟩ <;> rfl

/-- A taking speaks of its own ring in no more than the other rings' frame. -/
theorem takingOf_setRing {s t : State} {r : RingId} (h : takingOf s t r) (g : Ring) : takingOf s (t.setRing r g) r := by
  obtain ⟨hother, hmanager, hrest⟩ := h
  refine ⟨fun r' hr => (State.ring_setRing_other t g hr).trans (hother r' hr), ?_, hrest⟩
  rw [State.setRing_ringManager, hmanager]

/-- Settles O40: the state with the head taken and its entry handed, in which a refusal alone stops the ring. -/
theorem completedAtTaking : Obligations.CompletedAtTaking := by
  intro r p plan status detail s hr hv hplan g stops entry
  obtain ⟨-, hactive, -, -, -, hvalid, -⟩ := verdict_eq_eligible hv
  have htriggers : status.triggersStop = true ↔ ∃ d, plan = .refuse status d := by
    rcases hplan with rfl | ⟨rfl, rfl, rfl⟩
    · exact ⟨fun _ => ⟨detail, rfl⟩, fun _ => validate_refuse_triggersStop hvalid.symm⟩
    · simp [Status.triggersStop]
  have hphase : (takenRing g).phase = .idle ∨ (takenRing g).phase = .active := by
    simp only [takenRing, g, hactive]
    split <;> simp
  refine ⟨_, examination_completed hr hv hplan, ?_⟩
  generalize hu : s.takenWith r s.map (s.writer.postQueue ++ [takingEntry s r p status detail]) = u
  have htaking : takingOf s u r := hu ▸ s.takenWith_takingOf r s.map _
  have hring : u.ring r = takenRing g := hu ▸ s.takenWith_ring_same r s.map _
  have hissue : u.issue.hazards = s.issue.hazards ∧ u.issue.nextKey = s.issue.nextKey := by
    rw [← hu, State.takenWith_issue]
    exact ⟨rfl, rfl⟩
  have hrest : (u.stopOnError r status).writer.postQueue = s.writer.postQueue ++ [entry] ∧
      (u.stopOnError r status).map = s.map ∧ (u.stopOnError r status).channels = s.channels ∧
      (u.stopOnError r status).issue.hazards = s.issue.hazards ∧ (u.stopOnError r status).issue.nextKey = s.issue.nextKey := by
    rw [State.stopOnError_writer, State.stopOnError_map, State.stopOnError_channels, State.stopOnError_issue]
    exact ⟨by rw [← hu]; rfl, by rw [← hu]; rfl, by rw [← hu]; exact s.takenWith_channels r _ _, hissue⟩
  by_cases hstops : stops
  · have hstopped : u.stopOnError r status = u.setRing r { takenRing g with phase := .stopping } := by
      have hdir : (takenRing g).dir.stopOnError = true := hstops.1
      unfold State.stopOnError
      dsimp only
      rw [hring, if_pos (by simp [hdir, htriggers.2 hstops.2, hphase])]
      rfl
    refine ⟨?_, fun hnot => absurd hstops hnot, fun _ => ?_, hrest⟩
    · rw [hstopped]
      exact takingOf_setRing htaking _
    · rw [hstopped, State.ring_setRing_same]
  · have hsame : u.stopOnError r status = u := by
      rcases u.stopOnError_cases r status with h | ⟨hdir, htrig, -, -⟩
      · exact h
      · rw [hring] at hdir
        exact absurd ⟨hdir, htriggers.1 htrig⟩ hstops
    refine ⟨hsame.symm ▸ htaking, fun _ => by rw [hsame, hring], fun h => absurd h hstops, hrest⟩

/-! ## An examination due does not touch the steps of a channel (R81, R105) -/

theorem State.countConflict_examineDue (s : State) (c : ChannelId) : s.examineDue.countConflict c = (s.countConflict c).examineDue := by
  unfold State.countConflict
  rw [State.examineDue_channel]
  split <;> rfl

theorem State.requestBeat_examineDue (s : State) (b : Beat) : s.examineDue.requestBeat b = (s.requestBeat b).examineDue := by
  unfold State.requestBeat
  dsimp only
  rw [State.examineDue_arbiter]
  split
  · exact (s.setArbiter _ _).countConflict_examineDue b.channel
  · rfl

theorem State.requestBeats_examineDue (s : State) (bs : List Beat) : s.examineDue.requestBeats bs = (s.requestBeats bs).examineDue := by
  unfold State.requestBeats
  induction bs generalizing s with
  | nil => rfl
  | cons b rest ih => rw [List.foldl_cons, State.requestBeat_examineDue, ih, List.foldl_cons]

theorem State.beginPhase_examineDue (s : State) (c : ChannelId) (x : Context) (p : StepPhase) (rs : List BeatResult)
    (bs : List Beat) : s.examineDue.beginPhase c x p rs bs = (s.beginPhase c x p rs bs).examineDue :=
  (s.setChannel c _).requestBeats_examineDue _

theorem State.beginStep_examineDue (s : State) (c : ChannelId) (x : Context) :
    s.examineDue.beginStep c x = (s.beginStep c x).examineDue := by
  unfold State.beginStep
  split <;> exact s.beginPhase_examineDue ..

/-! ## The taking of a transfer (R97, R99, R102) -/

/-- The state in which a taken transfer begins its first step: the head taken, the transfer bound and listed. -/
def State.takenTransfer (s : State) (r : RingId) (reads writes : List PhysExtent) : State :=
  (s.takenWith r { s.map with bound := s.map.bound + 1 } s.writer.postQueue).listTransfer r reads writes

theorem State.takenTransfer_takingOf (s : State) (r : RingId) (reads writes : List PhysExtent) :
    takingOf s (s.takenTransfer r reads writes) r :=
  s.takenWith_takingOf r _ _

theorem State.takenTransfer_ring (s : State) (r : RingId) (reads writes : List PhysExtent) :
    (s.takenTransfer r reads writes).ring r = takenRing (s.ring r) :=
  s.takenWith_ring_same r { s.map with bound := s.map.bound + 1 } s.writer.postQueue

theorem State.takenTransfer_channels (s : State) (r : RingId) (reads writes : List PhysExtent) :
    (s.takenTransfer r reads writes).channels = s.channels :=
  s.takenWith_channels r { s.map with bound := s.map.bound + 1 } s.writer.postQueue

theorem State.takenTransfer_issue (s : State) (r : RingId) (reads writes : List PhysExtent) :
    (s.takenTransfer r reads writes).issue.hazards =
        s.issue.hazards.set r (s.issue.hazards.get r ++ [⟨s.issue.nextKey, reads, writes⟩]) ∧
      (s.takenTransfer r reads writes).issue.nextKey = s.issue.nextKey + 1 := by
  rw [State.takenTransfer, State.listTransfer_issue, State.takenWith_issue]
  exact ⟨rfl, rfl⟩

/-- R99, R103: the examination that takes a transfer. -/
theorem examination_transfer {s : State} {r : RingId} {p : Prefetched} {k : Kind} {a b c : Option Extent} {d : Direction}
    (hr : chosenRing s = some r) (hv : verdict s r = .eligible p (.transfer k a b c d)) :
    exec .examination s =
      .next ((s.takenTransfer r (planExtents k a b c false) (planExtents k a b c true)).beginStep (freeChannel s)
        (contextAtTaking s r p k a b c d)) := by
  generalize hu : s.setWaits.takeHead r = u
  have hqueue : s.writer.postQueue = u.writer.postQueue := by simp [← hu, State.takeHead]
  have hmap : s.map = u.map := by simp [← hu]
  have hfree : freeChannel s = freeChannel u := by simp [freeChannel, ← hu]
  have hcontext : contextAtTaking s r p k a b c d = contextAtTaking u r p k a b c d := by
    have hkey : s.issue.nextKey = u.issue.nextKey := by simp [← hu, State.takeHead, State.movePointer_issue]
    rw [contextAtTaking, contextAtTaking, hkey, hmap]
  rw [exec_examination_taken hr hv, hu, State.carryOut, State.issueTransfer, ← State.beginStep_examineDue, State.takenTransfer,
    State.takenWith, hu, hqueue, hmap, hfree, hcontext]
  rfl

/-- R95, R104: a DESCENDING transfer is a COPY, which begins at its last element. -/
theorem firstStep_of_validate {m : MapUnit} {profiles : PerDevice (Option Profile)} {x : Record} {k : Kind} {a b c : Option Extent}
    {d : Direction} (h : validate m profiles x = .transfer k a b c d) (n : Nat) :
    firstStep k n d = if d = .descending then n - 1 else 0 := by
  obtain ⟨-, -, y, -, -, -, -, hd⟩ := validate_eq_transfer h
  cases d with
  | ascending => rfl
  | descending => simp [firstStep, copy_of_directionOf_descending hd.symm, stepElements]

/-- Settles O42: the state with the transfer bound and listed, on the lowest-numbered IDLE channel. -/
theorem transferTaken : Obligations.TransferTaken := by
  intro r p k a b c d s hr hv physOf writes reads n context
  obtain ⟨-, -, -, -, -, hvalid, hwait, -⟩ := verdict_eq_eligible hv
  obtain ⟨hwrites, hreads⟩ := planExtents_of_validate hvalid.symm
  obtain ⟨hhazards, hkey⟩ := s.takenTransfer_issue r reads writes
  have hcontext : contextAtTaking s r p k a b c d = context := by
    simp only [contextAtTaking, firstStep_of_validate hvalid.symm]
    rfl
  have hexec : exec .examination s = .next ((s.takenTransfer r reads writes).beginStep (freeChannel s) context) := by
    have htaken := examination_transfer hr hv
    rwa [hwrites, hreads, hcontext] at htaken
  refine ⟨s.takenTransfer r reads writes, s.takenTransfer_takingOf r reads writes, s.takenTransfer_ring r reads writes,
    rfl, rfl, s.takenTransfer_channels r reads writes, hhazards, hkey, fun hidle => ?_, fun hbusy => ?_⟩
  · have hfree : freeChannel s = .c0 := if_pos ((Channel.isIdle_iff _).2 hidle)
    rwa [hfree] at hexec
  · have hfree : freeChannel s = .c1 := if_neg fun hidle => hbusy ((Channel.isIdle_iff _).1 hidle)
    have hidle := freeChannel_idle_of_planWait hwait
    rw [hfree] at hidle hexec
    exact ⟨hidle, hexec⟩

end Sys2Proof.Machine

/-! The hazard lists (R97, R98, R151): what the commands do to them, and that their entries stay free of hazards. -/

namespace Sys2Proof.Machine

/-! ## The commands that leave the lists (R97) -/

/-- The command leaves the hazard lists, and the key of the next transfer. -/
structure LeavesLists (s t : State) : Prop where
  hazards : t.issue.hazards = s.issue.hazards
  nextKey : t.issue.nextKey = s.issue.nextKey

theorem LeavesLists.of_issue {s t : State} (h : t.issue = s.issue) : LeavesLists s t := ⟨by rw [h], by rw [h]⟩

theorem LeavesLists.trans {s t u : State} (h : LeavesLists s t) (h' : LeavesLists t u) : LeavesLists s u :=
  ⟨h'.hazards.trans h.hazards, h'.nextKey.trans h.nextKey⟩

theorem State.withdrawDisposal_leavesLists (s : State) (r : RingId) : LeavesLists s (s.withdrawDisposal r) := by
  unfold State.withdrawDisposal
  dsimp only
  split <;> exact ⟨rfl, rfl⟩

theorem State.postFault_leavesLists (s : State) (r : RingId) (cause : FaultCause) : LeavesLists s (s.postFault r cause) := by
  unfold State.postFault
  split
  · exact ⟨rfl, rfl⟩
  · exact (s.withdrawDisposal_leavesLists r).trans ⟨rfl, rfl⟩

theorem State.postApply_leavesLists (s : State) (r : RingId) (tail : Count) : LeavesLists s (s.postApply r tail) := by
  unfold State.postApply
  dsimp only
  split <;> exact ⟨rfl, rfl⟩

theorem State.joinRecord_leavesLists (s : State) (r : RingId) (req : FetchRequest) : LeavesLists s (s.joinRecord r req) := by
  unfold State.joinRecord
  dsimp only
  split
  · exact ⟨rfl, rfl⟩
  · split <;> exact ⟨by simp, by simp⟩

theorem State.handOff_leavesLists (s : State) (c : ChannelId) (x : Context) (e : Ending) : LeavesLists s (s.handOff c x e) :=
  ⟨by simp [State.handOff], by simp [State.handOff]⟩

theorem State.loadBlock_leavesLists (s : State) (b : SetupBlock) : LeavesLists s (s.loadBlock b) := by
  rcases s.loadBlock_cases b with ⟨e, he⟩ | ⟨-, he⟩ <;> rw [he] <;> exact ⟨rfl, rfl⟩

theorem execFetchComplete_leavesLists {host : List HostWrite} {ok : Bool} {s t : State} (h : execFetchComplete host ok s = .next t) :
    LeavesLists s t := by
  have hread : LeavesLists s { s with mailbox := mailboxHost s.mailbox host }.freePort := ⟨rfl, rfl⟩
  unfold execFetchComplete at h
  split at h <;> cases h
  · split
    · exact ⟨rfl, rfl⟩
    · split <;> exact ⟨rfl, rfl⟩
    · split
      · exact hread.trans (State.joinRecord_leavesLists ..)
      · exact ⟨rfl, rfl⟩
  · exact ⟨rfl, rfl⟩

theorem execSetupLoadEnd_leavesLists {host : List HostWrite} {ok : Bool} {s t : State} (h : execSetupLoadEnd host ok s = .next t) :
    LeavesLists s t := by
  unfold execSetupLoadEnd at h
  split at h
  · simp only [Host.Outcome.next.injEq] at h
    generalize hu : { s with mailbox := mailboxHost s.mailbox host }.freePort = u at h
    have hlists : LeavesLists s u := .of_issue (by simp [← hu])
    subst h
    split_ifs
    · exact hlists
    · exact hlists.trans ⟨rfl, rfl⟩
    · exact hlists.trans (u.loadBlock_leavesLists _)
    · exact hlists
  · cases h
    exact ⟨rfl, rfl⟩

/-- The commands that can change a hazard list. -/
def reachesLists : Instr → Bool
  | .powerOnReset | .softReset _ | .examination | .completionWrite _ => true
  | _ => false

theorem exec_leavesLists {c : Instr} {s t : State} (hc : reachesLists c = false) (h : exec c s = .next t) : LeavesLists s t := by
  cases c with
  | powerOnReset | softReset | examination | completionWrite => cases hc
  | controlMaskWrite | controlUnknownCommand | select | ringctlUnknownCommand | setupWrite | statusWrite | intstatWrite =>
    cases h
    exact ⟨rfl, rfl⟩
  | enable | quiesce | abort | resume | ack | fetchRequest | mPortGrant | holdoffExpiry | stop | ringReset =>
    cases h
    constructor <;> split_ifs <;> simp
  | ringResume r =>
    cases h
    split_ifs <;> exact ⟨rfl, rfl⟩
  | flush r =>
    cases h
    split_ifs <;> exact ⟨by simp, by simp⟩
  | post r tail =>
    cases h
    split
    · exact ⟨rfl, rfl⟩
    · split
      · exact s.postFault_leavesLists ..
      · split
        · exact s.postFault_leavesLists ..
        · exact s.postApply_leavesLists ..
  | fetchComplete host ok =>
    exact execFetchComplete_leavesLists h
  | setupLoadEnd host ok =>
    exact execSetupLoadEnd_leavesLists h
  | mailboxFault =>
    simp only [exec, execMailboxFault] at h
    split at h <;> cases h
    · exact ⟨rfl, rfl⟩
    · split <;> exact .of_issue (by simp)
  | beatGrant i ws =>
    simp only [exec, execBeatGrant] at h
    split at h
    · cases h
      exact ⟨rfl, rfl⟩
    · split at h
      · cases h
        exact .of_issue (by simp)
      · split at h <;> cases h
        exact .of_issue (by simp)
  | beatEnd b =>
    simp only [exec, execBeatEnd] at h
    split at h
    · cases h
      exact ⟨rfl, rfl⟩
    · split at h <;> cases h
      split <;> exact .of_issue (by simp)
  | ready d v =>
    simp only [exec, execReady] at h
    split at h <;> cases h
    · exact ⟨rfl, rfl⟩
    · split
      · exact .of_issue (by simp)
      · exact ⟨rfl, rfl⟩
  | readyTimeout =>
    simp only [exec, execReadyTimeout] at h
    split at h <;> cases h
    · exact ⟨rfl, rfl⟩
    · exact .of_issue (by simp)
  | handOff c =>
    rcases execHandOff_cases h with rfl | ⟨x, e, -, rfl⟩
    · exact ⟨rfl, rfl⟩
    · exact s.handOff_leavesLists c x e
  | flushDisposal r =>
    cases h
    split
    · exact ⟨rfl, rfl⟩
    · split
      · exact ⟨rfl, rfl⟩
      · split
        · dsimp only
          split <;> exact .of_issue (by simp)
        · exact .of_issue (by simp)

/-! ## The keys in the post queue (log entry 14) -/

/-- The keys of a ring's transfers whose entries are in the post queue. -/
def queueKeys (q : List Completion) (r : RingId) : List Nat := (q.filter fun e => decide (e.ring = r)).filterMap (·.transferKey)

theorem queueKeys_append (q q' : List Completion) (r : RingId) : queueKeys (q ++ q') r = queueKeys q r ++ queueKeys q' r := by
  simp only [queueKeys, List.filter_append, List.filterMap_append]

theorem queueKeys_cons (e : Completion) (q : List Completion) (r : RingId) :
    queueKeys (e :: q) r = (if e.ring = r then e.transferKey.toList else []) ++ queueKeys q r := by
  by_cases hr : e.ring = r
  · cases hk : e.transferKey <;> simp [queueKeys, hr, hk]
  · simp [queueKeys, hr]

/-- R149: of the keys in the post queue, a handed entry adds its own. -/
theorem State.handEntry_queueKeys (s : State) (e : Completion) (r : RingId) :
    queueKeys (s.handEntry e).writer.postQueue r =
      queueKeys s.writer.postQueue r ++ if e.ring = r then e.transferKey.toList else [] := by
  rw [State.handEntry_writer, queueKeys_append, queueKeys_cons]
  simp [queueKeys]

/-- A record that was no transfer has no key. -/
theorem State.handEntry_queueKeys_of_none (s : State) {e : Completion} (h : e.transferKey = none) (r : RingId) :
    queueKeys (s.handEntry e).writer.postQueue r = queueKeys s.writer.postQueue r := by
  rw [State.handEntry_queueKeys, h]
  simp

/-! ## The commands that change a list (R97, R151, R175, R176) -/

/-- R97, R100: of the records taken, only a transfer is listed. -/
theorem State.carryOut_leavesLists (s : State) (r : RingId) (p : Prefetched) {plan : Plan} (h : plan.isTransfer = false) :
    LeavesLists s (s.carryOut r p plan) := by
  cases plan with
  | transfer => cases h
  | mapswitch =>
    simp only [State.carryOut]
    split
    · exact ⟨rfl, rfl⟩
    · exact .of_issue (by simp)
  | refuse | complete | mapset | maprevert => exact .of_issue (by simp [State.carryOut])

theorem State.carryOut_queueKeys (s : State) (r : RingId) (p : Prefetched) {plan : Plan} (h : plan.isTransfer = false) (r' : RingId) :
    queueKeys (s.carryOut r p plan).writer.postQueue r' = queueKeys s.writer.postQueue r' := by
  cases plan with
  | transfer => cases h
  | mapswitch =>
    simp only [State.carryOut]
    split
    · rfl
    · exact State.handEntry_queueKeys_of_none _ rfl r'
  | refuse | complete | mapset | maprevert => exact State.handEntry_queueKeys_of_none _ rfl r'

theorem State.takeHead_leavesLists (s : State) (r : RingId) : LeavesLists s (s.setWaits.takeHead r) := by
  constructor <;> simp [State.takeHead, State.movePointer_issue]

/-- R81, R97: an examination takes a transfer, or leaves the lists and the transfers in flight. -/
theorem State.examine_transfer_cases (s : State) :
    (∃ r p k a b c d, chosenRing s = some r ∧ verdict s r = .eligible p (.transfer k a b c d) ∧
        s.examine = (s.takenTransfer r (planExtents k a b c false) (planExtents k a b c true)).beginStep (freeChannel s)
          (contextAtTaking s r p k a b c d)) ∨
      (LeavesLists s s.examine ∧ s.examine.channels = s.channels ∧
        ∀ r, queueKeys s.examine.writer.postQueue r = queueKeys s.writer.postQueue r) := by
  rcases s.examine_cases with ⟨-, he⟩ | ⟨r, p, plan, hr, hv, he⟩
  · rw [he]
    exact .inr ⟨⟨rfl, rfl⟩, rfl, fun _ => rfl⟩
  · cases hplan : plan.isTransfer with
    | false =>
      have hleaves := (s.takeHead_leavesLists r).trans ((s.setWaits.takeHead r).carryOut_leavesLists r p hplan)
      have hchannels := (s.setWaits.takeHead r).carryOut_channels r p hplan
      have hqueue : (s.setWaits.takeHead r).writer.postQueue = s.writer.postQueue := by simp [State.takeHead]
      rw [he]
      exact .inr ⟨⟨hleaves.hazards, hleaves.nextKey⟩, hchannels.trans (by simp),
        fun r' => ((s.setWaits.takeHead r).carryOut_queueKeys r p hplan r').trans (by rw [hqueue])⟩
    | true =>
      cases plan with
      | refuse | complete | mapset | maprevert | mapswitch => cases hplan
      | transfer k a b c d =>
        refine .inl ⟨r, p, k, a, b, c, d, hr, hv, ?_⟩
        have htaken := (exec_examination_taken hr hv).symm.trans (examination_transfer hr hv)
        rw [he]
        exact Host.Outcome.next.inj htaken

/-- R151, R153: the end of a completion write changes nothing but the port, the mailbox and the free value, or takes the entry written
out of the post queue; outside HALTED its transfer leaves its list with it, and an examination is due. -/
theorem execCompletionWrite_entry {result : WriteEnd} {s t : State} (h : execCompletionWrite result s = .next t) :
    (t.control = s.control ∧ t.ringManager = s.ringManager ∧ t.issue = s.issue ∧ t.map = s.map ∧ t.channels = s.channels ∧
        t.ports = s.ports ∧ t.writer = s.writer) ∨
      ∃ e, writerEntry s = some e ∧ t.control = s.control ∧ t.channels = s.channels ∧
        t.writer.postQueue = s.writer.postQueue.eraseIdx (failedWrites s) ∧
        t.issue = if s.control.part = .halted then s.issue else (s.dropHazard e.ring e.transferKey).examineDue.issue := by
  unfold execCompletionWrite at h
  split at h
  · split at h
    · cases h
      exact .inl ⟨rfl, rfl, rfl, rfl, rfl, rfl, rfl⟩
    · split at h
      · cases h
        exact .inl ⟨rfl, rfl, rfl, rfl, rfl, rfl, rfl⟩
      · next e he =>
        cases result with
        | done =>
          simp only [Host.Outcome.next.injEq] at h
          subst h
          refine .inr ⟨e, he, ?_⟩
          split <;> simp [State.entryWritten, State.dropHazard_issue]
        | failedAt i =>
          cases h
          exact .inl ⟨rfl, rfl, rfl, rfl, rfl, rfl, rfl⟩
  · cases h
    exact .inl ⟨rfl, rfl, rfl, rfl, rfl, rfl, rfl⟩

/-! ## The entries of a list meet no hazard (R97) -/

theorem hazardLaw_congr {s t : State} (h : t.issue.hazards = s.issue.hazards) (hs : hazardLaw s) : hazardLaw t := by
  unfold hazardLaw
  rwa [h]

/-- R97, R98: a transfer is listed when it meets no hazard with its ring's list. -/
theorem hazardLaw_takenTransfer {s t : State} {r : RingId} {reads writes : List PhysExtent} (hs : hazardLaw s)
    (ht : t.issue.hazards = (s.takenTransfer r reads writes).issue.hazards)
    (hclear : ∀ h ∈ s.issue.hazards.get r, hazardWith reads writes h = false) : hazardLaw t := by
  intro r'
  rw [ht, (s.takenTransfer_issue r reads writes).1, PerRing.get_set]
  split
  · refine List.pairwise_append.2 ⟨hs r, List.pairwise_singleton _ _, fun h hh k hk => ?_⟩
    cases List.mem_singleton.1 hk
    exact hclear h hh
  · exact hs r'

theorem hazardLaw_examine {s : State} (hs : hazardLaw s) : hazardLaw s.examine := by
  rcases s.examine_transfer_cases with ⟨r, p, k, a, b, c, d, -, hv, he⟩ | ⟨hleaves, -⟩
  · obtain ⟨-, -, -, -, -, -, hwait, -⟩ := verdict_eq_eligible hv
    obtain ⟨-, -, -, hnone, -⟩ := planWait_iff s r (.transfer k a b c d)
    obtain ⟨-, hclear, -⟩ := hnone.1 hwait
    exact hazardLaw_takenTransfer hs (by rw [he]; simp) ((hasHazard_eq_false_iff ..).1 (hclear k a b c d rfl))
  · exact hazardLaw_congr hleaves.hazards hs

/-- R151: an entry that leaves makes no hazard. -/
theorem hazardLaw_dropHazard {s : State} (hs : hazardLaw s) (r : RingId) (key : Option Nat) : hazardLaw (s.dropHazard r key) := by
  intro r'
  rw [State.dropHazard_issue, PerRing.get_set]
  split
  · exact (hs r).filter _
  · exact hs r'

theorem exec_hazardLaw (c : Instr) (s t : State) (hs : hazardLaw s) (h : exec c s = .next t) : hazardLaw t := by
  cases c with
  | powerOnReset | softReset =>
    cases h
    intro r
    simp [IssueArbiter.reset]
  | examination =>
    cases h
    split
    · exact hs
    · exact hazardLaw_examine hs
  | completionWrite result =>
    rcases execCompletionWrite_entry h with ⟨-, -, hissue, -⟩ | ⟨e, -, -, -, -, hissue⟩
    · exact hazardLaw_congr (by rw [hissue]) hs
    · split at hissue
      · exact hazardLaw_congr (by rw [hissue]) hs
      · exact hazardLaw_congr (by rw [hissue]; rfl) (hazardLaw_dropHazard hs e.ring e.transferKey)
  | _ => exact hazardLaw_congr (exec_leavesLists rfl h).hazards hs

end Sys2Proof.Machine

/-! The transfers in flight and the hazard lists (R97, R151): every transfer of a ring is listed under its own key (log entry 14). -/

namespace Sys2Proof.Machine

/-! ## The transfers of a ring and their keys (log entry 14) -/

/-- The transfers of a ring on the channels. -/
def ringTransfers (ts : PerChannel (Option Context)) (r : RingId) : List Context :=
  (ts.c0.toList ++ ts.c1.toList).filter fun x => decide (x.ring = r)

theorem transferKeys_eq (s : State) (r : RingId) :
    transferKeys s r = (ringTransfers s.transfers r).map (·.key) ++ queueKeys s.writer.postQueue r := by
  have hchannel (ch : Channel) :
      channelKey r ch = (ch.transfer.toList.filter fun x => decide (x.ring = r)).map (·.key) := by
    cases ch with
    | idle => rfl
    | running x | ending x => by_cases h : x.ring = r <;> simp [channelKey, Channel.context, Context.transfer, h]
  simp only [transferKeys, hchannel, ringTransfers, State.transfers, queueKeys, List.filter_append, List.map_append]

theorem mem_ringTransfers_iff (s : State) (r : RingId) (v : Context) :
    v ∈ ringTransfers s.transfers r ↔ ∃ c x, (s.channel c).context = some x ∧ x.ring = r ∧ v = x.transfer := by
  have hmem : v ∈ s.transfers.c0.toList ++ s.transfers.c1.toList ↔ ∃ c x, (s.channel c).context = some x ∧ v = x.transfer := by
    have hchannel (ch : Channel) : v ∈ ch.transfer.toList ↔ ∃ x, ch.context = some x ∧ v = x.transfer := by
      simp only [Channel.transfer, Option.mem_toList, Option.map_eq_some_iff, eq_comm (a := v)]
    rw [List.mem_append, State.transfers, hchannel, hchannel]
    constructor
    · rintro (h | h)
      · exact ⟨.c0, h⟩
      · exact ⟨.c1, h⟩
    · rintro ⟨c, h⟩
      cases c
      · exact .inl h
      · exact .inr h
  rw [ringTransfers, List.mem_filter, hmem, decide_eq_true_iff]
  constructor
  · rintro ⟨⟨c, x, hx, rfl⟩, hring⟩
    exact ⟨c, x, hx, hring, rfl⟩
  · rintro ⟨c, x, hx, hring, rfl⟩
    exact ⟨⟨c, x, hx, rfl⟩, hring⟩

/-! ## The law of one ring's list -/

/-- The hazard list `hz` of a ring against its transfers `xs` on the channels and the keys `ks` in the post queue (R97). -/
structure Listed (p : PartState) (nextKey : Nat) (hz : List Hazard) (xs : List Context) (ks : List Nat) : Prop where
  distinct : (hz.map (·.key)).Nodup
  apart : (xs.map (·.key) ++ ks).Nodup
  below : ∀ h ∈ hz, h.key < nextKey
  listed : ∀ k ∈ xs.map (·.key) ++ ks, k ∈ hz.map (·.key)
  exact : p ≠ .halted → (hz.map (·.key)).Perm (xs.map (·.key) ++ ks)
  bounded : hz.length ≤ 10
  extents : ∀ x ∈ xs, ∃ h ∈ hz, listsContext h x

/-- What the law says of one ring in a state. -/
def ringListed (s : State) (r : RingId) : Prop :=
  Listed s.control.part s.issue.nextKey (s.issue.hazards.get r) (ringTransfers s.transfers r) (queueKeys s.writer.postQueue r)

theorem transfersListed_iff (s : State) : transfersListed s ↔ ∀ r, ringListed s r := by
  refine forall_congr' fun r => ?_
  have hextents : (∀ c x, (s.channel c).context = some x → x.ring = r → ∃ h ∈ s.issue.hazards.get r, listsContext h x) ↔
      ∀ v ∈ ringTransfers s.transfers r, ∃ h ∈ s.issue.hazards.get r, listsContext h v := by
    simp only [mem_ringTransfers_iff]
    constructor
    · rintro h _ ⟨c, x, hx, hring, rfl⟩
      exact h c x hx hring
    · exact fun h c x hx hring => h x.transfer ⟨c, x, hx, hring, rfl⟩
  rw [hextents, transferKeys_eq]
  constructor
  · rintro ⟨hdistinct, hapart, hbelow, hlisted, hexact, hbounded, hext⟩
    exact ⟨hdistinct, hapart, hbelow, hlisted, hexact, hbounded, hext⟩
  · rintro ⟨hdistinct, hapart, hbelow, hlisted, hexact, hbounded, hext⟩
    exact ⟨hdistinct, hapart, hbelow, hlisted, hexact, hbounded, hext⟩

section

variable {p p' : PartState} {n : Nat} {hz : List Hazard} {xs xs' : List Context} {ks ks' : List Nat}

theorem Listed.empty (p : PartState) (n : Nat) : Listed p n [] [] [] where
  distinct := .nil
  apart := .nil
  below _ h := by cases h
  listed _ h := by cases h
  exact _ := .refl _
  bounded := by simp
  extents _ h := by cases h

/-- The same transfers, of which some may have gone from their channel to the post queue (R116). -/
theorem Listed.moved (h : Listed p n hz xs ks) (hpart : p' ≠ .halted → p ≠ .halted) (hsub : xs' ⊆ xs)
    (hkeys : (xs.map (·.key) ++ ks).Perm (xs'.map (·.key) ++ ks')) : Listed p' n hz xs' ks' where
  distinct := h.distinct
  apart := hkeys.nodup h.apart
  below := h.below
  listed k hk := h.listed k (hkeys.mem_iff.2 hk)
  exact hp := (h.exact (hpart hp)).trans hkeys
  bounded := h.bounded
  extents x hx := h.extents x (hsub hx)

/-- In HALTED an entry that is lost, or written, leaves its transfer listed (R153). -/
theorem Listed.lost (h : Listed p n hz xs ks) (hsub : ks'.Sublist ks) : Listed .halted n hz xs ks' where
  distinct := h.distinct
  apart := h.apart.sublist (hsub.append_left _)
  below := h.below
  listed k hk := h.listed k ((hsub.append_left _).subset hk)
  exact hp := absurd rfl hp
  bounded := h.bounded
  extents := h.extents

/-- A transfer of another ring takes the next key. -/
theorem Listed.later (h : Listed p n hz xs ks) : Listed p (n + 1) hz xs ks where
  distinct := h.distinct
  apart := h.apart
  below k hk := (h.below k hk).trans (Nat.lt_succ_self n)
  listed := h.listed
  exact := h.exact
  bounded := h.bounded
  extents := h.extents

/-- R97, R99: a transfer taken is listed under the next key. Outside HALTED the list holds no more than the transfers in flight, so it
has room. -/
theorem Listed.taken (h : Listed p n hz xs ks) (hp : p ≠ .halted) {x : Context} {e : Hazard} (hlists : listsContext e x)
    (hkey : x.key = n) (hxs : xs'.Perm (x :: xs)) (hroom : xs.length + ks.length ≤ 9) : Listed p (n + 1) (hz ++ [e]) xs' ks := by
  have hentry : e.key = n := hlists.1.trans hkey
  have hfresh : n ∉ hz.map (·.key) := fun hmem => by
    obtain ⟨k, hk, hkn⟩ := List.mem_map.1 hmem
    exact absurd (h.below k hk) (by omega)
  have hkeys : (xs'.map (·.key) ++ ks).Perm (n :: (xs.map (·.key) ++ ks)) := by
    simpa [hkey] using (hxs.map (·.key)).append_right ks
  have hlist : ((hz ++ [e]).map (·.key)).Perm (n :: hz.map (·.key)) := by
    rw [List.map_append, List.map_singleton, hentry]
    exact List.perm_append_singleton _ _
  have hlength : hz.length ≤ 9 := by
    have heq := (h.exact hp).length_eq
    simp only [List.length_map, List.length_append] at heq
    omega
  exact {
    distinct := hlist.nodup_iff.2 (List.nodup_cons.2 ⟨hfresh, h.distinct⟩)
    apart := hkeys.nodup_iff.2 (List.nodup_cons.2 ⟨fun hk => hfresh (h.listed n hk), h.apart⟩)
    below := fun k hk => by
      rcases List.mem_append.1 hk with hk | hk
      · exact (h.below k hk).trans (Nat.lt_succ_self n)
      · cases List.mem_singleton.1 hk
        omega
    listed := fun k hk => by
      rw [hlist.mem_iff, List.mem_cons]
      exact (List.mem_cons.1 (hkeys.mem_iff.1 hk)).imp_right (h.listed k)
    exact := fun hp => hlist.trans (((h.exact hp).cons n).trans hkeys.symm)
    bounded := by rw [List.length_append, List.length_singleton]; omega
    extents := fun y hy => by
      rcases List.mem_cons.1 (hxs.mem_iff.1 hy) with rfl | hy
      · exact ⟨e, by simp, hlists⟩
      · obtain ⟨k, hk, hlk⟩ := h.extents y hy
        exact ⟨k, List.mem_append_left _ hk, hlk⟩ }

/-- R97, R151: a transfer whose entry has been written leaves the list with it. -/
theorem Listed.written (h : Listed p n hz xs ks) {key : Option Nat} (hks : ks.Perm (key.toList ++ ks')) :
    Listed p n (hz.filter fun e => decide (key ≠ some e.key)) xs ks' := by
  have hkeep {k : Nat} (hk : k ∈ xs.map (·.key) ++ ks') : key ≠ some k := by
    rintro rfl
    have hperm : (xs.map (·.key) ++ ks).Perm (k :: (xs.map (·.key) ++ ks')) :=
      (hks.append_left _).trans List.perm_middle
    exact (List.nodup_cons.1 (hperm.nodup_iff.1 h.apart)).1 hk
  have hall {k : Nat} (hk : k ∈ xs.map (·.key) ++ ks') : k ∈ xs.map (·.key) ++ ks := by
    rcases List.mem_append.1 hk with hk | hk
    · exact List.mem_append_left _ hk
    · exact List.mem_append_right _ (hks.mem_iff.2 (List.mem_append_right _ hk))
  have hmap : (hz.filter fun e => decide (key ≠ some e.key)).map (·.key) = (hz.map (·.key)).filter fun k => decide (key ≠ some k) := by
    rw [List.filter_map]
    rfl
  exact {
    distinct := by rw [hmap]; exact h.distinct.filter _
    apart := by
      have hperm : (xs.map (·.key) ++ ks).Perm (key.toList ++ (xs.map (·.key) ++ ks')) :=
        (hks.append_left _).trans (by rw [← List.append_assoc, ← List.append_assoc]; exact List.perm_append_comm.append_right _)
      exact (List.nodup_append.1 (hperm.nodup_iff.1 h.apart)).2.1
    below := fun k hk => h.below k (List.mem_of_mem_filter hk)
    listed := fun k hk => by
      rw [hmap, List.mem_filter, decide_eq_true_iff]
      exact ⟨h.listed k (hall hk), hkeep hk⟩
    exact := fun hp => by
      rw [hmap]
      have hperm : (hz.map (·.key)).Perm (key.toList ++ (xs.map (·.key) ++ ks')) :=
        ((h.exact hp).trans (hks.append_left _)).trans
          (by rw [← List.append_assoc, ← List.append_assoc]; exact List.perm_append_comm.append_right _)
      refine (hperm.filter _).trans (.of_eq ?_)
      rw [List.filter_append, List.filter_eq_self.2 fun k hk => decide_eq_true (hkeep hk)]
      cases key <;> simp
    bounded := (List.length_filter_le _ _).trans h.bounded
    extents := fun x hx => by
      obtain ⟨e, he, hlists⟩ := h.extents x hx
      refine ⟨e, List.mem_filter.2 ⟨he, decide_eq_true ?_⟩, hlists⟩
      rw [hlists.1]
      exact hkeep (List.mem_append_left _ (List.mem_map_of_mem hx)) }

end

end Sys2Proof.Machine

/-! The commands keep every transfer listed (R97, R99, R116, R151, R153). -/

namespace Sys2Proof.Machine

/-! ## Transfers that come to a channel and leave it (R99, R116) -/

theorem ringTransfers_set_some {ts : PerChannel (Option Context)} {c : ChannelId} (h : ts.get c = none) (x : Context) (r : RingId) :
    (ringTransfers (ts.set c (some x)) r).Perm (if x.ring = r then x :: ringTransfers ts r else ringTransfers ts r) := by
  have hperm : ((ts.set c (some x)).c0.toList ++ (ts.set c (some x)).c1.toList).Perm (x :: (ts.c0.toList ++ ts.c1.toList)) := by
    obtain ⟨v0, v1⟩ := ts
    cases c <;> cases h
    · exact .refl _
    · simp [PerChannel.set]
  refine (hperm.filter _).trans (.of_eq ?_)
  simp only [List.filter_cons, decide_eq_true_eq, ringTransfers]

theorem ringTransfers_set_none {ts : PerChannel (Option Context)} {c : ChannelId} {x : Context} (h : ts.get c = some x) (r : RingId) :
    (ringTransfers ts r).Perm
      (if x.ring = r then x :: ringTransfers (ts.set c none) r else ringTransfers (ts.set c none) r) := by
  have hperm : (ts.c0.toList ++ ts.c1.toList).Perm (x :: ((ts.set c none).c0.toList ++ (ts.set c none).c1.toList)) := by
    obtain ⟨v0, v1⟩ := ts
    cases c <;> cases h
    · exact .refl _
    · simp [PerChannel.set]
  refine (hperm.filter _).trans (.of_eq ?_)
  simp only [List.filter_cons, decide_eq_true_eq, ringTransfers]

/-- With a channel IDLE at most one transfer is on the channels. -/
theorem ringTransfers_length_le {ts : PerChannel (Option Context)} {c : ChannelId} (h : ts.get c = none) (r : RingId) :
    (ringTransfers ts r).length ≤ 1 := by
  have hlength : (ts.c0.toList ++ ts.c1.toList).length ≤ 1 := by
    obtain ⟨v0, v1⟩ := ts
    cases c <;> cases h
    · cases v1 <;> simp
    · cases v0 <;> simp
  exact (List.length_filter_le _ _).trans hlength

theorem queueKeys_length_le (q : List Completion) (r : RingId) : (queueKeys q r).length ≤ q.length :=
  (List.length_filterMap_le _ _).trans (List.length_filter_le _ _)

theorem queueKeys_sublist {q q' : List Completion} (h : q'.Sublist q) (r : RingId) : (queueKeys q' r).Sublist (queueKeys q r) :=
  (h.filter _).filterMap _

theorem queueKeys_perm {q q' : List Completion} (h : q.Perm q') (r : RingId) : (queueKeys q r).Perm (queueKeys q' r) :=
  (h.filter _).filterMap _

/-! ## The commands that move no transfer -/

/-- A state whose transfers and lists are as they were. -/
theorem transfersListed_kept {s t : State} (hs : transfersListed s) (hpart : t.control.part ≠ .halted → s.control.part ≠ .halted)
    (hlists : LeavesLists s t) (htransfers : t.transfers = s.transfers)
    (hqueue : ∀ r, queueKeys t.writer.postQueue r = queueKeys s.writer.postQueue r) : transfersListed t := by
  rw [transfersListed_iff] at hs ⊢
  intro r
  have hring := hs r
  unfold ringListed at hring ⊢
  rw [hlists.hazards, hlists.nextKey, htransfers, hqueue]
  exact hring.moved hpart (List.Subset.refl _) (.refl _)

theorem exec_postQueue_kept {c : Instr} {s t : State} (hc : reachesRecords c = false) (h : exec c s = .next t) :
    t.writer.postQueue = s.writer.postQueue := by
  cases c with
  | powerOnReset | softReset | setupLoadEnd | mailboxFault | examination | handOff | flushDisposal | completionWrite => cases hc
  | controlMaskWrite | controlUnknownCommand | select | ringctlUnknownCommand | setupWrite | statusWrite | intstatWrite =>
    cases h
    rfl
  | enable | quiesce | abort | resume | ack | fetchRequest | mPortGrant | holdoffExpiry | stop | ringResume | flush | ringReset =>
    cases h
    split_ifs <;> simp
  | post r tail => exact execPost_postQueue h
  | fetchComplete host ok => exact execFetchComplete_postQueue h
  | beatGrant i ws => exact (execBeatGrant_leavesRecords h).postQueue
  | beatEnd b => exact (execBeatEnd_leavesRecords h).postQueue
  | ready d v => exact (execReady_leavesRecords h).postQueue
  | readyTimeout => exact (execReadyTimeout_leavesRecords h).postQueue

/-! ## Takings (R97, R99) -/

theorem transfersListed_examine {s : State} (hs : transfersListed s) : transfersListed s.examine := by
  rcases s.examine_transfer_cases with ⟨r, p, k, a, b, c, d, -, hv, he⟩ | ⟨hlists, hchannels, hqueue⟩
  · obtain ⟨-, -, hrunning, -, -, -, hwait, hroom⟩ := verdict_eq_eligible hv
    have hidle : s.transfers.get (freeChannel s) = none := by
      rw [State.transfers_get, freeChannel_idle_of_planWait hwait]
      rfl
    generalize hx : contextAtTaking s r p k a b c d = x at he
    have hring : x.ring = r := by rw [← hx]; rfl
    obtain ⟨hhazards, hkey⟩ := s.takenTransfer_issue r (planExtents k a b c false) (planExtents k a b c true)
    have htransfers : s.examine.transfers = s.transfers.set (freeChannel s) (some x.transfer) := by
      rw [he, State.beginStep_transfers, State.transfers_congr (s.takenTransfer_channels r _ _)]
    have hcontrol : s.examine.control = s.control := State.examine_control s
    have hissue : s.examine.issue =
        (s.takenTransfer r (planExtents k a b c false) (planExtents k a b c true)).issue := by rw [he, State.beginStep_issue]
    have hpost : s.examine.writer.postQueue = s.writer.postQueue := by
      rw [he, State.beginStep_writer]
      rfl
    rw [transfersListed_iff] at hs ⊢
    intro r'
    have hlisted := hs r'
    have hset := ringTransfers_set_some hidle x.transfer r'
    unfold ringListed at hlisted ⊢
    rw [hcontrol, hissue, hhazards, hkey, htransfers, hpost, PerRing.get_set]
    by_cases hr : r' = r
    · subst hr
      rw [if_pos (show x.transfer.ring = r' from hring)] at hset
      rw [if_pos rfl]
      refine hlisted.taken (by simp [hrunning]) (x := x.transfer) ?_ (by rw [← hx]; rfl) hset ?_
      · rw [← hx]
        exact ⟨rfl, rfl, rfl⟩
      · have hone := ringTransfers_length_le hidle r'
        have hmany := queueKeys_length_le s.writer.postQueue r'
        have hfits := (postRoom_iff s 1).1 hroom
        omega
    · rw [if_neg fun h : x.transfer.ring = r' => hr (h.symm.trans hring)] at hset
      rw [if_neg hr]
      exact (hlisted.moved id hset.subset ((hset.symm.map _).append_right _)).later
  · exact transfersListed_kept hs (by rw [State.examine_control]; exact id) hlists (State.transfers_congr hchannels) hqueue

/-! ## Hand-offs (R116, R117) -/

/-- R34: the entry of a drained switch has no key. -/
theorem State.drainSwitch_queueKeys (s : State) (sw : Option PendingSwitch) (r : RingId) :
    queueKeys (s.drainSwitch sw).writer.postQueue r = queueKeys s.writer.postQueue r := by
  cases sw with
  | none => rfl
  | some w => exact State.handEntry_queueKeys_of_none _ rfl r

/-- R116: the key of a transfer handed off is in the post queue. -/
theorem State.handOff_queueKeys (s : State) (c : ChannelId) (x : Context) (e : Ending) (r : RingId) :
    queueKeys (s.handOff c x e).writer.postQueue r = queueKeys s.writer.postQueue r ++ if x.ring = r then [x.key] else [] := by
  have hwriter : (s.handOff c x e).writer =
      (((s.handEntry (channelCompletion s x e)).setMap (mapAfterRelease s.map x.generation)).drainSwitch
        (if lastRelease s.map x then s.map.pendingSwitch else none)).writer := by
    simp [State.handOff]
  rw [hwriter, State.drainSwitch_queueKeys]
  exact s.handEntry_queueKeys (channelCompletion s x e) r

theorem transfersListed_handOff {s : State} (hs : transfersListed s) {c : ChannelId} {x : Context} (e : Ending)
    (hx : s.channel c = .ending x) : transfersListed (s.handOff c x e) := by
  have hget : s.transfers.get c = some x.transfer := by
    rw [State.transfers_get, hx]
    rfl
  obtain ⟨hleaves, hchannels⟩ := s.handOff_leaves c x e
  have htransfers : (s.handOff c x e).transfers = s.transfers.set c none := State.transfers_of_set hchannels
  have hlists := s.handOff_leavesLists c x e
  rw [transfersListed_iff] at hs ⊢
  intro r
  have hlisted := hs r
  have hset : (ringTransfers s.transfers r).Perm
      (if x.ring = r then x.transfer :: ringTransfers (s.transfers.set c none) r else ringTransfers (s.transfers.set c none) r) :=
    ringTransfers_set_none hget r
  unfold ringListed at hlisted ⊢
  rw [hlists.hazards, hlists.nextKey, htransfers, State.handOff_queueKeys]
  by_cases hr : x.ring = r
  · rw [if_pos hr] at hset ⊢
    refine hlisted.moved hleaves.stage.ne_halted (fun v hv => hset.mem_iff.2 (List.mem_cons_of_mem _ hv)) ?_
    refine ((hset.map _).append_right _).trans ?_
    rw [← List.append_assoc]
    exact (List.perm_append_singleton x.key _).symm
  · rw [if_neg hr] at hset ⊢
    rw [List.append_nil]
    exact hlisted.moved hleaves.stage.ne_halted hset.symm.subset ((hset.map _).append_right _)

/-! ## Completion writes, mailbox faults, loads and disposals (R74, R151, R153, R168, R172) -/

/-- R97, R151, R153: outside HALTED a written entry takes its transfer out of the list; in HALTED the lists stay. -/
theorem transfersListed_execCompletionWrite {result : WriteEnd} {s t : State} (hs : transfersListed s)
    (h : execCompletionWrite result s = .next t) : transfersListed t := by
  rcases execCompletionWrite_entry h with ⟨hcontrol, -, hissue, -, hchannels, -, hwriter⟩ | ⟨e, he, hcontrol, hchannels, hqueue, hissue⟩
  · exact transfersListed_kept hs (by rw [hcontrol]; exact id) (.of_issue hissue) (State.transfers_congr hchannels)
      (fun _ => by rw [hwriter])
  · obtain ⟨hlt, hget⟩ := List.getElem?_eq_some_iff.1 he
    have hperm : s.writer.postQueue.Perm (e :: t.writer.postQueue) := by
      have hmoved := (List.getElem_cons_eraseIdx_perm hlt).symm
      rwa [hget, ← hqueue] at hmoved
    have hsub : t.writer.postQueue.Sublist s.writer.postQueue := hqueue ▸ List.eraseIdx_sublist _ _
    rw [transfersListed_iff] at hs ⊢
    intro r
    have hlisted := hs r
    unfold ringListed at hlisted ⊢
    rw [hissue, hcontrol, State.transfers_congr hchannels]
    by_cases hpart : s.control.part = .halted
    · rw [if_pos hpart]
      rw [hpart] at hlisted ⊢
      exact hlisted.lost (queueKeys_sublist hsub r)
    · rw [if_neg hpart, State.examineDue_issue, State.dropHazard_issue, PerRing.get_set]
      have hkeys := queueKeys_perm hperm r
      rw [queueKeys_cons] at hkeys
      by_cases hr : r = e.ring
      · rw [if_pos hr.symm] at hkeys
        rw [if_pos hr, ← hr]
        exact hlisted.written hkeys
      · rw [if_neg (Ne.symm hr)] at hkeys
        rw [if_neg hr]
        exact hlisted.moved id (List.Subset.refl _) (hkeys.append_left _)

/-- R153, R172: the taking of a fault leaves the part HALTED, and at most loses an entry; with no fault nothing is taken. -/
theorem execMailboxFault_cases {s t : State} (h : execMailboxFault s = .next t) :
    t = s ∨ (t.control.part = .halted ∧ t.writer.postQueue.Sublist s.writer.postQueue) := by
  unfold execMailboxFault at h
  split at h <;> simp only [Host.Outcome.next.injEq] at h <;> subst h
  · exact .inl rfl
  · refine .inr ⟨?_, ?_⟩
    · split
      · next hpart => simpa using hpart
      · rfl
    · have hlost (k : FaultKind) (u : State) : (u.loseEntry k).writer.postQueue.Sublist u.writer.postQueue := by
        rw [State.loseEntry_writer]
        dsimp only
        split
        · exact List.tail_sublist _
        · exact .refl _
      split <;> exact hlost _ _

theorem transfersListed_execMailboxFault {s t : State} (hs : transfersListed s) (h : execMailboxFault s = .next t) :
    transfersListed t := by
  rcases execMailboxFault_cases h with rfl | ⟨hpart, hsub⟩
  · exact hs
  · have hlists : LeavesLists s t := exec_leavesLists (c := .mailboxFault) rfl h
    have hleaves : LeavesTransfers s t := leavesTransfers_of_exec (c := .mailboxFault) rfl h
    rw [transfersListed_iff] at hs ⊢
    intro r
    have hlisted := hs r
    unfold ringListed at hlisted ⊢
    rw [hlists.hazards, hlists.nextKey, State.transfers_congr hleaves.channels, hpart]
    exact hlisted.lost (queueKeys_sublist hsub r)

theorem transfersListed_execSetupLoadEnd {host : List HostWrite} {ok : Bool} {s t : State} (hs : transfersListed s)
    (h : execSetupLoadEnd host ok s = .next t) : transfersListed t := by
  have hlists := execSetupLoadEnd_leavesLists h
  rcases execSetupLoadEnd_records h with ⟨hrecords, hleaves⟩ | ⟨hpart, u, b, hchannels, -, hwriter, rfl⟩
  · exact transfersListed_kept hs hleaves.stage.ne_halted hlists (State.transfers_congr hleaves.channels)
      (fun _ => by rw [hrecords.postQueue])
  · refine transfersListed_kept hs (fun _ => by simp [hpart]) hlists (State.transfers_congr (by simp [hchannels])) fun r => ?_
    rw [← hwriter]
    rfl

/-- R74: a disposal's entry has no key. -/
theorem execFlushDisposal_queueKeys {r : RingId} {s t : State} (h : execFlushDisposal r s = .next t) (r' : RingId) :
    queueKeys t.writer.postQueue r' = queueKeys s.writer.postQueue r' := by
  have hreserved : (s.reserveDisposal r).writer.postQueue = s.writer.postQueue := (s.reserveDisposal_leavesRecords r).postQueue
  cases h
  split
  · rfl
  · next p _ _ =>
    split
    · rfl
    · split
      · dsimp only
        rw [State.refreshFlush_writer]
        split
        · exact (State.handEntry_queueKeys_of_none _ rfl r').trans (congrArg (queueKeys · r') hreserved)
        · rw [hreserved]
      · rw [State.refreshFlush_writer]

/-- R80, R175: after a reset nothing is listed and nothing is in flight. -/
theorem transfersListed_resetBlocks (s : State) (c : ControlUnit) (m : MapUnit) : transfersListed (s.resetBlocks c m) := by
  rw [transfersListed_iff]
  intro r
  have hnone : IssueArbiter.reset.hazards.get r = [] := PerRing.get_all ..
  rw [ringListed, State.resetBlocks_issue, hnone]
  exact Listed.empty _ _

/-! ## Every command -/

theorem exec_transfersListed (c : Instr) (s t : State) (hs : transfersListed s) (h : exec c s = .next t) : transfersListed t := by
  cases c with
  | powerOnReset | softReset =>
    cases h
    exact transfersListed_resetBlocks _ _ _
  | setupLoadEnd host ok => exact transfersListed_execSetupLoadEnd hs h
  | mailboxFault => exact transfersListed_execMailboxFault hs h
  | examination =>
    cases h
    split
    · exact hs
    · exact transfersListed_examine hs
  | handOff c =>
    rcases execHandOff_cases h with rfl | ⟨x, e, hx, rfl⟩
    · exact hs
    · exact transfersListed_handOff hs e hx
  | flushDisposal r =>
    have hleaves : LeavesTransfers s t := leavesTransfers_of_exec rfl h
    exact transfersListed_kept hs hleaves.stage.ne_halted (exec_leavesLists rfl h) (State.transfers_congr hleaves.channels)
      (execFlushDisposal_queueKeys h)
  | completionWrite result => exact transfersListed_execCompletionWrite hs h
  | _ =>
    exact transfersListed_kept hs (exec_leavesTables rfl h).stage.ne_halted (exec_leavesLists rfl h) (exec_transfers_kept rfl h)
      (fun _ => by rw [exec_postQueue_kept rfl h])

/-! ## Two transfers of one ring (R97, R98) -/

theorem hazardWith_eq_false_comm (h k : Hazard) : hazardWith k.reads k.writes h = false ↔ hazardWith h.reads h.writes k = false := by
  have hsym : ∀ h k : Hazard, hazardWith k.reads k.writes h = false → hazardWith h.reads h.writes k = false := by
    intro h k hclear
    obtain ⟨hwrites, hreads⟩ := (hazardWith_eq_false_iff ..).1 hclear
    refine (hazardWith_eq_false_iff ..).2 ⟨fun w hw e he => ?_, fun e he w hw => ?_⟩
    · rw [physOverlap_comm]
      rcases List.mem_append.1 he with he | he
      · exact hreads e he w hw
      · exact hwrites e he w (List.mem_append_right _ hw)
    · rw [physOverlap_comm]
      exact hwrites w hw e (List.mem_append_left _ he)
  exact ⟨hsym h k, hsym k h⟩

/-- The entry of a channel's transfer in its ring's hazard list (R97). -/
def Context.hazard (x : Context) : Hazard where
  key := x.key
  reads := planExtents x.kind x.extA x.extB x.extC false
  writes := planExtents x.kind x.extA x.extB x.extC true

theorem listsContext_iff (h : Hazard) (x : Context) : listsContext h x ↔ h = x.hazard := by
  rw [Hazard.mk.injEq, listsContext, Context.hazard]

/-- R97: two transfers of one ring on the channels have entries of their own, which meet no hazard. -/
theorem transfers_apart {s : State} (hhazard : hazardLaw s) (hs : transfersListed s) {c d : ChannelId} {x y : Context} (hcd : c ≠ d)
    (hx : (s.channel c).context = some x) (hy : (s.channel d).context = some y) (hring : x.ring = y.ring) :
    hazardWith y.hazard.reads y.hazard.writes x.hazard = false := by
  obtain ⟨-, hnodup, -, -, -, -, hlisted⟩ := hs y.ring
  simp only [listsContext_iff, exists_eq_right] at hlisted
  have hkeys : x.key ≠ y.key := by
    have hchannels : (channelKey y.ring (s.channel .c0) ++ channelKey y.ring (s.channel .c1)).Nodup :=
      (List.nodup_append.1 hnodup).1
    have hkey (ch : Channel) (v : Context) (hv : ch.context = some v) (hr : v.ring = y.ring) : channelKey y.ring ch = [v.key] := by
      simp [channelKey, hv, hr]
    cases c <;> cases d
    · exact absurd rfl hcd
    · rw [hkey _ x hx hring, hkey _ y hy rfl] at hchannels
      simpa using hchannels
    · rw [hkey _ x hx hring, hkey _ y hy rfl] at hchannels
      simpa [eq_comm] using hchannels
    · exact absurd rfl hcd
  have hsymm : Std.Symm fun h k : Hazard => hazardWith k.reads k.writes h = false := ⟨fun h k => (hazardWith_eq_false_comm h k).1⟩
  exact (hhazard y.ring).forall (hlisted c x hx hring) (hlisted d y hy rfl) fun heq => hkeys (congrArg Hazard.key heq)

end Sys2Proof.Machine

/-! No wake-up is lost (R81): what could make a head eligible has an examination due. -/

namespace Sys2Proof.Machine

/-! ## Changes that make no head eligible -/

/-- A change of a ring after which its head meets no condition that it did not meet before (R83). -/
structure HeadKept (g g' : Ring) : Prop where
  phase : g.phase = .active
  head : g'.queue.head? = g.queue.head?
  dir : g'.dir = g.dir
  inFlight : g'.inFlight = g.inFlight

/-- The same part state and the same examination due, and no head eligible that was not. -/
structure NoneWoken (s t : State) : Prop where
  part : t.control.part = s.control.part
  due : t.issue.due = s.issue.due
  heads : ∀ r, (verdict t r).isEligible = true → (verdict s r).isEligible = true

theorem NoneWoken.refl (s : State) : NoneWoken s s := ⟨rfl, rfl, fun _ => id⟩

theorem NoneWoken.trans {s t u : State} (h : NoneWoken s t) (h' : NoneWoken t u) : NoneWoken s u :=
  ⟨h'.part.trans h.part, h'.due.trans h.due, fun r hr => h.heads r (h'.heads r hr)⟩

/-- R83: a head becomes eligible neither by a change of its ring that keeps it, nor with less room for its record. -/
theorem noneWoken_of_less {s t : State} (hcontrol : t.control.part = s.control.part) (hissue : t.issue = s.issue) (hmap : t.map = s.map)
    (hprofiles : t.ports.profiles = s.ports.profiles) (hbindings : t.bindings = s.bindings)
    (hrings : ∀ r, (t.ring r).phase = .active → HeadKept (s.ring r) (t.ring r))
    (hcqs : ∀ c, cqHasRoom (t.cq c) = true → cqHasRoom (s.cq c) = true) (hpost : postRoom t 1 = true → postRoom s 1 = true) :
    NoneWoken s t := by
  refine ⟨hcontrol, by rw [hissue], fun r hr => ?_⟩
  obtain ⟨p, plan, hv⟩ := (Verdict.isEligible_iff _).1 hr
  obtain ⟨hhead, hactive, hpart, horder, hroom, hplan, hwait, hfits⟩ := verdict_eq_eligible hv
  obtain ⟨hphase, hhead', hdir, hinFlight⟩ := hrings r hactive
  have hneeds : needsOrder (t.ring r) p = needsOrder (s.ring r) p := by rw [needsOrder, hdir, needsOrder]
  have hidle (c : ChannelId) : (t.channel c).isIdle = (s.channel c).isIdle := by
    rw [Channel.isIdle_eq_binding, Channel.isIdle_eq_binding, ← State.bindings_get, ← State.bindings_get, hbindings]
  have hsame : planWait t r plan = planWait s r plan := by
    have h0 : t.channels.c0.isIdle = s.channels.c0.isIdle := hidle .c0
    have h1 : t.channels.c1.isIdle = s.channels.c1.isIdle := hidle .c1
    unfold planWait hasHazard
    rw [h0, h1, hissue, hmap]
  refine (Verdict.isEligible_iff _).2 ⟨p, plan, (verdict_eligible_iff s r p plan).2 ?_⟩
  rw [hneeds, hinFlight] at horder
  rw [hdir] at hroom
  exact ⟨hhead' ▸ hhead, hphase, hcontrol ▸ hpart, horder, hcqs _ hroom, by rw [hplan, hmap, hprofiles], hsame ▸ hwait, hpost hfits⟩

theorem noneWoken_of_blocks {s t : State} (hcontrol : t.control.part = s.control.part)
    (hrings : t.ringManager.rings = s.ringManager.rings) (hissue : t.issue = s.issue) (hmap : t.map = s.map)
    (hprofiles : t.ports.profiles = s.ports.profiles) (hbindings : t.bindings = s.bindings) (hwriter : t.writer = s.writer) :
    NoneWoken s t := by
  have hring (r : RingId) : t.ring r = s.ring r := by rw [State.ring, hrings, State.ring]
  refine noneWoken_of_less hcontrol hissue hmap hprofiles hbindings (fun r hr => ?_) (fun c => ?_) ?_
  · rw [hring] at hr ⊢
    exact ⟨hr, rfl, rfl, rfl⟩
  · rw [State.cq, hwriter, State.cq]
    exact id
  · rw [postRoom, hwriter, postRoom]
    exact id

theorem noneWoken_setRing {s : State} {r : RingId} {g : Ring} (h : g.phase = .active → HeadKept (s.ring r) g) :
    NoneWoken s (s.setRing r g) := by
  refine noneWoken_of_less rfl rfl rfl rfl rfl (fun r' => ?_) (fun _ => id) id
  rw [State.ring_setRing]
  split
  · next hr => exact hr ▸ h
  · exact fun hactive => ⟨hactive, rfl, rfl, rfl⟩

/-- R148: a reservation taken leaves less room. -/
theorem noneWoken_reserve (s : State) (c : CqId) : NoneWoken s (s.reserve c) := by
  refine noneWoken_of_less rfl rfl rfl rfl rfl (fun _ hactive => ⟨hactive, rfl, rfl, rfl⟩) (fun c' => ?_) id
  by_cases hc : c' = c
  · subst hc
    rw [State.cq_reserve_same]
    refine fun hroom => decide_eq_true ?_
    have hless : (s.cq c').reservations + 1 + cqUsed (s.cq c') < depthOf (s.cq c').depthCode := of_decide_eq_true hroom
    omega
  · rw [State.cq_reserve_other s hc]
    exact id

/-- R149: an entry handed over leaves less room. -/
theorem noneWoken_setPostQueue {s : State} {q : List Completion} (h : s.writer.postQueue.length ≤ q.length) :
    NoneWoken s (s.setPostQueue q) := by
  refine noneWoken_of_less rfl rfl rfl rfl rfl (fun _ hactive => ⟨hactive, rfl, rfl, rfl⟩) (fun _ => id) fun hfits => ?_
  have hlength := (postRoom_iff (s.setPostQueue q) 1).1 hfits
  exact (postRoom_iff s 1).2 ((Nat.add_le_add_right h 1).trans hlength)

/-- R84: an examination's wait reasons make no head eligible. -/
theorem noneWoken_setWaits (s : State) : NoneWoken s s.setWaits := by
  refine noneWoken_of_less rfl rfl rfl rfl rfl (fun r => ?_) (fun _ => id) id
  rw [State.setWaits_ring, examinedRing]
  split
  · exact fun hactive => ⟨hactive, rfl, rfl, rfl⟩
  · exact fun hactive => ⟨hactive, rfl, rfl, rfl⟩

theorem noneWoken_refreshFlush (s : State) (r : RingId) : NoneWoken s (s.refreshFlush r) := by
  unfold State.refreshFlush
  split
  · exact noneWoken_setRing fun hactive => ⟨hactive, rfl, rfl, rfl⟩
  · exact .refl s

theorem noneWoken_enterStopped (s : State) (r : RingId) : NoneWoken s (s.enterStopped r) :=
  (noneWoken_setRing (by simp [Ring.enter])).trans (noneWoken_of_blocks rfl rfl rfl rfl rfl rfl rfl)

theorem noneWoken_endFlush (s : State) (r : RingId) : NoneWoken s (s.endFlush r) :=
  (noneWoken_setRing (by simp [Ring.enter])).trans (noneWoken_of_blocks rfl rfl rfl rfl rfl rfl rfl)

theorem noneWoken_selectRing (s : State) (r : RingId) : NoneWoken s (s.selectRing r) :=
  noneWoken_of_blocks rfl rfl rfl rfl rfl rfl rfl

theorem noneWoken_refuseRingctl (s : State) : NoneWoken s s.refuseRingctl := noneWoken_of_blocks rfl rfl rfl rfl rfl rfl rfl

/-! ## What a command can do to the law (R81) -/

/-- After the command the part is not RUNNING, or an examination is due, or no head is eligible that was not. -/
def wakeKept (s t : State) : Prop := t.control.part ≠ .running ∨ t.issue.due = true ∨ NoneWoken s t

theorem wakeKept.law {s t : State} (h : wakeKept s t) (hs : wakeLaw s) : wakeLaw t := by
  intro hrunning hdue r
  rcases h with hpart | htrue | hnone
  · exact absurd hrunning hpart
  · exact absurd hdue (by simp [htrue])
  · refine Bool.eq_false_iff.2 fun hr => ?_
    exact absurd (hnone.heads r hr) (by simp [hs (hnone.part ▸ hrunning) (hnone.due ▸ hdue) r])

/-- A change that makes no head eligible may come first. -/
theorem wakeKept.after {s t u : State} (h : NoneWoken s t) (h' : wakeKept t u) : wakeKept s u :=
  h'.imp_right (.imp_right h.trans)

theorem wakeKept.refl (s : State) : wakeKept s s := .inr (.inr (.refl s))

/-! ## The host's commands (R57 to R60, R68 to R75, R155, R164) -/

theorem wakeKept_control {c : Instr} {s t : State} (h : exec c s = .next t)
    (hc : ∃ m, c = .enable m ∨ c = .quiesce m ∨ c = .abort m ∨ c = .resume m) : wakeKept s t := by
  have hrefused (m : Sources) : wakeKept s (s.setMask m).refuseControl := .inr (.inr (noneWoken_of_blocks rfl rfl rfl rfl rfl rfl rfl))
  have hdrain (u : State) (hu : u.control.part ≠ .running) : u.drainPart.control.part ≠ .running := by
    rcases u.drainPart_cases with ⟨he, -⟩ | ⟨-, -, -, he⟩
    · rwa [he]
    · simp [he]
  obtain ⟨m, rfl | rfl | rfl | rfl⟩ := hc <;> cases h
  · split
    · refine .inl ?_
      unfold State.beginLoad
      dsimp only
      split <;> simp [State.failLoad]
    · exact hrefused m
  · split
    · exact .inl (hdrain _ (by simp))
    · exact hrefused m
  · split
    · exact .inl (hdrain _ (by simp))
    · exact hrefused m
  · split
    · exact .inr (.inl rfl)
    · exact hrefused m

theorem wakeKept_execStop {r : RingId} {s t : State} (h : execStop r s = .next t) : wakeKept s t := by
  cases h
  refine .inr (.inr ((noneWoken_selectRing s r).trans ?_))
  split_ifs
  · exact noneWoken_enterStopped _ r
  · exact noneWoken_setRing (by simp [Ring.enter])
  · exact noneWoken_refuseRingctl _

theorem wakeKept_execRingResume {r : RingId} {s t : State} (h : execRingResume r s = .next t) : wakeKept s t := by
  cases h
  refine .after (noneWoken_selectRing s r) ?_
  split_ifs
  · exact .inr (.inl rfl)
  · exact .inr (.inr (noneWoken_setRing (by simp [Ring.enter])))
  · exact .inr (.inr (noneWoken_refuseRingctl _))

theorem wakeKept_execFlush {r : RingId} {s t : State} (h : execFlush r s = .next t) : wakeKept s t := by
  cases h
  refine .inr (.inr ((noneWoken_selectRing s r).trans ?_))
  split
  · have hflushing : NoneWoken (s.selectRing r)
        ((s.selectRing r).setRing r { (s.ring r).enter .flushing with flushTarget := (s.ring r).tail }) :=
      noneWoken_setRing (by simp [Ring.enter])
    dsimp only
    split
    · exact hflushing.trans (noneWoken_endFlush _ r)
    · exact hflushing.trans (noneWoken_refreshFlush _ r)
  · exact noneWoken_refuseRingctl _

theorem wakeKept_execRingReset {r : RingId} {s t : State} (h : execRingReset r s = .next t) : wakeKept s t := by
  cases h
  refine .inr (.inr ((noneWoken_selectRing s r).trans ?_))
  split
  · exact (noneWoken_setRing (by simp [Ring.enter])).trans (noneWoken_of_blocks rfl rfl rfl rfl rfl rfl rfl)
  · exact noneWoken_refuseRingctl _

/-- R58, R59, R76: a disposal that is withdrawn has an examination due, and a FAULTED ring no head to examine. -/
theorem wakeKept_postFault (s : State) (r : RingId) (cause : FaultCause) : wakeKept s (s.postFault r cause) := by
  unfold State.postFault
  split
  · exact .refl s
  · by_cases hreserved : (s.ring r).disposalReserved = true
    · refine .inr (.inl ?_)
      simp [State.withdrawDisposal, hreserved]
    · rw [State.withdrawDisposal]
      dsimp only
      rw [if_neg hreserved]
      exact .inr (.inr ((noneWoken_setRing (by simp [Ring.enter])).trans (noneWoken_of_blocks rfl rfl rfl rfl rfl rfl rfl)))

/-- R60: a new tail makes no head eligible; a ring that enters ACTIVE has an examination due. -/
theorem wakeKept_postApply (s : State) (r : RingId) (tail : Count) : wakeKept s (s.postApply r tail) := by
  unfold State.postApply
  dsimp only
  split
  · exact .inr (.inl rfl)
  · exact .inr (.inr (noneWoken_setRing fun hactive => ⟨hactive, rfl, rfl, rfl⟩))

theorem wakeKept_execPost {r : RingId} {tail : Count} {s t : State} (h : execPost r tail s = .next t) : wakeKept s t := by
  cases h
  split
  · exact .inr (.inr (noneWoken_of_blocks rfl rfl rfl rfl rfl rfl rfl))
  · split
    · exact wakeKept_postFault s r _
    · split
      · exact wakeKept_postFault s r _
      · exact wakeKept_postApply s r tail

theorem wakeKept_execAck {c : CqId} {head : Count} {s t : State} (h : execAck c head s = .next t) : wakeKept s t := by
  cases h
  split
  · exact .inr (.inr (noneWoken_of_less rfl rfl rfl rfl rfl (fun _ hactive => ⟨hactive, rfl, rfl, rfl⟩) (fun _ => id) id))
  · exact .inr (.inl rfl)

/-! ## The M-port (R63, R151, R153, R168, R172) -/

/-- R63: a record that joins behind a head leaves the head; one that joins an empty queue has an examination due. -/
theorem wakeKept_joinRecord (s : State) (r : RingId) (req : FetchRequest) : wakeKept s (s.joinRecord r req) := by
  unfold State.joinRecord
  dsimp only
  split
  · next hpart => exact .inl (by simpa using (show s.control.part = .halted from hpart) ▸ PartState.noConfusion)
  · split
    · exact .inr (.inl rfl)
    · next hqueue =>
      refine .inr (.inr (.trans ?_ (noneWoken_refreshFlush _ r)))
      refine noneWoken_setRing fun hactive => ⟨hactive, ?_, rfl, rfl⟩
      cases hq : (s.ring r).queue with
      | nil => exact absurd (by rw [hq]; rfl) hqueue
      | cons p rest => rfl

theorem wakeKept_execFetchComplete {host : List HostWrite} {ok : Bool} {s t : State} (h : execFetchComplete host ok s = .next t) :
    wakeKept s t := by
  have hread : NoneWoken s { s with mailbox := mailboxHost s.mailbox host }.freePort := noneWoken_of_blocks rfl rfl rfl rfl rfl rfl rfl
  unfold execFetchComplete at h
  split at h <;> cases h
  · split
    · exact .inr (.inr hread)
    · split
      · exact .inr (.inr hread)
      · exact .inr (.inr (hread.trans (noneWoken_of_blocks rfl rfl rfl rfl rfl rfl rfl)))
    · split
      · exact .after hread (wakeKept_joinRecord ..)
      · exact .inr (.inr (hread.trans (noneWoken_of_blocks rfl rfl rfl rfl rfl rfl rfl)))
  · exact .refl s

/-- R168: a load leads to OFF, or to RUNNING with an examination due. -/
theorem wakeKept_execSetupLoadEnd {host : List HostWrite} {ok : Bool} {s t : State} (h : execSetupLoadEnd host ok s = .next t) :
    wakeKept s t := by
  unfold execSetupLoadEnd at h
  split at h
  · simp only [Host.Outcome.next.injEq] at h
    generalize hu : { s with mailbox := mailboxHost s.mailbox host }.freePort = u at h
    have hread : NoneWoken s u := by
      rw [← hu]
      exact noneWoken_of_blocks rfl rfl rfl rfl rfl rfl rfl
    subst h
    split_ifs
    · exact .inr (.inr hread)
    · exact .inr (.inr (hread.trans (noneWoken_of_blocks rfl rfl rfl rfl rfl rfl rfl)))
    · rcases u.loadBlock_cases (SetupBlock.ofWords (mailboxWords u.mailbox _ 12)) with ⟨e, he⟩ | ⟨-, he⟩
      · rw [he]
        exact .inl (by simp [State.failLoad])
      · rw [he]
        exact .inr (.inl rfl)
    · exact .inr (.inr hread)
  · cases h
    exact .refl s

/-- R81, R151: outside HALTED a written entry has an examination due. -/
theorem wakeKept_execCompletionWrite {result : WriteEnd} {s t : State} (h : execCompletionWrite result s = .next t) : wakeKept s t := by
  rcases execCompletionWrite_entry h with ⟨hcontrol, hrings, hissue, hmap, hchannels, hports, hwriter⟩ | ⟨e, -, hcontrol, -, -, hissue⟩
  · exact .inr (.inr (noneWoken_of_blocks (by rw [hcontrol]) (by rw [hrings]) hissue hmap (by rw [hports])
      (State.bindings_congr hchannels) hwriter))
  · by_cases hpart : s.control.part = .halted
    · exact .inl (by simp [hcontrol, hpart])
    · rw [if_neg hpart] at hissue
      exact .inr (.inl (by rw [hissue]; rfl))

/-! ## Flush disposals (R74) -/

theorem noneWoken_reserveDisposal (s : State) (r : RingId) : NoneWoken s (s.reserveDisposal r) := by
  unfold State.reserveDisposal
  dsimp only
  split
  · exact .refl s
  · refine .trans ?_ (noneWoken_reserve _ _)
    exact noneWoken_setRing fun hactive => ⟨hactive, rfl, rfl, rfl⟩

/-- R74: the head of a FLUSHING ring leaves, whose ring has no head to examine, and its entry takes room. -/
theorem noneWoken_disposeHead {s : State} {r : RingId} (p : Prefetched) (hphase : (s.ring r).phase = .flushing) :
    NoneWoken s (s.disposeHead r p) := by
  unfold State.disposeHead
  dsimp only
  rw [State.handEntry_of_not_triggers _ rfl]
  refine .trans ?_ (noneWoken_setPostQueue (by simp))
  exact noneWoken_setRing fun hactive => absurd (hphase.symm.trans hactive) nofun

theorem noneWoken_execFlushDisposal {r : RingId} {s t : State} (h : execFlushDisposal r s = .next t) : NoneWoken s t := by
  cases h
  split
  · exact .refl s
  · next p _ _ =>
    split
    · exact .refl s
    · next htried =>
      have hphase : (s.ring r).phase = .flushing := not_not.1 (not_or.1 htried).2
      split
      · refine (noneWoken_reserveDisposal s r).trans (.trans ?_ (noneWoken_refreshFlush _ r))
        split
        · exact noneWoken_disposeHead p ((s.reserveDisposal_phase r).trans hphase)
        · exact .refl _
      · exact noneWoken_refreshFlush s r

/-! ## The beats (R133, R134) -/

theorem wakeKept_execBeatGrant {i : ArbiterId} {ws : List OutsideWrite} {s t : State} (h : execBeatGrant i ws s = .next t) :
    wakeKept s t := by
  unfold execBeatGrant at h
  split at h
  · cases h
    exact .refl s
  · split at h
    · cases h
      exact .inr (.inr (noneWoken_of_blocks (by simp) (by simp) (by simp) (by simp) (by simp) (by simp) (by simp)))
    · split at h <;> cases h
      exact .inr (.inr (noneWoken_of_blocks (by simp) (by simp) (by simp) (by simp) (by simp) (by simp) (by simp)))

/-- R133: a returned beat moves its transfer on, and wakes no head: the channel stays with its transfer. -/
theorem noneWoken_beatReturns (s : State) (b : Beat) (o : BeatOutcome) : NoneWoken s (s.beatReturns b o) :=
  noneWoken_of_blocks (by simp) (by simp) (by simp) (by simp) (by simp) (by simp) (by simp)

theorem noneWoken_freeXPort (s : State) : NoneWoken s s.freeXPort := noneWoken_of_blocks rfl rfl rfl rfl rfl rfl rfl

theorem wakeKept_execBeatEnd {b : BankId} {s t : State} (h : execBeatEnd b s = .next t) : wakeKept s t := by
  have hfree : NoneWoken s (s.freeArbiter (.bank b)) := noneWoken_of_blocks rfl rfl rfl rfl rfl rfl rfl
  have hset (u : State) (m : BankMemory) : NoneWoken u (u.setBank b m) := noneWoken_of_blocks rfl rfl rfl rfl rfl rfl rfl
  unfold execBeatEnd at h
  split at h
  · cases h
    exact .refl s
  · split at h <;> cases h
    split
    · exact .inr (.inr ((hfree.trans (hset _ _)).trans (noneWoken_beatReturns ..)))
    · exact .inr (.inr (hfree.trans (noneWoken_beatReturns ..)))

theorem wakeKept_execReady {d : DeviceId} {v : W24} {s t : State} (h : execReady d v s = .next t) : wakeKept s t := by
  unfold execReady at h
  split at h <;> cases h
  · exact .refl s
  · split
    · exact .inr (.inr ((noneWoken_freeXPort s).trans (noneWoken_beatReturns ..)))
    · exact .refl s

theorem wakeKept_execReadyTimeout {s t : State} (h : execReadyTimeout s = .next t) : wakeKept s t := by
  unfold execReadyTimeout at h
  split at h <;> cases h
  · exact .refl s
  · exact .inr (.inr ((noneWoken_freeXPort s).trans (noneWoken_beatReturns ..)))

/-! ## Every command -/

/-- R81: an examination that takes nothing has found no head eligible; after a taking another one is due. -/
theorem wakeLaw_examine (s : State) : wakeLaw s.examine := by
  rcases s.examine_cases with ⟨hnone, he⟩ | ⟨r, p, plan, -, -, he⟩
  · intro _ _ r
    have hheads := (noneWoken_setWaits s).heads r
    rw [(chosenRing_eq_none_iff s).1 hnone r] at hheads
    rw [he]
    exact Bool.eq_false_iff.2 fun hr => absurd (hheads hr) (by simp)
  · intro _ hdue
    rw [he] at hdue
    cases hdue

theorem exec_wakeLaw (c : Instr) (s t : State) (hs : wakeLaw s) (h : exec c s = .next t) : wakeLaw t := by
  cases c with
  | powerOnReset | softReset =>
    cases h
    exact wakeKept.law (s := s) (.inl nofun) hs
  | enable m => exact (wakeKept_control h ⟨m, .inl rfl⟩).law hs
  | quiesce m => exact (wakeKept_control h ⟨m, .inr (.inl rfl)⟩).law hs
  | abort m => exact (wakeKept_control h ⟨m, .inr (.inr (.inl rfl))⟩).law hs
  | resume m => exact (wakeKept_control h ⟨m, .inr (.inr (.inr rfl))⟩).law hs
  | controlMaskWrite | controlUnknownCommand | select | ringctlUnknownCommand | setupWrite | intstatWrite =>
    cases h
    exact wakeKept.law (.inr (.inr (noneWoken_of_blocks rfl rfl rfl rfl rfl rfl rfl))) hs
  | statusWrite =>
    cases h
    exact wakeKept.law
      (.inr (.inr (noneWoken_of_less rfl rfl rfl rfl rfl (fun _ hactive => ⟨hactive, rfl, rfl, rfl⟩) (fun _ => id) id))) hs
  | stop r => exact (wakeKept_execStop h).law hs
  | ringResume r => exact (wakeKept_execRingResume h).law hs
  | flush r => exact (wakeKept_execFlush h).law hs
  | ringReset r => exact (wakeKept_execRingReset h).law hs
  | post r tail => exact (wakeKept_execPost h).law hs
  | ack c head => exact (wakeKept_execAck h).law hs
  | fetchRequest | mPortGrant | holdoffExpiry =>
    cases h
    refine wakeKept.law (.inr (.inr ?_)) hs
    split
    · exact noneWoken_of_blocks rfl rfl rfl rfl rfl rfl rfl
    · exact .refl s
  | fetchComplete host ok => exact (wakeKept_execFetchComplete h).law hs
  | setupLoadEnd host ok => exact (wakeKept_execSetupLoadEnd h).law hs
  | mailboxFault =>
    rcases execMailboxFault_cases h with rfl | ⟨hpart, -⟩
    · exact hs
    · exact wakeKept.law (s := s) (.inl (by simp [hpart])) hs
  | examination =>
    cases h
    split
    · exact hs
    · exact wakeLaw_examine s
  | beatGrant i ws => exact (wakeKept_execBeatGrant h).law hs
  | beatEnd b => exact (wakeKept_execBeatEnd h).law hs
  | ready d v => exact (wakeKept_execReady h).law hs
  | readyTimeout => exact (wakeKept_execReadyTimeout h).law hs
  | handOff c =>
    rcases execHandOff_cases h with rfl | ⟨x, e, -, rfl⟩
    · exact hs
    · exact wakeKept.law (s := s) (.inr (.inl (by simp [State.handOff]))) hs
  | flushDisposal r => exact wakeKept.law (.inr (.inr (noneWoken_execFlushDisposal h))) hs
  | completionWrite result => exact (wakeKept_execCompletionWrite h).law hs

/-- Settles O59: a transfer is listed as it is taken, with no hazard, and leaves its list as its entry is written; and each command that
could make a head eligible has an examination due. -/
theorem issueLawsKept : Obligations.IssueLawsKept := by
  refine ⟨step_keeps (fun _ _ hs => hs) exec_hazardLaw, fun s t _ => step_keeps (fun _ _ hs => hs) exec_transfersListed s t, ?_,
    step_keeps (fun _ _ hs => hs) exec_wakeLaw⟩
  intro s c d x y hhazard hs hcd hx hy hring e he f hf
  obtain ⟨hwrites, hreads⟩ := (hazardWith_eq_false_iff ..).1 (transfers_apart hhazard hs hcd hx hy hring)
  rw [physOverlap_comm]
  rcases List.mem_append.1 hf with hf | hf
  · exact hwrites f hf e (List.mem_append_right _ he)
  · exact hreads f hf e he

end Sys2Proof.Machine

/-! The checks 4 to 9 of a transfer, each as a search for the first extent that fails it (R91 to R95). -/

namespace Sys2Proof.Machine

/-! ## The order of a record's extents (R12) -/

/-- The extents are looked at in the order A, B, C. -/
def ExtentName.Before (e f : ExtentName) : Prop :=
  match e, f with
  | .a, .b | .a, .c | .b, .c => True
  | _, _ => False

section

variable {p : ExtentName → Bool} {bad : ExtentName → Prop}

/-- A search over the extents finds the first one that is wrong. -/
theorem find?_allExtents_eq_some (hp : ∀ e, p e = true ↔ bad e) {e : ExtentName} (he : bad e)
    (hfirst : ∀ f : ExtentName, f.Before e → ¬bad f) : allExtents.find? p = some e := by
  have hearlier : ∀ f : ExtentName, f.Before e → p f = false := fun f hf => Bool.eq_false_iff.2 fun h => hfirst f hf ((hp f).1 h)
  have hfound := (hp e).2 he
  cases e with
  | a => simp [allExtents, hfound]
  | b => simp [allExtents, hearlier .a trivial, hfound]
  | c => simp [allExtents, hearlier .a trivial, hearlier .b trivial, hfound]

theorem find?_allExtents_eq_none (hp : ∀ e, p e = true ↔ bad e) (h : ∀ e, ¬bad e) : allExtents.find? p = none :=
  List.find?_eq_none.2 fun e _ hpe => h e ((hp e).1 hpe)

end

/-! ## Check 4: the extents resolve (R11, R12) -/

section

variable {t : WindowTable} {profiles : PerDevice (Option Profile)} {k : Kind} {x : Record}

theorem resolveOne_of_unnamed {e : ExtentName} (hlen : extentLength k x.count.toNat e = none) :
    resolveOne t profiles k x e = .ok none := by
  simp [resolveOne, hlen]

theorem resolveOne_of_found {e : ExtentName} {n : Nat} {ext : Extent} {wp : Bool} (hlen : extentLength k x.count.toNat e = some n)
    (h : resolve t profiles (recordAddress x e) n = .found ext wp) : resolveOne t profiles k x e = .ok (some (ext, wp)) := by
  simp [resolveOne, hlen, h]

theorem resolveOne_of_miss {e : ExtentName} {n : Nat} (hlen : extentLength k x.count.toNat e = some n)
    (h : resolve t profiles (recordAddress x e) n = .miss) :
    resolveOne t profiles k x e = .error (.mapMiss, .address (recordAddress x e)) := by
  simp [resolveOne, hlen, h]

theorem resolveOne_of_split {e : ExtentName} {n : Nat} (hlen : extentLength k x.count.toNat e = some n)
    (h : resolve t profiles (recordAddress x e) n = .split) :
    resolveOne t profiles k x e = .error (.rangeSplit, .address (recordAddress x e)) := by
  simp [resolveOne, hlen, h]

/-- R12: the first extent that does not resolve decides. -/
theorem resolveAll_eq_error_of_first {e : ExtentName} {err : Status × Detail}
    (hfirst : ∀ f : ExtentName, f.Before e → ∃ y, resolveOne t profiles k x f = .ok y) (h : resolveOne t profiles k x e = .error err) :
    resolveAll t profiles k x = .error err := by
  cases e with
  | a => simp [resolveAll, h]
  | b =>
    obtain ⟨a, ha⟩ := hfirst .a trivial
    simp [resolveAll, ha, h]
  | c =>
    obtain ⟨a, ha⟩ := hfirst .a trivial
    obtain ⟨b, hb⟩ := hfirst .b trivial
    simp [resolveAll, ha, hb, h]

/-- R43, R46, R91: a transfer kind with allowed flag bits and an allowed count above 0 is left to the checks 4 to 9. -/
theorem validate_of_count_pos {m : MapUnit} (hk : Kind.ofCode x.kind = some k) (ht : k.isTransfer = true)
    (hf : flagBitsAllowed k x.flags = true) (hcount : countAllowed k x.count.toNat = true) (hpos : 0 < x.count.toNat) :
    validate m profiles x = validateTransfer m.current profiles k x := by
  have hzero : x.count ≠ 0 := fun h => by
    rw [h] at hpos
    exact absurd hpos (by decide)
  rw [validate_transfer hk ht hf, if_neg hzero, hcount]
  rfl

theorem validateTransfer_of_resolveAll_error {st : Status} {d : Detail} (h : resolveAll t profiles k x = .error (st, d)) :
    validateTransfer t profiles k x = .refuse st d := by
  simp [validateTransfer, h]

end

/-! ## The extents as resolved -/

/-- What the extents that a kind names resolved to, for `n` elements. -/
def resolvedAs (k : Kind) (n : Nat) (E : ExtentName → Extent) (W : ExtentName → Bool) : ResolvedExtents :=
  let f := fun e => (extentLength k n e).map fun _ => (E e, W e)
  ⟨f .a, f .b, f .c⟩

section

variable {k : Kind} {n : Nat} {E : ExtentName → Extent} {W : ExtentName → Bool}

@[simp] theorem resolvedOf_resolvedAs (e : ExtentName) :
    resolvedOf (resolvedAs k n E W) e = (extentLength k n e).map fun _ => (E e, W e) := by
  cases e <;> rfl

@[simp] theorem extentOf_resolvedAs (e : ExtentName) :
    extentOf (resolvedAs k n E W) e = (extentLength k n e).map fun _ => E e := by
  simp [extentOf, Function.comp_def]

@[simp] theorem widthOf_resolvedAs (e : ExtentName) :
    widthOf (resolvedAs k n E W) e = (extentLength k n e).map fun _ => (E e).width := by
  simp [widthOf, Function.comp_def]

/-- R11, R12: the record's extents, once each of them is found. -/
theorem resolveAll_eq_resolvedAs {t : WindowTable} {profiles : PerDevice (Option Profile)} {x : Record}
    (h : ∀ e len, extentLength k x.count.toNat e = some len → resolve t profiles (recordAddress x e) len = .found (E e) (W e)) :
    resolveAll t profiles k x = .ok (resolvedAs k x.count.toNat E W) := by
  have hone : ∀ e, resolveOne t profiles k x e = .ok (resolvedOf (resolvedAs k x.count.toNat E W) e) := by
    intro e
    cases hlen : extentLength k x.count.toNat e with
    | none => simp [resolveOne_of_unnamed hlen, hlen]
    | some len => simp [resolveOne_of_found hlen (h e len hlen), hlen]
  simp only [resolveAll, hone]
  rfl

/-! ## The extents that a kind names and writes (R48) -/

/-- R48: B is written but by a COMPARE, and C by a SPLIT. -/
theorem extentWritten_iff (ht : k.isTransfer = true) (e : ExtentName) :
    extentWritten k e = true ↔ (e = .b ∧ k ≠ .compare) ∨ (e = .c ∧ k = .split) := by
  cases k with
  | fence | mark | mapset | maprevert | mapswitch => cases ht
  | copy | fill | compare | pack | unpack | split | join => cases e <;> simp [extentWritten]

theorem extentLength_isSome_of_written {e : ExtentName} (h : extentWritten k e = true) : (extentLength k n e).isSome = true := by
  revert h
  cases k <;> cases e <;> simp [extentWritten, extentLength]

/-- R92: an extent of which a width is required is one that the kind names. -/
theorem extentLength_isSome_of_widthRequired {e : ExtentName} {w : Width} (h : widthRequired k e = some w) :
    (extentLength k n e).isSome = true := by
  revert h
  cases k <;> cases e <;> simp [widthRequired, extentLength]

/-! ## Check 5: the widths (R92) -/

/-- The width of an extent is not the one that the kind requires, or for a COMPARE's B not that of A. -/
def widthBad (k : Kind) (y : ResolvedExtents) (e : ExtentName) : Bool :=
  if k = .compare then decide (e = .b) && decide (widthOf y .a ≠ widthOf y .b)
  else (widthRequired k e).isSome && decide (widthOf y e ≠ widthRequired k e)

theorem widthFailure_eq_find? (k : Kind) (y : ResolvedExtents) : widthFailure k y = allExtents.find? (widthBad k y) := by
  by_cases hk : k = .compare
  · by_cases hw : widthOf y .a = widthOf y .b <;> simp [widthFailure, widthBad, allExtents, hk, hw]
  · simp only [widthFailure, hk, if_false]
    congr 1
    funext e
    simp [widthBad, hk]

theorem widthBad_resolvedAs (e : ExtentName) :
    widthBad k (resolvedAs k n E W) e = true ↔
      (k = .compare ∧ e = .b ∧ (E .a).width ≠ (E .b).width) ∨ ∃ w, widthRequired k e = some w ∧ (E e).width ≠ w := by
  by_cases hk : k = .compare
  · subst hk
    simp [widthBad, extentLength, widthRequired]
  · cases hw : widthRequired k e with
    | none => simp [widthBad, hk, hw]
    | some w =>
      obtain ⟨len, hlen⟩ := Option.isSome_iff_exists.1 (extentLength_isSome_of_widthRequired (n := n) hw)
      simp [widthBad, hk, hw, hlen]

/-! ## Check 6: the flags (R44) -/

theorem flagsFit_resolvedAs (strict highonly : Bool) :
    flagsFit k strict highonly (widthOf (resolvedAs k n E W) .a) (widthOf (resolvedAs k n E W) .b) = true ↔
      (strict = true → k = .copy ∧ (E .a).width = .w24 ∧ (E .b).width = .w16) ∧
      (highonly = true → k = .compare ∧ (E .a).width = .w24 ∧ (E .b).width = .w24) := by
  by_cases hcopy : k = .copy
  · subst hcopy
    simp [flagsFit, extentLength, ← Bool.not_eq_true, imp_iff_not_or]
  · by_cases hcompare : k = .compare
    · subst hcompare
      simp [flagsFit, extentLength, ← Bool.not_eq_true, imp_iff_not_or]
    · simp [flagsFit, hcopy, hcompare]

/-! ## Checks 7 and 8: what is written may be written (R16, R93) -/

/-- A written extent lies in a window with WP. -/
def protectBad (k : Kind) (y : ResolvedExtents) (e : ExtentName) : Bool :=
  extentWritten k e && (resolvedOf y e).any fun r => r.2

theorem protectFailure_eq_find? (k : Kind) (y : ResolvedExtents) : protectFailure k y = allExtents.find? (protectBad k y) := by
  unfold protectFailure writtenExtents
  rw [List.find?_filter]
  congr 1
  funext e
  cases h : resolvedOf y e <;> simp [protectBad, h]

theorem protectBad_resolvedAs (e : ExtentName) :
    protectBad k (resolvedAs k n E W) e = true ↔ extentWritten k e = true ∧ W e = true := by
  simp only [protectBad, Bool.and_eq_true, resolvedOf_resolvedAs, Option.any_map]
  refine and_congr_right fun hw => ?_
  obtain ⟨len, hlen⟩ := Option.isSome_iff_exists.1 (extentLength_isSome_of_written (n := n) hw)
  simp [hlen]

/-- A written extent lies on a device that is not writable. -/
def readOnlyBad (profiles : PerDevice (Option Profile)) (k : Kind) (y : ResolvedExtents) (e : ExtentName) : Bool :=
  extentWritten k e && (extentOf y e).any (onReadOnlyDevice profiles)

theorem readOnlyFailure_eq_find? (profiles : PerDevice (Option Profile)) (k : Kind) (y : ResolvedExtents) :
    readOnlyFailure profiles k y = allExtents.find? (readOnlyBad profiles k y) := by
  unfold readOnlyFailure writtenExtents
  rw [List.find?_filter]
  congr 1
  funext e
  cases h : extentOf y e <;> simp [readOnlyBad, h]

theorem onReadOnlyDevice_iff (profiles : PerDevice (Option Profile)) (e : Extent) :
    onReadOnlyDevice profiles e = true ↔
      ∃ d pr, e.phys.target = .device d ∧ profiles.get d = some pr ∧ pr.writable = false := by
  unfold onReadOnlyDevice
  cases htarget : e.phys.target with
  | bank b => simp
  | device d => cases hp : profiles.get d <;> simp [hp]

theorem readOnlyBad_resolvedAs (profiles : PerDevice (Option Profile)) (e : ExtentName) :
    readOnlyBad profiles k (resolvedAs k n E W) e = true ↔
      extentWritten k e = true ∧ ∃ d pr, (E e).phys.target = .device d ∧ profiles.get d = some pr ∧ pr.writable = false := by
  simp only [readOnlyBad, Bool.and_eq_true, extentOf_resolvedAs, Option.any_map]
  refine and_congr_right fun hw => ?_
  obtain ⟨len, hlen⟩ := Option.isSome_iff_exists.1 (extentLength_isSome_of_written (n := n) hw)
  simp [hlen, onReadOnlyDevice_iff]

/-! ## Check 9: overlaps inside a record, and the direction (R14, R94, R95) -/

/-- A written extent overlaps another extent of the record, which is no COPY. -/
def overlapBad (k : Kind) (y : ResolvedExtents) (e : ExtentName) : Bool :=
  decide (k ≠ .copy) && (extentWritten k e && allExtents.any fun f => decide (f ≠ e) && extentsOverlap y e f)

theorem overlapFailure_eq_find? (k : Kind) (y : ResolvedExtents) : overlapFailure k y = allExtents.find? (overlapBad k y) := by
  by_cases hk : k = .copy
  · simp [overlapFailure, overlapBad, allExtents, hk]
  · simp only [overlapFailure, hk, if_false, writtenExtents]
    rw [List.find?_filter]
    congr 1
    funext e
    simp only [overlapBad, ne_eq, hk, not_false_eq_true, decide_true, Bool.true_and, Bool.decide_and, Bool.decide_eq_true]

theorem extentsOverlap_resolvedAs {e : ExtentName} (he : (extentLength k n e).isSome = true) (f : ExtentName) :
    extentsOverlap (resolvedAs k n E W) e f = true ↔
      (extentLength k n f).isSome = true ∧ physOverlap (E e).phys (E f).phys = true := by
  obtain ⟨len, hlen⟩ := Option.isSome_iff_exists.1 he
  cases hf : extentLength k n f <;> simp [extentsOverlap, hlen, hf]

theorem overlapBad_resolvedAs (e : ExtentName) :
    overlapBad k (resolvedAs k n E W) e = true ↔
      k ≠ .copy ∧ extentWritten k e = true ∧
        ∃ f, f ≠ e ∧ (extentLength k n f).isSome = true ∧ physOverlap (E e).phys (E f).phys = true := by
  have hmem : ∀ f : ExtentName, f ∈ allExtents := fun f => by cases f <;> simp [allExtents]
  simp only [overlapBad, Bool.and_eq_true, decide_eq_true_eq, List.any_eq_true, hmem, true_and]
  refine and_congr_right fun _ => and_congr_right fun hw => exists_congr fun f => and_congr_right fun _ => ?_
  exact extentsOverlap_resolvedAs (extentLength_isSome_of_written hw) f

theorem directionOf_resolvedAs :
    directionOf k (resolvedAs k n E W) =
      if k = .copy ∧ (E .a).phys.target = (E .b).phys.target ∧ (E .a).phys.first ≤ (E .b).phys.last ∧
        (E .b).phys.first ≤ (E .a).phys.last ∧ (E .a).phys.first < (E .b).phys.first then .descending else .ascending := by
  by_cases hk : k = .copy
  · subst hk
    simp [directionOf, extentLength, physOverlap_iff, and_assoc]
  · cases hd : directionOf k (resolvedAs k n E W) with
    | ascending => simp [hk]
    | descending => exact absurd (copy_of_directionOf_descending hd) hk

end

/-! ## The checks, one after the other (R91) -/

section

variable {t : WindowTable} {profiles : PerDevice (Option Profile)} {k : Kind} {x : Record} {y : ResolvedExtents}

theorem validateTransfer_of_widthFailure {e : ExtentName} (hy : resolveAll t profiles k x = .ok y) (h5 : widthFailure k y = some e) :
    validateTransfer t profiles k x = refuseAt x .widthMismatch e := by
  simp [validateTransfer, hy, h5]

theorem validateTransfer_of_flags (hy : resolveAll t profiles k x = .ok y) (h5 : widthFailure k y = none)
    (h6 : flagsFit k x.strict x.highonly (widthOf y .a) (widthOf y .b) = false) :
    validateTransfer t profiles k x = .refuse .badFlags .none := by
  simp [validateTransfer, hy, h5, h6]

theorem validateTransfer_of_protectFailure {e : ExtentName} (hy : resolveAll t profiles k x = .ok y) (h5 : widthFailure k y = none)
    (h6 : flagsFit k x.strict x.highonly (widthOf y .a) (widthOf y .b) = true) (h7 : protectFailure k y = some e) :
    validateTransfer t profiles k x = refuseAt x .writeProtect e := by
  simp [validateTransfer, hy, h5, h6, h7]

theorem validateTransfer_of_readOnlyFailure {e : ExtentName} (hy : resolveAll t profiles k x = .ok y) (h5 : widthFailure k y = none)
    (h6 : flagsFit k x.strict x.highonly (widthOf y .a) (widthOf y .b) = true) (h7 : protectFailure k y = none)
    (h8 : readOnlyFailure profiles k y = some e) : validateTransfer t profiles k x = refuseAt x .deviceReadonly e := by
  simp [validateTransfer, hy, h5, h6, h7, h8]

theorem validateTransfer_of_overlapFailure {e : ExtentName} (hy : resolveAll t profiles k x = .ok y) (h5 : widthFailure k y = none)
    (h6 : flagsFit k x.strict x.highonly (widthOf y .a) (widthOf y .b) = true) (h7 : protectFailure k y = none)
    (h8 : readOnlyFailure profiles k y = none) (h9 : overlapFailure k y = some e) :
    validateTransfer t profiles k x = refuseAt x .overlap e := by
  simp [validateTransfer, hy, h5, h6, h7, h8, h9]

theorem validateTransfer_of_passed (hy : resolveAll t profiles k x = .ok y) (h5 : widthFailure k y = none)
    (h6 : flagsFit k x.strict x.highonly (widthOf y .a) (widthOf y .b) = true) (h7 : protectFailure k y = none)
    (h8 : readOnlyFailure profiles k y = none) (h9 : overlapFailure k y = none) :
    validateTransfer t profiles k x = .transfer k (extentOf y .a) (extentOf y .b) (extentOf y .c) (directionOf k y) := by
  simp [validateTransfer, hy, h5, h6, h7, h8, h9]

end

/-- Settles O46: each check is a search for the first extent that fails it, and the searches follow one another in the order of R91. -/
theorem transferChecks : Obligations.TransferChecks := by
  intro m profiles x k E W hk ht hflags hpos hhigh heven N names addr before found plan
  have hplan : plan = validateTransfer m.current profiles k x :=
    validate_of_count_pos hk ht ((flagBitsAllowed_iff k x.flags).2 (.inr ⟨ht, hflags⟩)) ((countAllowed_iff k _).2 ⟨hhigh, heven⟩) hpos
  have hnames : ∀ e, names e = extentLength k N e := by
    intro e
    cases k with
    | fence | mark | mapset | maprevert | mapswitch => cases ht
    | copy | fill | compare | pack | unpack | split | join => cases e <;> rfl
  have haddr : ∀ e, addr e = recordAddress x e := fun e => by cases e <;> rfl
  have hbefore : ∀ e f : ExtentName, e.Before f → before e f := fun e f h => by cases e <;> cases f <;> exact h
  have hresolves : ∀ e, found e → ∃ y, resolveOne m.current profiles k x e = .ok y := by
    intro e hfound
    cases hlen : extentLength k N e with
    | none => exact ⟨_, resolveOne_of_unnamed hlen⟩
    | some n => exact ⟨_, resolveOne_of_found hlen (haddr e ▸ hfound n ((hnames e).trans hlen))⟩
  have hrefuse : ∀ st e, refuseAt x st e = .refuse st (.address (addr e)) := fun st e => by rw [haddr]; rfl
  rw [hplan]
  refine ⟨fun e n hn hfirst hmiss => ?_, fun e n hn hfirst hsplit => ?_, fun hfound => ?_⟩
  · rw [haddr] at hmiss ⊢
    exact validateTransfer_of_resolveAll_error (resolveAll_eq_error_of_first (fun f hf => hresolves f (hfirst f (hbefore f e hf)))
      (resolveOne_of_miss ((hnames e).symm.trans hn) hmiss))
  · rw [haddr] at hsplit ⊢
    exact validateTransfer_of_resolveAll_error (resolveAll_eq_error_of_first (fun f hf => hresolves f (hfirst f (hbefore f e hf)))
      (resolveOne_of_split ((hnames e).symm.trans hn) hsplit))
  intro widthWrong flagsFit' written protectedBy readOnly overlap overlapping firstOf none4 none6 none7 none8 direction extent
  have hy : resolveAll m.current profiles k x = .ok (resolvedAs k N E W) :=
    resolveAll_eq_resolvedAs fun e n hlen => haddr e ▸ hfound e n ((hnames e).trans hlen)
  have hwidth : ∀ e, widthBad k (resolvedAs k N E W) e = true ↔ widthWrong e := by
    intro e
    rw [widthBad_resolvedAs]
    cases k <;> cases e <;> simp [widthRequired, widthWrong]
  have hfit : flagsFit k x.strict x.highonly (widthOf (resolvedAs k N E W) .a) (widthOf (resolvedAs k N E W) .b) = true ↔ flagsFit' :=
    flagsFit_resolvedAs _ _
  have hwritten : ∀ e, extentWritten k e = true ↔ written e := extentWritten_iff ht
  have hprotect : ∀ e, protectBad k (resolvedAs k N E W) e = true ↔ protectedBy e := fun e =>
    (protectBad_resolvedAs e).trans (and_congr_left' (hwritten e))
  have hreadOnly : ∀ e, readOnlyBad profiles k (resolvedAs k N E W) e = true ↔ readOnly e := fun e =>
    (readOnlyBad_resolvedAs profiles e).trans (and_congr_left' (hwritten e))
  have hoverlap : ∀ e, overlapBad k (resolvedAs k N E W) e = true ↔ overlapping e := by
    intro e
    simp only [overlapBad_resolvedAs, physOverlap_iff, hwritten, overlapping, overlap, hnames]
  have hnone5 : none4 → widthFailure k (resolvedAs k N E W) = none := fun h =>
    (widthFailure_eq_find? ..).trans (find?_allExtents_eq_none hwidth h)
  have hnone7 : (∀ e, ¬protectedBy e) → protectFailure k (resolvedAs k N E W) = none := fun h =>
    (protectFailure_eq_find? ..).trans (find?_allExtents_eq_none hprotect h)
  have hnone8 : (∀ e, ¬readOnly e) → readOnlyFailure profiles k (resolvedAs k N E W) = none := fun h =>
    (readOnlyFailure_eq_find? ..).trans (find?_allExtents_eq_none hreadOnly h)
  have hfirst : ∀ {bad : ExtentName → Prop} {p : ExtentName → Bool} {e}, (∀ f, p f = true ↔ bad f) → firstOf bad e →
      allExtents.find? p = some e := fun hp ⟨hbad, hearlier⟩ =>
    find?_allExtents_eq_some hp hbad fun f hf => hearlier f (hbefore f _ hf)
  refine ⟨fun e he => ?_, fun h4 h6 => ?_, ?_, ?_, ?_, ?_⟩
  · rw [← hrefuse]
    exact validateTransfer_of_widthFailure hy ((widthFailure_eq_find? ..).trans (hfirst hwidth he))
  · exact validateTransfer_of_flags hy (hnone5 h4) (Bool.eq_false_iff.2 fun h => h6 (hfit.1 h))
  · rintro e ⟨h4, h6⟩ he
    rw [← hrefuse]
    exact validateTransfer_of_protectFailure hy (hnone5 h4) (hfit.2 h6) ((protectFailure_eq_find? ..).trans (hfirst hprotect he))
  · rintro e ⟨⟨h4, h6⟩, h7⟩ he
    rw [← hrefuse]
    exact validateTransfer_of_readOnlyFailure hy (hnone5 h4) (hfit.2 h6) (hnone7 h7)
      ((readOnlyFailure_eq_find? ..).trans (hfirst hreadOnly he))
  · rintro e ⟨⟨⟨h4, h6⟩, h7⟩, h8⟩ he
    rw [← hrefuse]
    exact validateTransfer_of_overlapFailure hy (hnone5 h4) (hfit.2 h6) (hnone7 h7) (hnone8 h8)
      ((overlapFailure_eq_find? ..).trans (hfirst hoverlap he))
  · rintro ⟨⟨⟨h4, h6⟩, h7⟩, h8⟩ h9
    have h9 := (overlapFailure_eq_find? ..).trans (find?_allExtents_eq_none hoverlap h9)
    rw [validateTransfer_of_passed hy (hnone5 h4) (hfit.2 h6) (hnone7 h7) (hnone8 h8) h9]
    simp only [extentOf_resolvedAs, directionOf_resolvedAs, extent, direction, hnames]

end Sys2Proof.Machine

/-! The steps of a channel (chapter 6): the beats of a step's two phases, and how a step begins. -/

namespace Sys2Proof.Machine

/-! ## The beats of a phase (R104, R105) -/

/-- The beat at word `pos` of an extent, as a channel makes it (R133). -/
def extentBeat (c : ChannelId) (isWrite : Bool) (n : ExtentName) (e : Extent) (pos : Nat) (v : W24) : Beat where
  channel := c
  isWrite := isWrite
  ext := n
  pos := pos
  target := e.phys.target
  offset := e.phys.first + pos
  width := e.width
  value := v
  counted := false

/-- The extents of a transfer by their names (R48). An extent that its kind does not name is never asked for. -/
def extentNamed (A B C : Extent) : ExtentName → Extent
  | .a => A
  | .b => B
  | .c => C

theorem contextBeat_of_extent {x : Context} {n : ExtentName} {e : Extent} (h : contextExtent x n = some e) (c : ChannelId) (w : Bool)
    (pos : Nat) (v : W24) : contextBeat c x w n pos v = some (extentBeat c w n e pos v) := by
  simp [contextBeat, h, extentBeat]

/-- R104: a FILL alone reads nothing in A, and a JOIN alone reads in C. -/
theorem stepReads_extent (k : Kind) (i : Nat) : ∀ p ∈ stepReads k i, (p.1 = .a → k ≠ .fill) ∧ (p.1 = .c → k = .join) := by
  cases k with
  | join => by_cases hi : i % 2 = 0 <;> simp [stepReads, hi]
  | _ => simp [stepReads]

/-- R104: no step writes in A, and a SPLIT alone writes in C. -/
theorem stepWrites_extent (x : Context) (rs : List BeatResult) :
    ∀ p ∈ stepWrites x rs, p.1 ≠ .a ∧ (p.1 = .c → x.kind = .split) := by
  cases hk : x.kind with
  | split =>
    by_cases hodd : x.nextStep % 2 = 1
    · simp [stepWrites, hk, hodd]
    · by_cases hlast : x.nextStep + 1 = x.count <;> simp [stepWrites, hk, hodd, hlast]
  | _ => simp [stepWrites, hk]

section

variable {x : Context} {A B C : Extent}

/-- R104: the reads of a step, as beats of the extents of the transfer. -/
theorem readBeats_eq_map (c : ChannelId) (hA : x.kind ≠ .fill → x.extA = some A) (hB : x.extB = some B)
    (hC : x.kind = .split ∨ x.kind = .join → x.extC = some C) :
    readBeats c x = (stepReads x.kind x.nextStep).map fun p => extentBeat c false p.1 (extentNamed A B C p.1) p.2 0 := by
  refine (List.filterMap_congr fun p hp => ?_).trans (congrFun List.filterMap_eq_map _)
  obtain ⟨ha, hc⟩ := stepReads_extent _ _ p hp
  refine contextBeat_of_extent ?_ ..
  cases hn : p.1 with
  | a => exact hA (ha hn)
  | b => exact hB
  | c => exact hC (.inr (hc hn))

/-- R104: the writes of a step, as beats of the extents of the transfer. -/
theorem writeBeats_eq_map (c : ChannelId) (rs : List BeatResult) (hB : x.extB = some B)
    (hC : x.kind = .split → x.extC = some C) :
    writeBeats c x rs = (stepWrites x rs).map fun p => extentBeat c true p.1 (extentNamed A B C p.1) p.2.1 p.2.2 := by
  refine (List.filterMap_congr fun p hp => ?_).trans (congrFun List.filterMap_eq_map _)
  obtain ⟨ha, hc⟩ := stepWrites_extent _ _ p hp
  refine contextBeat_of_extent ?_ ..
  cases hn : p.1 with
  | a => exact absurd hn ha
  | b => exact hB
  | c => exact hC (hc hn)

end

/-! ## The beginning of a step (R104, R105) -/

/-- The state in which a channel has a phase of its step in progress: the beats that come at once are requested, the others wait for
them. -/
def State.phaseBegun (s : State) (c : ChannelId) (x : Context) (phase : StepPhase) (results : List BeatResult)
    (now later : List Beat) : State :=
  (s.setChannel c (.running { x with step := some ⟨phase, later, now.length, results⟩ })).requestBeats now

theorem State.beginPhase_eq_phaseBegun (s : State) (c : ChannelId) (x : Context) (phase : StepPhase) (results : List BeatResult)
    (beats : List Beat) :
    s.beginPhase c x phase results beats = s.phaseBegun c x phase results (firstBeats [] beats) (laterBeats [] beats) := rfl

/-- R105: a step that reads begins with its reads. -/
theorem State.beginStep_of_reads {x : Context} {A B C : Extent} (s : State) (c : ChannelId) (hA : x.kind ≠ .fill → x.extA = some A)
    (hB : x.extB = some B) (hC : x.kind = .split ∨ x.kind = .join → x.extC = some C) {w : ExtentName × Nat}
    {ws : List (ExtentName × Nat)} (h : stepReads x.kind x.nextStep = w :: ws) :
    let beats := (w :: ws).map fun p => extentBeat c false p.1 (extentNamed A B C p.1) p.2 0
    s.beginStep c x = s.phaseBegun c x .reads [] (firstBeats [] beats) (laterBeats [] beats) := by
  intro beats
  have hbeats : readBeats c x = beats := (readBeats_eq_map c hA hB hC).trans (by rw [h])
  unfold State.beginStep
  rw [hbeats]
  rfl

/-- R105, R123: a FILL begins its step with its write. -/
theorem State.beginStep_of_fill {x : Context} {B : Extent} (s : State) (c : ChannelId) (hk : x.kind = .fill) (hB : x.extB = some B) :
    s.beginStep c x = s.phaseBegun c x .writes [] [extentBeat c true .b B x.nextStep (fillValue B.width x.pattern)] [] := by
  have hreads : readBeats c x = [] := by simp [readBeats, hk, stepReads]
  have hwrites : writeBeats c x [] = [extentBeat c true .b B x.nextStep (fillValue B.width x.pattern)] := by
    rw [writeBeats_eq_map (A := B) (C := B) c [] hB (by simp [hk])]
    simp [stepWrites, hk, extentNamed, contextWidth, contextExtent, hB]
  unfold State.beginStep
  rw [hreads, hwrites]
  rfl

/-- Settles O30: each kind's reads are those of `stepReads`, and the beats of an extent after its first one wait. -/
theorem stepBeginsWithItsReads : Obligations.StepBeginsWithItsReads := by
  intro c x A B C s hB hA hC i rd begun
  have reads := fun {w ws} => State.beginStep_of_reads (w := w) (ws := ws) s c hA hB hC
  have words : ∀ {k}, x.kind = k → stepReads x.kind x.nextStep = stepReads k i := fun hk => congrArg (stepReads · i) hk
  refine ⟨fun hk => reads (words hk), fun hk => reads (words hk), fun hk => reads (words hk), fun hk => reads (words hk),
    fun hk => reads (words hk), fun hk hi => reads ((words hk).trans (if_pos hi)),
    fun hk hi => reads ((words hk).trans (if_neg (by omega))), fun hk => ?_⟩
  rw [State.beginStep_of_fill s c hk hB]
  cases hw : B.width <;> rfl
end Sys2Proof.Machine

/-! The ends of a step's phases (chapters 6 and 7): what the results decide, and the writes that the conversions make of the words
read. -/

namespace Sys2Proof.Machine

/-! ## The results of a phase (R105, R110) -/

theorem BeatOutcome.failed_iff (o : BeatOutcome) : o.failed = true ↔ o = .parityError ∨ o = .timedOut := by
  cases o <;> simp [BeatOutcome.failed]

/-- R105: with no failed beat there is no first failure. -/
theorem firstFailure_eq_none {rs : List BeatResult} (h : ∀ r ∈ rs, r.outcome ≠ .parityError ∧ r.outcome ≠ .timedOut) :
    firstFailure rs = none := by
  simp only [firstFailure, List.find?_eq_none, List.mem_flatMap, List.mem_filter, BeatOutcome.failed_iff, not_or]
  rintro r ⟨_, _, hr, _⟩
  exact h r hr

@[simp] theorem readValue_cons_same (n : ExtentName) (pos : Nat) (v : W24) (rs : List BeatResult) :
    readValue (⟨n, pos, .value v⟩ :: rs) n pos = v := by
  simp [readValue]

theorem readValue_cons_other {r : BeatResult} {n : ExtentName} {pos : Nat} (h : ¬(r.ext = n ∧ r.pos = pos)) (rs : List BeatResult) :
    readValue (r :: rs) n pos = readValue rs n pos := by
  simp [readValue, h]

/-! ## Parts of words (R118) -/

@[simp] theorem toW16_ofW16 (v : W16) : toW16 (ofW16 v) = v := BitVec.extractLsb'_append_eq_right

@[simp] theorem upperByte_halfResidue (v : W24) : upperByte (halfResidue v) = lowByte v := BitVec.extractLsb'_append_eq_left

/-- Two neighbouring bytes make the sixteen bits they stand in. -/
theorem append_bytes {n : Nat} (v : BitVec n) (i : Nat) : v.extractLsb' (i + 8) 8 ++ v.extractLsb' i 8 = v.extractLsb' i 16 :=
  BitVec.extractLsb'_append_extractLsb'_eq_extractLsb' rfl

theorem upperByte_append_lowerByte (v : W16) : upperByte v ++ lowerByte v = v :=
  (append_bytes v 0).trans BitVec.extractLsb'_eq_self

/-- R125: the words of a pair, byte by byte. -/
theorem packPair_bytes (u v : W24) :
    packPair u v =
      (u.extractLsb' 16 8 ++ u.extractLsb' 8 8, u.extractLsb' 0 8 ++ v.extractLsb' 16 8, v.extractLsb' 8 8 ++ v.extractLsb' 0 8) := by
  rw [append_bytes u 8, append_bytes v 0]
  rfl

/-- R126: the elements of three words, byte by byte. -/
theorem unpackTriple_bytes (u v w : W16) :
    unpackTriple u v w = (upperByte u ++ lowerByte u ++ upperByte v, lowerByte v ++ upperByte w ++ lowerByte w) := by
  have hw : lowerByte v ++ upperByte w ++ lowerByte w = lowerByte v ++ (upperByte w ++ lowerByte w) := BitVec.append_assoc
  rw [hw, upperByte_append_lowerByte, upperByte_append_lowerByte]
  rfl

/-! ## The words that a step writes, kind by kind (R104, R119 to R130) -/

section

variable {x : Context}

theorem stepWrites_copy {A B : Extent} (hk : x.kind = .copy) (hA : x.extA = some A) (hB : x.extB = some B) (v : W24) :
    stepWrites x [⟨.a, x.nextStep, .value v⟩] = [(.b, x.nextStep, copyValue A.width B.width x.pad v)] := by
  simp [stepWrites, hk, contextWidth, contextExtent, hA, hB]

theorem stepWrites_pack (hk : x.kind = .pack) (u v : W24) :
    stepWrites x [⟨.a, 2 * x.nextStep, .value u⟩, ⟨.a, 2 * x.nextStep + 1, .value v⟩] =
      [(.b, 3 * x.nextStep, ofW16 (u.extractLsb' 16 8 ++ u.extractLsb' 8 8)),
       (.b, 3 * x.nextStep + 1, ofW16 (u.extractLsb' 0 8 ++ v.extractLsb' 16 8)),
       (.b, 3 * x.nextStep + 2, ofW16 (v.extractLsb' 8 8 ++ v.extractLsb' 0 8))] := by
  simp [stepWrites, hk, readValue_cons_other, packPair_bytes]

theorem stepWrites_unpack (hk : x.kind = .unpack) (u v w : W16) :
    stepWrites x [⟨.a, 3 * x.nextStep, .value (ofW16 u)⟩, ⟨.a, 3 * x.nextStep + 1, .value (ofW16 v)⟩,
        ⟨.a, 3 * x.nextStep + 2, .value (ofW16 w)⟩] =
      [(.b, 2 * x.nextStep, upperByte u ++ lowerByte u ++ upperByte v),
       (.b, 2 * x.nextStep + 1, lowerByte v ++ upperByte w ++ lowerByte w)] := by
  simp [stepWrites, hk, readValue_cons_other, unpackTriple_bytes]

theorem stepWrites_split_even (hk : x.kind = .split) (heven : x.nextStep % 2 = 0) (hlast : x.nextStep + 1 ≠ x.count) (v : W24) :
    stepWrites x [⟨.a, x.nextStep, .value v⟩] = [(.b, x.nextStep, ofW16 (upper16 v))] := by
  simp [stepWrites, hk, heven, hlast]

theorem stepWrites_split_last (hk : x.kind = .split) (heven : x.nextStep % 2 = 0) (hlast : x.nextStep + 1 = x.count) (v : W24) :
    stepWrites x [⟨.a, x.nextStep, .value v⟩] =
      [(.b, x.nextStep, ofW16 (upper16 v)), (.c, x.nextStep / 2, ofW16 (lowByte v ++ x.pad))] := by
  simp [stepWrites, hk, heven, hlast, completeResidue]

theorem stepWrites_split_odd (hk : x.kind = .split) (hodd : x.nextStep % 2 = 1) {h : W16} (hres : x.residue = some h) (v : W24) :
    stepWrites x [⟨.a, x.nextStep, .value v⟩] =
      [(.b, x.nextStep, ofW16 (upper16 v)), (.c, x.nextStep / 2, ofW16 (upperByte h ++ lowByte v))] := by
  simp [stepWrites, hk, hodd, hres, completeResidue]

theorem stepWrites_join_even (hk : x.kind = .join) (heven : x.nextStep % 2 = 0) {rs : List BeatResult} {v r : W16}
    (hv : readValue rs .a x.nextStep = ofW16 v) (hr : readValue rs .c (x.nextStep / 2) = ofW16 r) :
    stepWrites x rs = [(.b, x.nextStep, v ++ upperByte r)] := by
  simp [stepWrites, hk, heven, hv, hr, joinValue]

theorem stepWrites_join_odd (hk : x.kind = .join) (hodd : x.nextStep % 2 = 1) {r : W16} (hres : x.residue = some r) (v : W16) :
    stepWrites x [⟨.a, x.nextStep, .value (ofW16 v)⟩] = [(.b, x.nextStep, v ++ lowerByte r)] := by
  simp [stepWrites, hk, hodd, hres, joinValue]

/-! ## The residue word that a step leaves (R104) -/

theorem residueAfter_split_even (hk : x.kind = .split) (heven : x.nextStep % 2 = 0) (hlast : x.nextStep + 1 ≠ x.count)
    {rs : List BeatResult} {v : W24} (hv : readValue rs .a x.nextStep = v) : residueAfter x rs = some (halfResidue v) := by
  simp [residueAfter, hk, heven, hlast, hv]

theorem residueAfter_join_even (hk : x.kind = .join) (heven : x.nextStep % 2 = 0) {rs : List BeatResult} {r : W16}
    (hr : readValue rs .c (x.nextStep / 2) = ofW16 r) : residueAfter x rs = some r := by
  simp [residueAfter, hk, heven, hr]

theorem residueAfter_eq_none (rs : List BeatResult)
    (h : (x.kind = .split ∧ (x.nextStep % 2 = 1 ∨ x.nextStep + 1 = x.count)) ∨ (x.kind = .join ∧ x.nextStep % 2 = 1) ∨
      (x.kind ≠ .split ∧ x.kind ≠ .join)) : residueAfter x rs = none := by
  rcases h with ⟨hk, hodd | hlast⟩ | ⟨hk, hodd⟩ | ⟨hsplit, hjoin⟩
  · simp [residueAfter, hk, hodd]
  · simp [residueAfter, hk, hlast]
  · simp [residueAfter, hk, hodd]
  · unfold residueAfter
    split <;> simp_all

end

/-! ## The ends of the reads and of the writes (R104 to R106) -/

/-- R105: when every read has succeeded and no value test ends the transfer, the writes begin. -/
theorem State.readsEnded_of_values {x : Context} {B C : Extent} {rs : List BeatResult} (s : State) (c : ChannelId)
    (hrs : ∀ r ∈ rs, r.outcome ≠ .parityError ∧ r.outcome ≠ .timedOut) (hk : x.kind ≠ .compare)
    (hstrict : x.kind = .copy → x.strict = true → lowByte (readValue rs .a x.nextStep) = 0) (hB : x.extB = some B)
    (hC : x.kind = .split → x.extC = some C) {ws : List (ExtentName × Nat × W24)} (hws : stepWrites x rs = ws) :
    let beats := ws.map fun p => extentBeat c true p.1 (extentNamed B B C p.1) p.2.1 p.2.2
    s.readsEnded c x rs = s.phaseBegun c x .writes rs (firstBeats [] beats) (laterBeats [] beats) := by
  intro beats
  have hbeats : writeBeats c x rs = beats := (writeBeats_eq_map c rs hB hC).trans (by rw [hws])
  rw [← State.beginPhase_eq_phaseBegun, ← hbeats]
  unfold State.readsEnded
  rw [firstFailure_eq_none hrs]
  cases hkind : x.kind with
  | compare => exact absurd hkind hk
  | copy =>
    refine if_neg ?_
    simpa using hstrict hkind
  | _ => rfl

/-- R104, R106: when every write has succeeded the step finishes. -/
theorem State.writesEnded_of_no_failure {rs : List BeatResult} (s : State) (c : ChannelId) (x : Context)
    (hrs : ∀ r ∈ rs, r.outcome ≠ .parityError ∧ r.outcome ≠ .timedOut) :
    s.writesEnded c x rs = s.finishStep c x (residueAfter x rs) := by
  rw [State.writesEnded, firstFailure_eq_none hrs]

/-- Settles O35: the writes are those of `stepWrites`, and the residue word is that of `residueAfter`. -/
theorem stepsWriteTheConversion : Obligations.StepsWriteTheConversion := by
  constructor
  · intro c x A B C rs s hA hB hC i wr begun half top low
    have writes : ∀ {ws}, (∀ r ∈ rs, ∃ v, r.outcome = .value v) → x.kind ≠ .compare →
        (x.kind = .copy → x.strict = true → lowByte (readValue rs .a x.nextStep) = 0) → stepWrites x rs = ws → _ :=
      fun hrs hk hstrict => State.readsEnded_of_values s c
        (fun r hr => by obtain ⟨v, hv⟩ := hrs r hr; simp [hv]) hk hstrict hB (fun h => hC (.inl h))
    refine ⟨fun v hk hrs hstrict => ?_, fun u v hk hrs => ?_, fun u v w hk hrs => ?_, fun v hk hrs => ?_, fun v r hk => ?_⟩
    · subst hrs
      have copies : s.readsEnded c x _ = begun [wr .b B i (copyValue A.width B.width x.pad v)] [] :=
        writes (by simp) (by simp [hk]) (fun _ h => (congrArg lowByte (readValue_cons_same ..)).trans (hstrict h))
          (stepWrites_copy hk hA hB v)
      refine ⟨fun hw => ?_, fun ha hb => ?_, fun ha hb => ?_⟩
      · rw [copies, hw]
        cases B.width <;> rfl
      · rw [copies, ha, hb]
        rfl
      · rw [copies, ha, hb]
        rfl
    · subst hrs
      exact writes (by simp) (by simp [hk]) (by simp [hk]) (stepWrites_pack hk u v)
    · subst hrs
      exact writes (by simp) (by simp [hk]) (by simp [hk]) (stepWrites_unpack hk u v w)
    · subst hrs
      have writes := fun {ws} => writes (ws := ws) (by simp) (by simp [hk]) (by simp [hk])
      exact ⟨fun heven hlast => writes (stepWrites_split_even hk heven hlast v),
        fun heven hlast => writes (stepWrites_split_last hk heven hlast v),
        fun h hodd hres => writes (stepWrites_split_odd hk hodd hres v)⟩
    · refine ⟨fun heven hrs => ?_, fun hodd hres hrs => ?_⟩
      · have hv : readValue rs .a x.nextStep = ofW16 v := by
          rcases hrs with rfl | rfl
          · exact readValue_cons_same ..
          · exact (readValue_cons_other (by simp) _).trans (readValue_cons_same ..)
        have hr : readValue rs .c (x.nextStep / 2) = ofW16 r := by
          rcases hrs with rfl | rfl
          · exact (readValue_cons_other (by simp) _).trans (readValue_cons_same ..)
          · exact readValue_cons_same ..
        exact writes (by rcases hrs with rfl | rfl <;> simp) (by simp [hk]) (by simp [hk]) (stepWrites_join_even hk heven hv hr)
      · subst hrs
        exact writes (by simp) (by simp [hk]) (by simp [hk]) (stepWrites_join_odd hk hodd hres v)
  · intro c x rs s hrs i
    rw [State.writesEnded_of_no_failure s c x hrs]
    refine ⟨fun v rest hk heven hlast hread => ?_, fun r a rest hk heven ha hread => ?_, fun hnone => ?_⟩
    · subst hread
      rw [residueAfter_split_even hk heven hlast (readValue_cons_same ..)]
      rfl
    · refine congrArg _ (residueAfter_join_even hk heven ?_)
      rcases hread with rfl | rfl
      · exact readValue_cons_same ..
      · exact (readValue_cons_other (fun h => ha h.1) _).trans (readValue_cons_same ..)
    · rw [residueAfter_eq_none rs hnone]

end Sys2Proof.Machine

/-! The step boundary and the ways a transfer ends (R106 to R112, R114). -/

namespace Sys2Proof.Machine

/-! ## The end of a transfer (R103, R111, R114) -/

/-- The context of a transfer that has ended, with no step in progress. -/
def Context.ended (x : Context) (st : Status) (d : Detail) : Context := { x with ending := some ⟨st, d⟩, step := none }

/-- R103, R114: the state in which a channel's transfer has ended: the channel is in ENDING, and in HALTED it stays RUNNING. -/
def State.ended (s : State) (c : ChannelId) (x : Context) : State :=
  s.setChannel c (if s.control.part = .halted then .running x else .ending x)

theorem needsEarlyEnd_iff (x : Context) : needsEarlyEnd x = true ↔ x.kind = .split ∧ x.elementsDone % 2 = 1 ∧ x.residue ≠ none := by
  simp [needsEarlyEnd, and_assoc, Option.isSome_iff_ne_none]

section

variable {x : Context} (s : State) (c : ChannelId) (st : Status) (d : Detail)

theorem State.endTransfer_halted (h : s.control.part = .halted) :
    s.endTransfer c x st d = s.setChannel c (.running (x.ended st d)) := if_pos h

/-- R103: a transfer that needs no early-end write has ended at once. -/
theorem State.endTransfer_at_once (h : x.kind ≠ .split ∨ x.elementsDone % 2 = 0 ∨ x.residue = none) :
    s.endTransfer c x st d = s.ended c (x.ended st d) := by
  have hearly : needsEarlyEnd (x.ended st d) = false := by
    rw [Bool.eq_false_iff]
    intro hneeds
    obtain ⟨hk, hodd, hres⟩ := (needsEarlyEnd_iff _).1 hneeds
    rcases h with h | h | h
    · exact h hk
    · exact absurd (h.symm.trans hodd) (by decide)
    · exact hres h
  unfold State.ended
  split
  · next h => exact State.endTransfer_halted s c st d h
  · next h => exact (if_neg h).trans (if_neg (Bool.eq_false_iff.1 hearly))

/-- R111: a SPLIT with a half-filled residue word makes one more write, of that word and the pad byte. -/
theorem State.endTransfer_early {C : Extent} {h : W16} (hpart : s.control.part ≠ .halted) (hk : x.kind = .split)
    (hodd : x.elementsDone % 2 = 1) (hres : x.residue = some h) (hC : x.extC = some C) :
    s.endTransfer c x st d =
      s.phaseBegun c (x.ended st d) .earlyEnd []
        [extentBeat c true .c C (x.elementsDone / 2) (ofW16 (completeResidue h x.pad))] [] := by
  have hearly : needsEarlyEnd (x.ended st d) = true := (needsEarlyEnd_iff _).2 ⟨hk, hodd, by simp [Context.ended, hres]⟩
  have hbeats : earlyEndBeats c (x.ended st d) =
      [extentBeat c true .c C (x.elementsDone / 2) (ofW16 (completeResidue h x.pad))] := by
    have hc : contextExtent (x.ended st d) .c = some C := hC
    rw [earlyEndBeats, contextBeat_of_extent hc]
    simp [Context.ended, hres]
  refine (if_neg hpart).trans ((if_pos hearly).trans ?_)
  change s.beginPhase c (x.ended st d) .earlyEnd [] (earlyEndBeats c (x.ended st d)) = _
  rw [hbeats]
  rfl

end

/-! ## The step boundary (R106, R112) -/

/-- The context after a finished step (R106). -/
def Context.stepped (x : Context) (residue : Option W16) : Context :=
  { x with elementsDone := x.elementsDone + stepElements x.kind, nextStep := stepAfter x, residue := residue, step := none }

section

variable {x : Context} {w : Option W16} (s : State) (c : ChannelId)

theorem State.finishStep_halted (h : s.control.part = .halted) :
    s.finishStep c x w = s.setChannel c (.running (x.stepped w)) := if_pos h

theorem State.finishStep_last (h : s.control.part ≠ .halted) (hlast : x.count ≤ (x.stepped w).elementsDone) :
    s.finishStep c x w = s.endTransfer c (x.stepped w) .ok .none :=
  (if_neg h).trans (if_pos hlast)

theorem State.finishStep_aborted (h : s.control.part ≠ .halted) (hmore : (x.stepped w).elementsDone < x.count)
    (habort : x.pendingAbort = true) : s.finishStep c x w = s.endTransfer c (x.stepped w) .aborted .none :=
  (if_neg h).trans ((if_neg (Nat.not_le.2 hmore)).trans (if_pos habort))

theorem State.finishStep_next (h : s.control.part ≠ .halted) (hmore : (x.stepped w).elementsDone < x.count)
    (habort : x.pendingAbort = false) : s.finishStep c x w = s.beginStep c (x.stepped w) :=
  (if_neg h).trans ((if_neg (Nat.not_le.2 hmore)).trans (if_neg (Bool.eq_false_iff.1 habort)))

end

theorem stepElements_eq (k : Kind) : stepElements k = if k = .pack ∨ k = .unpack then 2 else 1 := by
  cases k <;> rfl

/-- Settles O31: `finishStep` asks in this order, and both of its endings are `endTransfer`. -/
theorem stepBoundaryOrder : Obligations.StepBoundaryOrder := by
  intro c x residue s done y ended whole
  have hdone : (x.stepped residue).elementsDone = done := congrArg _ (stepElements_eq x.kind)
  have hy : x.stepped residue = y := by
    simp only [Context.stepped, y, ← hdone]
    cases hd : x.direction <;> simp [stepAfter, hd]
  have hended : ∀ st d, s.control.part ≠ .halted → whole → s.endTransfer c y st d = ended ⟨st, d⟩ := fun st d hpart hwhole =>
    (State.endTransfer_at_once s c st d hwhole).trans (congrArg (s.setChannel c) (if_neg hpart))
  have last : s.control.part ≠ .halted → x.count ≤ done → s.finishStep c x residue = s.endTransfer c y .ok .none := fun hpart hlast =>
    hy ▸ State.finishStep_last s c hpart (hdone ▸ hlast)
  have aborted : s.control.part ≠ .halted → done < x.count → x.pendingAbort = true →
      s.finishStep c x residue = s.endTransfer c y .aborted .none := fun hpart hmore habort =>
    hy ▸ State.finishStep_aborted s c hpart (hdone ▸ hmore) habort
  refine ⟨fun hpart => hy ▸ State.finishStep_halted s c hpart, last, aborted, ?_, ?_, ?_, ?_⟩
  · intro C h hpart hmore habort hk hodd hres hC
    exact (aborted hpart hmore habort).trans (State.endTransfer_early s c _ _ hpart hk hodd hres hC)
  · intro hpart hlast hwhole
    exact (last hpart hlast).trans (hended _ _ hpart hwhole)
  · intro hpart hmore habort hwhole
    exact (aborted hpart hmore habort).trans (hended _ _ hpart hwhole)
  · intro hpart hmore habort
    exact hy ▸ State.finishStep_next s c hpart (hdone ▸ hmore) habort

end Sys2Proof.Machine

/-! What ends a transfer within a step: value tests (R108, R109, R124), failed beats (R105, R110), and the end of a SPLIT (R111, R129). -/

namespace Sys2Proof.Machine

/-! ## The last beat of a phase (R105) -/

/-- R105: the return of the last beat of a phase ends the phase, with its result behind the others. -/
theorem State.beatReturns_last {s : State} {b : Beat} {x : Context} {phase : StepPhase} {rs : List BeatResult}
    (hx : s.channel b.channel = .running x)
    (hstep : x.step = some { phase := phase, later := [], outstanding := 1, results := rs }) (o : BeatOutcome) :
    s.beatReturns b o = s.phaseEnded b.channel x ⟨phase, [], 0, rs ++ [⟨b.ext, b.pos, o⟩]⟩ := by
  simp [State.beatReturns, hx, hstep]

/-! ## Value tests (R108, R109, R124) -/

section

variable {x : Context} {rs : List BeatResult} (s : State) (c : ChannelId)

theorem compareEqual_iff (highonly : Bool) (u v : W24) :
    compareEqual highonly u v = true ↔ if highonly = true then upper16 u = upper16 v else u = v := by
  cases highonly <;> simp [compareEqual]

/-- R108: a COMPARE that finds its values equal finishes the step. -/
theorem State.readsEnded_equal (hrs : ∀ r ∈ rs, r.outcome ≠ .parityError ∧ r.outcome ≠ .timedOut) (hk : x.kind = .compare)
    (h : compareEqual x.highonly (readValue rs .a x.nextStep) (readValue rs .b x.nextStep) = true) :
    s.readsEnded c x rs = s.finishStep c x none := by
  simp [State.readsEnded, firstFailure_eq_none hrs, hk, h]

/-- R108: a COMPARE that finds them different ends, with the element counted. -/
theorem State.readsEnded_different (hrs : ∀ r ∈ rs, r.outcome ≠ .parityError ∧ r.outcome ≠ .timedOut) (hk : x.kind = .compare)
    (h : ¬compareEqual x.highonly (readValue rs .a x.nextStep) (readValue rs .b x.nextStep) = true) :
    s.readsEnded c x rs =
      s.ended c ({ x with elementsDone := x.nextStep + 1 }.ended .different (.index (BitVec.ofNat 16 x.nextStep))) := by
  rw [← State.endTransfer_at_once s c _ _ (.inl (by simp [hk]))]
  simp [State.readsEnded, firstFailure_eq_none hrs, hk, h]

/-- R109: a strict COPY whose low byte is not zero ends. -/
theorem State.readsEnded_loss {A : Extent} (hrs : ∀ r ∈ rs, r.outcome ≠ .parityError ∧ r.outcome ≠ .timedOut) (hk : x.kind = .copy)
    (hA : x.extA = some A) (hstrict : x.strict = true) (h : lowByte (readValue rs .a x.nextStep) ≠ 0) :
    s.readsEnded c x rs = s.ended c (x.ended .loss (.address (A.start + BitVec.ofNat 24 x.nextStep))) := by
  have htest : (x.strict && decide (lowByte (readValue rs .a x.nextStep) ≠ 0)) = true := by simpa [hstrict] using h
  rw [← State.endTransfer_at_once s c _ _ (.inl (by simp [hk]))]
  simp only [State.readsEnded, firstFailure_eq_none hrs, hk, htest, if_true, wordAddress, contextExtent, hA]

end

/-- Settles O32: with no failed read, the values decide. -/
theorem valueTestsDecide : Obligations.ValueTestsDecide := by
  intro b o x rs s hx hstep i returned all stop
  have hreturns : s.beatReturns b o = s.readsEnded b.channel x all := State.beatReturns_last hx hstep o
  have hstop : ∀ y, stop y = s.ended b.channel y := fun _ => rfl
  rw [hreturns]
  constructor
  · intro u v hk hall equal
    have hu : readValue all .a x.nextStep = u := by
      rcases hall with hall | hall <;> rw [hall]
      · exact readValue_cons_same ..
      · exact (readValue_cons_other (by simp) _).trans (readValue_cons_same ..)
    have hv : readValue all .b x.nextStep = v := by
      rcases hall with hall | hall <;> rw [hall]
      · exact (readValue_cons_other (by simp) _).trans (readValue_cons_same ..)
      · exact readValue_cons_same ..
    have hrs : ∀ r ∈ all, r.outcome ≠ .parityError ∧ r.outcome ≠ .timedOut := by
      rcases hall with hall | hall <;> simp [hall]
    have hequal : compareEqual x.highonly (readValue all .a x.nextStep) (readValue all .b x.nextStep) = true ↔ equal := by
      rw [hu, hv]
      exact compareEqual_iff ..
    exact ⟨fun h => State.readsEnded_different s _ hrs hk (mt hequal.1 h),
      fun h => State.readsEnded_equal s _ hrs hk (hequal.2 h)⟩
  · intro u A hk hA hall hstrict hlow
    have hu : readValue all .a x.nextStep = u := by
      rw [hall]
      exact readValue_cons_same ..
    exact State.readsEnded_loss s _ (by simp [hall]) hk hA hstrict (hu ▸ hlow)

/-! ## Failed beats (R105, R110) -/

/-- R110: DATA_ERROR for a parity error, DEVICE_TIMEOUT for a timeout. -/
theorem failureStatus_eq {o : BeatOutcome} (h : o = .parityError ∨ o = .timedOut) :
    failureStatus o = if o = .parityError then .dataError else .deviceTimeout := by
  rcases h with rfl | rfl <;> rfl

/-- Where the positions rise, the search finds the lowest one that is wanted. -/
theorem find?_eq_some_of_lowest {p : BeatResult → Bool} {l : List BeatResult} (hl : l.Pairwise fun g h => g.pos < h.pos)
    {f : BeatResult} (hf : f ∈ l) (hp : p f = true) (hlowest : ∀ g ∈ l, p g = true → f.pos ≤ g.pos) : l.find? p = some f := by
  induction l with
  | nil => cases hf
  | cons g l ih =>
    obtain ⟨hg, hl⟩ := List.pairwise_cons.1 hl
    rcases List.mem_cons.1 hf with rfl | hf
    · exact List.find?_cons_of_pos hp
    · have hpg : ¬p g = true := fun hpg => Nat.not_le.2 (hg f hf) (hlowest g List.mem_cons_self hpg)
      rw [List.find?_cons_of_neg hpg]
      exact ih hl hf fun h hh => hlowest h (List.mem_cons_of_mem _ hh)

theorem ExtentName.not_before_self (n : ExtentName) : ¬n.Before n := by cases n <;> exact id

/-- The first failed beat of one extent. -/
def failureIn (rs : List BeatResult) (n : ExtentName) : Option BeatResult :=
  (rs.filter fun r => decide (r.ext = n)).find? fun r => r.outcome.failed

/-- R105: the extents are looked at in the order A, B, C. -/
theorem firstFailure_eq_or (rs : List BeatResult) :
    firstFailure rs = (failureIn rs .a).or ((failureIn rs .b).or (failureIn rs .c)) := by
  simp only [firstFailure, allExtents, List.flatMap_cons, List.flatMap_nil, List.append_nil, List.find?_append, failureIn]

theorem failureIn_eq_none {rs : List BeatResult} {n : ExtentName} (h : ∀ r ∈ rs, r.ext = n → ¬r.outcome.failed = true) :
    failureIn rs n = none := by
  simp only [failureIn, List.find?_eq_none, List.mem_filter, decide_eq_true_eq]
  exact fun r hr => h r hr.1 hr.2

theorem failureIn_eq_some {rs : List BeatResult} (hrs : rs.Pairwise fun g h => g.ext = h.ext → g.pos < h.pos) {f : BeatResult}
    (hf : f ∈ rs) (hfailed : f.outcome.failed = true)
    (hlowest : ∀ g ∈ rs, g.ext = f.ext → g.outcome.failed = true → f.pos ≤ g.pos) : failureIn rs f.ext = some f := by
  refine find?_eq_some_of_lowest (List.pairwise_filter.2 (hrs.imp fun hpos hg hh => ?_)) (by simpa using hf) hfailed
    fun g hg hgf => ?_
  · rw [decide_eq_true_eq] at hg hh
    exact hpos (hg.trans hh.symm)
  · obtain ⟨hg, hext⟩ := List.mem_filter.1 hg
    exact hlowest g hg (of_decide_eq_true hext) hgf

/-- R105, R110: of the first extent that has a failed beat, the one at the lowest word decides. -/
theorem firstFailure_eq_some {rs : List BeatResult} (hrs : rs.Pairwise fun g h => g.ext = h.ext → g.pos < h.pos) {f : BeatResult}
    (hf : f ∈ rs) (hfailed : f.outcome.failed = true)
    (hfirst : ∀ g ∈ rs, g.outcome.failed = true → f.ext.Before g.ext ∨ (f.ext = g.ext ∧ f.pos ≤ g.pos)) :
    firstFailure rs = some f := by
  have hearlier : ∀ n : ExtentName, ¬f.ext.Before n → f.ext ≠ n → failureIn rs n = none := fun n hn hne =>
    failureIn_eq_none fun g hg hgn hgf => (hfirst g hg hgf).elim (hgn ▸ hn) fun h => hne (h.1.trans hgn)
  have hown : failureIn rs f.ext = some f := failureIn_eq_some hrs hf hfailed fun g hg hgn hgf => by
    refine (hfirst g hg hgf).elim (fun h => ?_) And.right
    rw [hgn] at h
    exact absurd h (ExtentName.not_before_self _)
  rw [firstFailure_eq_or]
  cases hn : f.ext with
  | a => simp [hn ▸ hown]
  | b => simp [hearlier .a (by simp [hn, ExtentName.Before]) (by simp [hn]), hn ▸ hown]
  | c =>
    simp [hearlier .a (by simp [hn, ExtentName.Before]) (by simp [hn]),
      hearlier .b (by simp [hn, ExtentName.Before]) (by simp [hn]), hn ▸ hown]

/-- R110: a failed read ends the transfer. -/
theorem State.readsEnded_of_failure {x : Context} {rs : List BeatResult} {f : BeatResult} {e : Extent} (s : State) (c : ChannelId)
    (h : firstFailure rs = some f) (he : contextExtent x f.ext = some e) :
    s.readsEnded c x rs = s.endTransfer c x (failureStatus f.outcome) (.address (e.start + BitVec.ofNat 24 f.pos)) := by
  simp only [State.readsEnded, h, State.failStep, wordAddress, he]

/-- R110, R111: a failed write ends the transfer. -/
theorem State.writesEnded_of_failure {x : Context} {rs : List BeatResult} {f : BeatResult} {e : Extent} (s : State) (c : ChannelId)
    (h : firstFailure rs = some f) (he : contextExtent x f.ext = some e) :
    s.writesEnded c x rs =
      s.endTransfer c (if s.control.part = .halted then x else contextAfterFailedWrite x rs) (failureStatus f.outcome)
        (.address (e.start + BitVec.ofNat 24 f.pos)) := by
  have hkeeps : contextExtent (contextAfterFailedWrite x rs) f.ext = some e := by
    rw [← he]
    unfold contextAfterFailedWrite
    split
    · split <;> cases f.ext <;> rfl
    · rfl
  simp only [State.writesEnded, h, State.failStep, wordAddress]
  split <;> simp [he, hkeeps]

/-- Settles O33: the first failed beat of the phase decides. -/
theorem firstFailureDecides : Obligations.FirstFailureDecides := by
  intro b o x phase rs f e s hx hstep hphase hk returned all rank hall hf hfailed hfirst he y
  have hrank : ∀ n m : ExtentName, rank n < rank m → n.Before m := fun n m h => by
    cases n <;> cases m <;> trivial
  have hff : firstFailure all = some f :=
    firstFailure_eq_some hall hf ((BeatOutcome.failed_iff _).2 hfailed) fun g hg hgf =>
      (hfirst g hg ((BeatOutcome.failed_iff _).1 hgf)).imp_left (hrank _ _)
  have hends : s.endTransfer b.channel x (failureStatus f.outcome) (.address (e.start + BitVec.ofNat 24 f.pos)) = s.ended b.channel y := by
    rw [failureStatus_eq hfailed]
    exact State.endTransfer_at_once s _ _ _ (.inl hk)
  refine (State.beatReturns_last hx hstep o).trans (Eq.trans ?_ hends)
  cases phase with
  | reads => exact State.readsEnded_of_failure s _ hff he
  | writes =>
    have hkept : contextAfterFailedWrite x all = x := if_neg hk
    refine (State.writesEnded_of_failure s _ hff he).trans ?_
    rw [hkept, ite_self]
  | earlyEnd => exact absurd rfl hphase

/-! ## The end of a SPLIT (R111, R114, R129) -/

/-! The failed beats of one extent, result by result. -/

@[simp] theorem failureIn_nil (n : ExtentName) : failureIn [] n = none := rfl

theorem failureIn_cons (r : BeatResult) (rs : List BeatResult) (n : ExtentName) :
    failureIn (r :: rs) n = if r.ext = n ∧ r.outcome.failed = true then some r else failureIn rs n := by
  by_cases hn : r.ext = n <;> by_cases hf : r.outcome.failed = true <;> simp [failureIn, hn, hf]

/-- R105: the results of a step's reads, kept before those of its writes, hide no failed write. -/
theorem failureIn_append_of_values {reads : List BeatResult} (h : ∀ r ∈ reads, ∃ v, r.outcome = .value v) (rs : List BeatResult)
    (n : ExtentName) : failureIn (reads ++ rs) n = failureIn rs n := by
  have hnone : failureIn reads n = none := failureIn_eq_none fun r hr _ => by
    obtain ⟨v, hv⟩ := h r hr
    simp [hv, BeatOutcome.failed]
  have happend : failureIn (reads ++ rs) n = (failureIn reads n).or (failureIn rs n) := by
    simp only [failureIn, List.filter_append, List.find?_append]
  rw [happend, hnone, Option.none_or]

theorem writeFailed_eq_isSome (rs : List BeatResult) (n : ExtentName) : writeFailed rs n = (failureIn rs n).isSome := by
  rw [Bool.eq_iff_iff]
  simp [writeFailed, failureIn]

/-- R111: a failed write leaves a SPLIT no residue word, and an odd step whose residue write failed uncounts the element before. -/
theorem contextAfterFailedWrite_split {x : Context} (hk : x.kind = .split) (rs : List BeatResult) :
    contextAfterFailedWrite x rs =
      { x with
        residue := none
        elementsDone :=
          if x.nextStep % 2 = 1 ∧ (failureIn rs .c).isSome = true then x.elementsDone - 1 else x.elementsDone } := by
  rw [contextAfterFailedWrite, if_pos hk, writeFailed_eq_isSome]
  split <;> rfl

/-- R111, R114: the early-end write, made and ended. -/
theorem State.earlyEnded_single (s : State) (c : ChannelId) (x : Context) (pos : Nat) {o : BeatOutcome}
    (ho : o = .stored ∨ o = .timedOut) :
    s.earlyEnded c x [⟨.c, pos, o⟩] =
      s.ended c
        { x with
          residue := none, step := none
          elementsDone := if o = .timedOut then x.elementsDone - 1 else x.elementsDone } := by
  rcases ho with rfl | rfl <;> rfl

/-- R105: what a SPLIT finds failed of its writes, whose results stand behind those of its reads: the main word's, and the residue
word's where one was written. -/
theorem failureIn_splitWrites {reads all : List BeatResult} {i : Nat} {ob oc : BeatOutcome}
    (hreads : ∀ r ∈ reads, ∃ v, r.outcome = .value v)
    (hall : (all = reads ++ [⟨.b, i, ob⟩, ⟨.c, i / 2, oc⟩] ∨ all = reads ++ [⟨.c, i / 2, oc⟩, ⟨.b, i, ob⟩]) ∨
      (all = reads ++ [⟨.b, i, ob⟩] ∧ oc = .stored))
    (hob : ob = .stored ∨ ob = .timedOut) (hoc : oc = .stored ∨ oc = .timedOut) :
    failureIn all .a = none ∧ failureIn all .b = (if ob = .timedOut then some ⟨.b, i, ob⟩ else none) ∧
      failureIn all .c = (if oc = .timedOut then some ⟨.c, i / 2, oc⟩ else none) := by
  have hfailed : ∀ o : BeatOutcome, o = .stored ∨ o = .timedOut → o.failed = decide (o = .timedOut) := by
    rintro _ (rfl | rfl) <;> rfl
  have hb := hfailed ob hob
  have hc := hfailed oc hoc
  rcases hall with (rfl | rfl) | ⟨rfl, rfl⟩ <;> simp [failureIn_append_of_values hreads, failureIn_cons, hb, hc]

/-- R129, R114: a SPLIT whose step had a write that timed out has ended at once; in HALTED its context keeps what it held. -/
theorem State.writesEnded_split {x : Context} {all : List BeatResult} {f : BeatResult} {e : Extent} (s : State) (c : ChannelId)
    (hk : x.kind = .split) (h : firstFailure all = some f) (hf : f.outcome = .timedOut) (he : contextExtent x f.ext = some e) :
    (s.control.part = .halted → s.writesEnded c x all =
      s.setChannel c (.running (x.ended .deviceTimeout (.address (e.start + BitVec.ofNat 24 f.pos))))) ∧
    (s.control.part ≠ .halted → s.writesEnded c x all =
      s.setChannel c (.ending
        ((contextAfterFailedWrite x all).ended .deviceTimeout (.address (e.start + BitVec.ofNat 24 f.pos))))) := by
  have hstatus : failureStatus f.outcome = .deviceTimeout := by rw [hf]; rfl
  have hres : (contextAfterFailedWrite x all).residue = none := by rw [contextAfterFailedWrite_split hk]
  rw [State.writesEnded_of_failure s c h he, hstatus]
  refine ⟨fun hpart => ?_, fun hpart => ?_⟩
  · rw [if_pos hpart]
    exact State.endTransfer_halted s c _ _ hpart
  · rw [if_neg hpart, State.endTransfer_at_once s c _ _ (.inr (.inr hres))]
    exact congrArg (s.setChannel c) (if_neg hpart)

/-- Settles O34: an ending, a failed read, a failed write and the early-end write, each by its own equation. -/
theorem splitEndsWhole : Obligations.SplitEndsWhole := by
  intro c x C st d s hk hC ended
  refine ⟨fun hpart => State.endTransfer_halted s c st d hpart, fun hpart hwhole => ?_, fun h hpart hodd hres => ?_, ?_, ?_, ?_⟩
  · exact (State.endTransfer_at_once s c st d (.inr hwhole)).trans (congrArg (s.setChannel c) (if_neg hpart))
  · exact State.endTransfer_early s c st d hpart hk hodd hres hC
  · rintro b o rfl hext hx hstep ho
    refine (State.beatReturns_last hx hstep o).trans ?_
    rw [hext]
    exact State.earlyEnded_single s _ x b.pos ho
  · rintro A b rfl hext hx hA hstep at_
    have hreturns : ∀ o, o.failed = true → s.beatReturns b o = s.endTransfer b.channel x (failureStatus o) at_ := fun o ho => by
      refine (State.beatReturns_last hx hstep o).trans ?_
      rw [hext]
      exact State.readsEnded_of_failure s _ (firstFailure_eq_some (by simp) List.mem_cons_self ho (by simp)) hA
    exact ⟨hreturns _ rfl, hreturns _ rfl⟩
  · rintro B i ob oc b o rs reads hB rfl rfl hx hstep hreads returned both mainAlone hall hob hoc hfailed detail y
    obtain ⟨hfa, hfb, hfc⟩ := failureIn_splitWrites (all := rs ++ [returned]) (fun r hr => (hreads r hr).2) hall hob hoc
    obtain ⟨f, e, hff, hf, he, hdetail⟩ : ∃ f e, firstFailure (rs ++ [returned]) = some f ∧ f.outcome = .timedOut ∧
        contextExtent x f.ext = some e ∧ .address (e.start + BitVec.ofNat 24 f.pos) = detail := by
      rw [firstFailure_eq_or, hfa, hfb, hfc]
      by_cases hbt : ob = .timedOut
      · exact ⟨⟨.b, x.nextStep, ob⟩, B, by simp [hbt], hbt, hB, by simp [detail, hbt]⟩
      · have hct := hfailed.resolve_left hbt
        exact ⟨⟨.c, x.nextStep / 2, oc⟩, C, by simp [hbt, hct], hct, hC, by simp [detail, hbt]⟩
    obtain ⟨hhalted, hrunning⟩ := State.writesEnded_split s b.channel hk hff hf he
    have hreturns : s.beatReturns b o = s.writesEnded b.channel x (rs ++ [returned]) := State.beatReturns_last hx hstep o
    rw [hreturns]
    refine ⟨fun hpart => ?_, fun hpart => ?_⟩
    · rw [hhalted hpart, hdetail]
      rfl
    · have hlowered : (failureIn (rs ++ [returned]) .c).isSome = true ↔ oc = .timedOut := by
        rw [hfc]
        split <;> simp_all
      rw [hrunning hpart, hdetail, contextAfterFailedWrite_split hk]
      simp only [hlowered]
      rfl

end Sys2Proof.Machine

/-! The hand-off of an ended transfer (R116, R117), and what it releases (R27, R34, R77, R169). -/

namespace Sys2Proof.Machine

/-! ## The release of a transfer (R27, R34) -/

/-- R27, R116: the last release is that of the one transfer still bound to the retiring generation. -/
theorem lastRelease_iff (m : MapUnit) (x : Context) :
    lastRelease m x = true ↔ ∃ rt, m.retiring = some rt ∧ rt.generation = x.generation ∧ rt.bound = 1 := by
  unfold lastRelease
  cases m.retiring with
  | none => simp
  | some rt => simp [eq_comm (a := x.generation)]

/-- R27, R34: what a release leaves of the Map Unit, where the transfer is bound to G or to the retiring generation. -/
theorem mapAfterRelease_eq {m : MapUnit} {x : Context}
    (hknown : x.generation ≠ m.generation → ∃ rt, m.retiring = some rt ∧ rt.generation = x.generation ∧ 1 ≤ rt.bound)
    (hdistinct : ∀ rt, m.retiring = some rt → rt.generation ≠ m.generation) :
    mapAfterRelease m x.generation =
      { m with
        bound := if x.generation = m.generation then m.bound - 1 else m.bound
        retiring :=
          if x.generation = m.generation then m.retiring
          else if lastRelease m x = true then none
          else m.retiring.map fun rt => { rt with bound := rt.bound - 1 }
        pendingSwitch := if lastRelease m x = true then none else m.pendingSwitch } := by
  by_cases hcur : x.generation = m.generation
  · have hlast : ¬lastRelease m x = true := fun h => by
      obtain ⟨rt, hrt, hgen, -⟩ := (lastRelease_iff m x).1 h
      exact hdistinct rt hrt (hgen.trans hcur)
    simp [mapAfterRelease, hcur, hlast]
  · obtain ⟨rt, hrt, hgen, hpos⟩ := hknown hcur
    by_cases hone : rt.bound = 1
    · have hlast : lastRelease m x = true := (lastRelease_iff m x).2 ⟨rt, hrt, hgen, hone⟩
      simp [mapAfterRelease, hcur, hrt, hgen, hone, hlast]
    · have hlast : ¬lastRelease m x = true := fun h => by
        obtain ⟨rt', hrt', -, hone'⟩ := (lastRelease_iff m x).1 h
        obtain rfl : rt = rt' := by simpa [hrt] using hrt'
        exact hone hone'
      have hmore : ¬rt.bound ≤ 1 := by omega
      simp [mapAfterRelease, hcur, hrt, hgen, hmore, hlast]

/-! ## An entry handed over (R77, R149) -/

/-- R77: an entry of this status stops the ring at its hand-off. -/
def Ring.stopsFor (g : Ring) (st : Status) : Prop :=
  g.dir.stopOnError = true ∧ st.triggersStop = true ∧ (g.phase = .idle ∨ g.phase = .active)

theorem Ring.stopsFor_iff (g : Ring) (st : Status) :
    g.stopsFor st ↔
      (g.dir.stopOnError && st.triggersStop && (decide (g.phase = .idle) || decide (g.phase = .active))) = true := by
  simp [Ring.stopsFor, and_assoc]

theorem State.handEntry_of_stops (s : State) {e : Completion} (h : (s.ring e.ring).stopsFor e.status) :
    s.handEntry e = (s.setPostQueue (s.writer.postQueue ++ [e])).setRing e.ring ((s.ring e.ring).enter .stopping) :=
  if_pos ((Ring.stopsFor_iff ..).1 h)

theorem State.handEntry_of_not_stops (s : State) {e : Completion} (h : ¬(s.ring e.ring).stopsFor e.status) :
    s.handEntry e = s.setPostQueue (s.writer.postQueue ++ [e]) :=
  if_neg (mt (Ring.stopsFor_iff ..).2 h)

/-- R77: stop-on-error can change no ring's directory entry. -/
theorem State.handEntry_ring_dir (s : State) (e : Completion) (r : RingId) : ((s.handEntry e).ring r).dir = (s.ring r).dir := by
  rcases State.handEntry_ring s e r with h | ⟨-, h⟩ <;> rw [h]
  rfl

/-- R34: a drained switch hands over its entry, OK, and reaches no ring. -/
theorem State.drainSwitch_some (s : State) (w : PendingSwitch) :
    s.drainSwitch (some w) = s.setPostQueue (s.writer.postQueue ++ [plainCompletion s w.ring w.slot w.tag .ok .none]) :=
  State.handEntry_of_not_triggers _ rfl

@[simp] theorem State.drainSwitch_ringManager (s : State) (sw : Option PendingSwitch) :
    (s.drainSwitch sw).ringManager = s.ringManager := by
  cases sw with
  | none => rfl
  | some w => rw [State.drainSwitch_some]; rfl

/-- R77, R149: of the Ring Manager, a handed entry reaches the rings alone. -/
theorem State.handEntry_ringManager (s : State) (e : Completion) :
    (s.handEntry e).ringManager = { s.ringManager with rings := (s.handEntry e).ringManager.rings } := by
  by_cases h : (s.ring e.ring).stopsFor e.status
  · rw [State.handEntry_of_stops s h]
    rfl
  · rw [State.handEntry_of_not_stops s h]
    rfl

theorem channelsIdle_iff (s : State) : channelsIdle s = true ↔ ∀ c, s.channel c = .idle := by
  have hidle : ∀ ch : Channel, ch.isIdle = true ↔ ch = .idle := fun ch => by cases ch <;> simp [Channel.isIdle]
  simp only [channelsIdle, Bool.and_eq_true, hidle]
  exact ⟨fun h c => by cases c; exacts [h.1, h.2], fun h => ⟨h .c0, h .c1⟩⟩

/-! ## The hand-off, part by part (R117) -/

section

variable (s : State) (c : ChannelId) (x : Context) (e : Ending)

@[simp] theorem State.handOff_issue : (s.handOff c x e).issue = { s.issue with due := true } := by
  simp [State.handOff]

theorem State.handOff_ringManager_eq : (s.handOff c x e).ringManager = (s.handEntry (channelCompletion s x e)).ringManager := by
  simp [State.handOff]

/-- R77: the hand-off of an error stops a stop-on-error ring. -/
theorem State.handOff_ring_stops (h : (s.ring x.ring).stopsFor e.status) (r : RingId) :
    (s.handOff c x e).ring r = if r = x.ring then (s.ring x.ring).enter .stopping else s.ring r := by
  rw [State.ring, State.handOff_ringManager_eq, State.handEntry_of_stops s (e := channelCompletion s x e) h]
  exact State.ring_setRing ..

theorem State.handOff_ring_keeps (h : ¬(s.ring x.ring).stopsFor e.status) (r : RingId) : (s.handOff c x e).ring r = s.ring r := by
  rw [State.ring, State.handOff_ringManager_eq, State.handEntry_of_not_stops s (e := channelCompletion s x e) h]
  rfl

theorem mapAfterRelease_generation (m : MapUnit) (g : BitVec 8) : (mapAfterRelease m g).generation = m.generation :=
  congrArg MapVersion.generation (mapAfterRelease_version m g)

/-- R116, R34: the transfer's entry joins the post queue, and behind it that of the switch that the release drains. -/
theorem State.handOff_writer :
    (s.handOff c x e).writer =
      { s.writer with
        postQueue := s.writer.postQueue ++ channelCompletion s x e ::
          ((if lastRelease s.map x then s.map.pendingSwitch else none).toList.map fun w =>
            plainCompletion s w.ring w.slot w.tag .ok .none) } := by
  generalize hsw : (if lastRelease s.map x then s.map.pendingSwitch else none) = sw
  cases sw with
  | none => simp [State.handOff, hsw, State.drainSwitch]
  | some w =>
    have hentry : plainCompletion ((s.handEntry (channelCompletion s x e)).setMap (mapAfterRelease s.map x.generation))
        w.ring w.slot w.tag .ok .none = plainCompletion s w.ring w.slot w.tag .ok .none := by
      simp [plainCompletion, mapAfterRelease_generation, State.handEntry_ring_dir]
    simp [State.handOff, hsw, State.drainSwitch_some, hentry]

/-- R169: the channel's return to IDLE, with this left of the Map Unit, completes the drain of the part. -/
def State.drainsWith (s : State) (c : ChannelId) (m : MapUnit) : Prop :=
  (s.control.part = .quiescing ∨ s.control.part = .aborting) ∧ (∀ c', c' ≠ c → s.channel c' = .idle) ∧ m.pendingSwitch = none

/-- R117: the drain of the part is looked at last, with the channel IDLE and the transfer released. -/
theorem State.handOff_eq_drainPart : ∃ u, s.handOff c x e = u.drainPart ∧ u.control = s.control ∧ u.coalescer = s.coalescer ∧
    (((u.control.part = .quiescing ∨ u.control.part = .aborting) ∧ channelsIdle u = true ∧ u.map.pendingSwitch = none) ↔
      s.drainsWith c (mapAfterRelease s.map x.generation)) := by
  refine ⟨_, rfl, by simp, by simp, ?_⟩
  have hidle : ∀ u : State, u.channels = s.channels.set c .idle →
      (channelsIdle u = true ↔ ∀ c', c' ≠ c → s.channel c' = .idle) := fun u hu => by
    simp only [channelsIdle_iff, State.channel, hu, PerChannel.get_set]
    exact forall_congr' fun c' => by split <;> simp_all
  rw [hidle _ (by simp), State.drainsWith]
  simp

/-- R169: EVENT is set with the entry into QUIESCED. -/
theorem State.handOff_drains (h : s.drainsWith c (mapAfterRelease s.map x.generation)) :
    (s.handOff c x e).control = { s.control with part := .quiesced } ∧
      (s.handOff c x e).coalescer = { s.coalescer with intstat := { s.coalescer.intstat with event := true } } := by
  obtain ⟨u, hu, hcontrol, hcoalescer, hdrains⟩ := State.handOff_eq_drainPart s c x e
  rw [hu, State.drainPart, if_pos (hdrains.2 h), ← hcontrol, ← hcoalescer]
  exact ⟨rfl, rfl⟩

theorem State.handOff_not_drains (h : ¬s.drainsWith c (mapAfterRelease s.map x.generation)) :
    (s.handOff c x e).control = s.control ∧ (s.handOff c x e).coalescer = s.coalescer := by
  obtain ⟨u, hu, hcontrol, hcoalescer, hdrains⟩ := State.handOff_eq_drainPart s c x e
  rw [hu, State.drainPart, if_neg (mt hdrains.1 h)]
  exact ⟨hcontrol, hcoalescer⟩

end

/-! ## HAND_OFF (R116) -/

theorem execHandOff_of_not_ending {c : ChannelId} {s : State} (h : ∀ x, s.channel c ≠ .ending x) : execHandOff c s = .next s := by
  unfold execHandOff
  split
  · next x hx => exact absurd hx (h x)
  · rfl
  · rfl

theorem execHandOff_of_no_room {c : ChannelId} {s : State}
    (h : ∀ x, s.channel c = .ending x → ¬(s.control.part ≠ .halted ∧ postRoom s (if lastRelease s.map x then 2 else 1) = true)) :
    execHandOff c s = .next s := by
  unfold execHandOff
  split
  · next x hx =>
    split
    · exact congrArg _ (if_neg (h x hx))
    · rfl
  · rfl
  · rfl

theorem execHandOff_of_room {c : ChannelId} {s : State} {x : Context} {e : Ending} (hx : s.channel c = .ending x)
    (he : x.ending = some e) (hpart : s.control.part ≠ .halted)
    (hroom : postRoom s (if lastRelease s.map x then 2 else 1) = true) : execHandOff c s = .next (s.handOff c x e) := by
  simp [execHandOff, hx, he, hpart, hroom]

/-- Settles O26: without its room the hand-off does not take place, and with it each part of the state is that of `State.handOff`. -/
theorem handOffReleases : Obligations.HandOffReleases := by
  refine ⟨fun c s => ⟨fun h => ?_, fun x rt hx hrt hgen hbound hfull => ?_⟩, ?_⟩
  · rcases h with hx | hpart | hfull
    · exact execHandOff_of_not_ending hx
    · exact execHandOff_of_no_room fun x _ h => h.1 hpart
    · refine execHandOff_of_no_room fun x _ h => ?_
      have hroom := (postRoom_iff ..).1 h.2
      split at hroom <;> omega
  · refine execHandOff_of_no_room fun x' hx' h => ?_
    obtain rfl : x = x' := by simpa [hx] using hx'
    have hroom := (postRoom_iff ..).1 h.2
    rw [if_pos ((lastRelease_iff ..).2 ⟨rt, hrt, hgen, hbound⟩)] at hroom
    omega
  · intro c x e s hx he hpart last entry drained stops hknown hboth hdistinct hroom
    have hlast : lastRelease s.map x = true ↔ last := lastRelease_iff ..
    have hwriter := State.handOff_writer s c x e
    have hmap := mapAfterRelease_eq hknown hdistinct
    have hdrained : s.drainsWith c (mapAfterRelease s.map x.generation) ↔ drained := by
      rw [State.drainsWith, hmap]
      simp only [hlast, drained]
      by_cases h : last <;> simp [h]
    have hrings : ∀ r, r ≠ x.ring → (s.handOff c x e).ring r = s.ring r := fun r hr => by
      by_cases h : (s.ring x.ring).stopsFor e.status
      · exact (State.handOff_ring_stops s c x e h r).trans (if_neg hr)
      · exact State.handOff_ring_keeps s c x e h r
    have hchannels := (s.handOff_leaves c x e).2
    have hrelease : (s.handOff c x e).map = _ := (State.handOff_map s c x e).trans hmap
    have hmanager := State.handOff_ringManager_eq s c x e
    refine ⟨_, execHandOff_of_room hx he hpart ((postRoom_iff ..).2 (by simpa only [hlast] using hroom)), fun h => ?_, fun h => ?_,
      by rw [hrelease], by simp only [hrelease, hlast], by rw [hrelease], by rw [hrelease], by rw [hrelease],
      fun h => (State.handOff_ring_stops s c x e h x.ring).trans (if_pos rfl), fun h => State.handOff_ring_keeps s c x e h x.ring,
      hrings, ?_, fun c' hc' => ?_, State.handOff_issue s c x e, fun h => State.handOff_drains s c x e (hdrained.2 h),
      fun h => State.handOff_not_drains s c x e (mt hdrained.1 h), ?_, ?_, State.handOff_ports s c x e, State.handOff_banks s c x e,
      State.handOff_mport s c x e, State.handOff_mailbox s c x e⟩
    · have hfalse : ¬lastRelease s.map x = true := mt hlast.1 h
      rw [hwriter, hrelease, if_neg hfalse]
      exact ⟨rfl, if_neg hfalse⟩
    · have htrue : lastRelease s.map x = true := hlast.2 h
      obtain ⟨rt, hrt, -⟩ := h
      obtain ⟨w, hw⟩ := Option.isSome_iff_exists.1 (hboth.symm.trans (by simp [hrt]))
      rw [hwriter, hrelease, if_pos htrue, hw]
      exact ⟨w, rfl, rfl, if_pos htrue⟩
    · rw [State.channel, hchannels, PerChannel.get_set_same]
    · rw [State.channel, hchannels, PerChannel.get_set_other _ _ hc']
      rfl
    · rw [hmanager]
      exact State.handEntry_ringManager s _
    · rw [hwriter]

end Sys2Proof.Machine

/-! What a reset leaves in the memories (R115, R137, R162): words and slots of mailbox memory after writes, and the words that a reset
lets land. -/

namespace Sys2Proof.Machine

/-! ## Words of mailbox memory after writes (R41) -/

theorem append_four_bytes (w : Word32) : w.extractLsb' 24 8 ++ w.extractLsb' 16 8 ++ w.extractLsb' 8 8 ++ w.extractLsb' 0 8 = w := by
  apply BitVec.eq_of_toNat_eq
  simp only [toNat_append_eq, toNat_extractLsb'_eq]
  omega

/-- R41: a word is what its four bytes are. -/
theorem mailboxWord_eq_of_bytes {m : MailboxMemory} {a : MailboxAddr} {w : Word32}
    (h : ∀ n : Fin 4, mailboxByte m (a + BitVec.ofNat 16 n.val) = w.extractLsb' (8 * n.val) 8) : mailboxWord m a = w := by
  have h0 : mailboxByte m a = w.extractLsb' 0 8 := by simpa using h 0
  have h1 : mailboxByte m (a + 1) = w.extractLsb' 8 8 := h 1
  have h2 : mailboxByte m (a + 2) = w.extractLsb' 16 8 := h 2
  have h3 : mailboxByte m (a + 3) = w.extractLsb' 24 8 := h 3
  rw [mailboxWord, h0, h1, h2, h3, append_four_bytes]

section

variable {m : MailboxMemory} (hm : Memory.wf m = true) (a : MailboxAddr) (w : Word32)

include hm

theorem mailboxByte_setWord (b : MailboxAddr) :
    mailboxByte (mailboxSetWord m a w) b =
      if b = a + 3 then w.extractLsb' 24 8
      else if b = a + 2 then w.extractLsb' 16 8
      else if b = a + 1 then w.extractLsb' 8 8
      else if b = a then w.extractLsb' 0 8
      else mailboxByte m b := by
  have h0 := Memory.wf_setByte hm a (w.extractLsb' 0 8)
  have h1 := Memory.wf_setByte h0 (a + 1) (w.extractLsb' 8 8)
  have h2 := Memory.wf_setByte h1 (a + 2) (w.extractLsb' 16 8)
  rw [mailboxSetWord, mailboxByte_setByte h2, mailboxByte_setByte h1, mailboxByte_setByte h0, mailboxByte_setByte hm]

/-- R41: the bytes of a written word, bits 7-0 at the lowest address. -/
theorem mailboxByte_setWord_inside (n : Fin 4) :
    mailboxByte (mailboxSetWord m a w) (a + BitVec.ofNat 16 n.val) = w.extractLsb' (8 * n.val) 8 := by
  rw [mailboxByte_setWord hm]
  match n with
  | 0 => simp
  | 1 => simp
  | 2 => simp
  | 3 => simp

/-- A written word leaves every byte but its own four. -/
theorem mailboxByte_setWord_outside {b : MailboxAddr} (h : ∀ n : Fin 4, b ≠ a + BitVec.ofNat 16 n.val) :
    mailboxByte (mailboxSetWord m a w) b = mailboxByte m b := by
  have h0 : b ≠ a := by simpa using h 0
  have h1 : b ≠ a + 1 := h 1
  have h2 : b ≠ a + 2 := h 2
  have h3 : b ≠ a + 3 := h 3
  rw [mailboxByte_setWord hm, if_neg h3, if_neg h2, if_neg h1, if_neg h0]

end

/-! ## Words of a slot (R41, R151) -/

theorem add_ofNat_inj {a : MailboxAddr} {i j : Nat} (hi : i < 65536) (hj : j < 65536)
    (h : a + BitVec.ofNat 16 i = a + BitVec.ofNat 16 j) : i = j := by
  have h := congrArg BitVec.toNat (add_left_cancel h)
  simp only [BitVec.toNat_ofNat] at h
  omega

/-- Byte `n` of word `i` of a slot. -/
theorem slotByte_eq (a : MailboxAddr) (i n : Fin 4) :
    a + BitVec.ofNat 16 (4 * i.val) + BitVec.ofNat 16 n.val = a + BitVec.ofNat 16 (4 * i.val + n.val) := by
  rw [BitVec.add_assoc, ← BitVec.ofNat_add]

section

variable {m : MailboxMemory} (hm : Memory.wf m = true) (a : MailboxAddr)

include hm

/-- R151: of the four words of a slot, a written word changes its own. -/
theorem mailboxWord_putWord (i j : Fin 4) (v : Word32) :
    mailboxWord (putWord m a i v) (a + BitVec.ofNat 16 (4 * j.val)) =
      if j = i then v else mailboxWord m (a + BitVec.ofNat 16 (4 * j.val)) := by
  split
  · next h =>
    subst h
    exact mailboxWord_eq_of_bytes (mailboxByte_setWord_inside hm _ v)
  · next h =>
    refine mailboxWord_eq_of_bytes fun n => ?_
    rw [mailboxWord_byte, putWord, mailboxByte_setWord_outside hm]
    intro k hk
    rw [slotByte_eq, slotByte_eq] at hk
    have := add_ofNat_inj (by omega) (by omega) hk
    omega

theorem mailboxByte_putWord_outside {b : MailboxAddr} (h : ∀ k : Nat, k < 16 → b ≠ a + BitVec.ofNat 16 k) (i : Fin 4) (v : Word32) :
    mailboxByte (putWord m a i v) b = mailboxByte m b := by
  refine mailboxByte_setWord_outside hm _ v fun n => ?_
  rw [slotByte_eq]
  exact h _ (by omega)

end

/-- R151: the words of a slot after some of them have been written. -/
theorem mailboxWord_putWords {m : MailboxMemory} (hm : Memory.wf m = true) (a : MailboxAddr) (w : Vector Word32 4) (is : List (Fin 4))
    (j : Fin 4) :
    mailboxWord (putWords m a w is) (a + BitVec.ofNat 16 (4 * j.val)) =
      if j ∈ is then w[j] else mailboxWord m (a + BitVec.ofNat 16 (4 * j.val)) := by
  induction is generalizing m with
  | nil => rfl
  | cons i is ih =>
    refine (ih (Memory.wf_putWord hm a i w[i])).trans ?_
    rw [mailboxWord_putWord hm]
    by_cases hj : j ∈ is
    · simp [hj]
    · by_cases hi : j = i <;> simp [hj, hi]

/-- R151: the words of a record reach no byte outside its slot. -/
theorem mailboxByte_putWords_outside {m : MailboxMemory} (hm : Memory.wf m = true) {a b : MailboxAddr}
    (h : ∀ k : Nat, k < 16 → b ≠ a + BitVec.ofNat 16 k) (w : Vector Word32 4) (is : List (Fin 4)) :
    mailboxByte (putWords m a w is) b = mailboxByte m b := by
  induction is generalizing m with
  | nil => rfl
  | cons i is ih => exact (ih (Memory.wf_putWord hm a i w[i])).trans (mailboxByte_putWord_outside hm a h i _)

/-! ## The memories after a reset (R115, R137, R162; log entries 8 to 10) -/

/-- R162: which words of an abandoned completion write land: w0 only together with the other three. -/
def recordLands (lands : Fin 4 → Bool) (i : Fin 4) : Bool :=
  if i = 0 then lands 1 && lands 2 && lands 3 && lands 0 else lands i

/-- R162: a reset writes the words that land of the record in service. -/
theorem mailboxAfterReset_live {s : State} {e : Completion} (hservice : s.mport.inService = some ⟨.completionWrite, .live⟩)
    (he : writerEntry s = some e) :
    mailboxAfterReset s =
      putWords s.mailbox (cqSlotAddr (s.cq e.cq)) (e.words (s.cq e.cq).phase)
        (writeOrder.filter (recordLands (Config.abandonedWordLands s.freeIndex))) := by
  rw [putWords, List.foldl_filter, mailboxAfterReset, hservice, he]
  rfl

/-- R162: without a completion write in service a reset leaves mailbox memory. -/
theorem mailboxAfterReset_of_no_write {s : State}
    (h : s.mport.inService ≠ some ⟨.completionWrite, .live⟩ ∨ writerEntry s = none) : mailboxAfterReset s = s.mailbox := by
  unfold mailboxAfterReset
  split
  · next hservice he =>
    rcases h with h | h
    · exact absurd hservice h
    · exact absurd (h.symm.trans he) (by simp)
  · rfl

/-- R115, R137: a bank word after a reset is what it was, or the value of the write beat in service at its bank. -/
theorem bankWord_afterReset (s : State) (b : BankId) (o : Nat) :
    bankWord (bankAfterReset s b) o = bankWord (s.banks.get b) o ∨
      ∃ beat, (s.arbiter (.bank b)).inService = some beat ∧ beat.isWrite = true ∧ beat.offset = o ∧
        bankWord (bankAfterReset s b) o = some ⟨beat.value, true⟩ := by
  unfold bankAfterReset
  split
  · next beat hbeat =>
    split
    · next h =>
      simp only [Bool.and_eq_true] at h
      by_cases ho : beat.offset = o
      · exact .inr ⟨beat, hbeat, h.1.1, ho, ho ▸ bankWord_set_same ..⟩
      · exact .inl (bankWord_set_other _ _ (Ne.symm ho))
    · exact .inl rfl
  · exact .inl rfl

/-- Both resets do to the memories what `State.resetBlocks` does. -/
theorem exec_reset {c : Instr} (h : isReset c) (s : State) : ∃ control map, exec c s = .next (s.resetBlocks control map) := by
  rcases h with rfl | ⟨m, rfl⟩ <;> exact ⟨_, _, rfl⟩

/-- Settles O6: the slot after a reset is that after some words of the record have been written. -/
theorem resetLeavesMemories : Obligations.ResetLeavesMemories := by
  intro c s hc hwf
  obtain ⟨control, map, hexec⟩ := exec_reset hc s
  have hm : Memory.wf s.mailbox = true := ((memoriesWf_iff s).1 hwf).1
  refine ⟨_, hexec, fun b o => ?_, ?_, fun h => ?_⟩
  · rw [State.resetBlocks_banks]
    exact bankWord_afterReset s b o
  · intro lost e rest hservice hqueue hlost q at_ new
    have hmailbox : (s.resetBlocks control map).mailbox = putWords s.mailbox at_ new
        (writeOrder.filter (recordLands (Config.abandonedWordLands s.freeIndex))) :=
      mailboxAfterReset_live hservice (writerEntry_append s hqueue hlost)
    rw [hmailbox]
    generalize Config.abandonedWordLands s.freeIndex = lands
    have hword : ∀ i : Fin 4, mailboxWord (putWords s.mailbox at_ new (writeOrder.filter (recordLands lands)))
        (at_ + BitVec.ofNat 16 (4 * i.val)) =
          if recordLands lands i = true then new[i] else mailboxWord s.mailbox (at_ + BitVec.ofNat 16 (4 * i.val)) := fun i => by
      have horder : i ∈ writeOrder := by revert i; decide
      rw [mailboxWord_putWords hm]
      simp [horder]
    refine ⟨fun a ha => mailboxByte_putWords_outside hm ha new _, fun i => ?_, fun hchanged i => ?_⟩
    · rw [hword]
      split
      · exact .inr rfl
      · exact .inl rfl
    · have hzero : recordLands lands 0 = true := by
        by_contra hzero
        have h := hword 0
        rw [if_neg hzero] at h
        exact hchanged (by simpa using h)
      have hall : recordLands lands i = true := by
        simp only [recordLands, if_true, Bool.and_eq_true] at hzero
        obtain ⟨⟨⟨h1, h2⟩, h3⟩, h0⟩ := hzero
        match i with
        | 0 | 1 | 2 | 3 => simp [recordLands, h0, h1, h2, h3]
      rw [hword, if_pos hall]
  · refine mailboxAfterReset_of_no_write (h.imp_right fun hlen => ?_)
    exact List.getElem?_eq_none hlen

end Sys2Proof.Machine

/-! Which conversions undo each other (R121 to R126, R130). -/

namespace Sys2Proof.Machine

/-! ## Words laid together from their parts (R118) -/

@[simp] theorem upper16_append (v : W16) (b : Byte) : upper16 (v ++ b) = v := BitVec.extractLsb'_append_eq_left

@[simp] theorem lowByte_append (v : W16) (b : Byte) : lowByte (v ++ b) = b := BitVec.extractLsb'_append_eq_right

@[simp] theorem upperByte_append (h l : Byte) : upperByte (h ++ l) = h := BitVec.extractLsb'_append_eq_left

@[simp] theorem lowerByte_append (h l : Byte) : lowerByte (h ++ l) = l := BitVec.extractLsb'_append_eq_right

/-- A W24 word is its upper 16 bits and its low byte. -/
theorem upper16_append_lowByte (v : W24) : upper16 v ++ lowByte v = v :=
  (BitVec.extractLsb'_append_extractLsb'_eq_extractLsb' rfl).trans BitVec.extractLsb'_eq_self

/-- A W24 word is its top byte and its lower 16 bits. -/
theorem topByte_append_toW16 (v : W24) : v.extractLsb' 16 8 ++ toW16 v = v :=
  (BitVec.extractLsb'_append_extractLsb'_eq_extractLsb' rfl).trans BitVec.extractLsb'_eq_self

/-! ## PACK and UNPACK (R125, R126) -/

/-- R126: the middle word of a pair gives the first element its low byte and the second one its top byte. -/
theorem unpackTriple_packPair (u v : W24) : unpackTriple (packPair u v).1 (packPair u v).2.1 (packPair u v).2.2 = (u, v) := by
  have hfirst : upper16 u ++ upperByte (lowByte u ++ v.extractLsb' 16 8) = u := by
    rw [upperByte_append, upper16_append_lowByte]
  have hsecond : lowerByte (lowByte u ++ v.extractLsb' 16 8) ++ toW16 v = v := by
    rw [lowerByte_append, topByte_append_toW16]
  exact Prod.ext hfirst hsecond

/-- R125: the bytes of the middle word, one in each element, come together again. -/
theorem packPair_unpackTriple (u v w : W16) : packPair (unpackTriple u v w).1 (unpackTriple u v w).2 = (u, v, w) := by
  have hmiddle : lowByte (u ++ upperByte v) ++ (lowerByte v ++ w).extractLsb' 16 8 = v := by
    rw [lowByte_append, BitVec.extractLsb'_append_eq_left, upperByte_append_lowerByte]
  exact Prod.ext (upper16_append u (upperByte v)) (Prod.ext hmiddle BitVec.extractLsb'_append_eq_right)

/-! ## SPLIT and JOIN (R128, R130) -/

theorem joinValue_even (j : Nat) (main residue : W16) : joinValue (2 * j) main residue = main ++ upperByte residue := by
  simp [joinValue]

theorem joinValue_odd (j : Nat) (main residue : W16) : joinValue (2 * j + 1) main residue = main ++ lowerByte residue := by
  have hodd : (2 * j + 1) % 2 = 1 := by omega
  simp [joinValue, hodd]

@[simp] theorem upperByte_completeResidue (h : W16) (low : Byte) : upperByte (completeResidue h low) = upperByte h :=
  upperByte_append ..

@[simp] theorem lowerByte_completeResidue (h : W16) (low : Byte) : lowerByte (completeResidue h low) = low :=
  lowerByte_append ..

/-- R130: the even element comes back whatever completed its residue word, the odd element's low byte or the pad byte. -/
theorem joinValue_split_even (j : Nat) (u : W24) (low : Byte) :
    joinValue (2 * j) (upper16 u) (completeResidue (halfResidue u) low) = u := by
  rw [joinValue_even, upperByte_completeResidue, upperByte_halfResidue, upper16_append_lowByte]

/-- R130: the odd element comes back from the lower byte of the residue word that it completed. -/
theorem joinValue_split_odd (j : Nat) (v : W24) (half : W16) :
    joinValue (2 * j + 1) (upper16 v) (completeResidue half (lowByte v)) = v := by
  rw [joinValue_odd, lowerByte_completeResidue, upper16_append_lowByte]

/-! ## Widening, narrowing and FILL (R121 to R123) -/

@[simp] theorem upper16_widen (v : W16) (pad : Byte) : upper16 (widen v pad) = v := upper16_append v pad

@[simp] theorem lowByte_widen (v : W16) (pad : Byte) : lowByte (widen v pad) = pad := lowByte_append v pad

theorem widen_toNat (v : W16) (pad : Byte) : (widen v pad).toNat = 256 * v.toNat + pad.toNat := by
  rw [widen, toNat_append_eq]
  omega

/-- R123: a FILL cuts its pattern as a narrowing COPY cuts its source, whatever the pad byte. -/
theorem fillValue_w16_eq_copyValue (pad : Byte) (pattern : W24) : fillValue .w16 pattern = copyValue .w24 .w16 pad pattern := rfl

/-- Settles O36: each conversion is undone by the one that reads its words. -/
theorem conversionsInvert : Obligations.ConversionsInvert := by
  refine ⟨unpackTriple_packPair, packPair_unpackTriple, fun j u v pad => ?_, fun v pad => ?_, fillValue_w16_eq_copyValue 0⟩
  · exact ⟨joinValue_split_even j u (lowByte v), joinValue_split_odd j v (halfResidue u), joinValue_split_even j u pad⟩
  · exact ⟨upper16_widen v pad, by rw [lowByte_widen], widen_toNat v 0⟩

end Sys2Proof.Machine

/-! Beats on their way from a channel to an arbiter and back (R105, R133 to R135). -/

namespace Sys2Proof.Machine

/-! ## Conflict beats (R135) -/

/-- A channel after `n` conflict beats are counted to it; an IDLE one has no count. -/
def Channel.addConflicts (n : Nat) : Channel → Channel
  | .idle => .idle
  | .running x => .running { x with conflictBeats := min (x.conflictBeats + n) Config.conflictLimit }
  | .ending x => .ending { x with conflictBeats := min (x.conflictBeats + n) Config.conflictLimit }

/-- The count stays at its limit, so counting in two goes is counting at once. -/
theorem Channel.addConflicts_addConflicts (m n : Nat) (ch : Channel) :
    (ch.addConflicts m).addConflicts n = ch.addConflicts (m + n) := by
  have hmin : ∀ k, min (min (k + m) Config.conflictLimit + n) Config.conflictLimit = min (k + (m + n)) Config.conflictLimit := by
    omega
  cases ch <;> simp [Channel.addConflicts, hmin]

theorem State.setChannel_self {s : State} {c : ChannelId} {ch : Channel} (h : s.channel c = ch) : s.setChannel c ch = s := by
  subst h
  simp [State.setChannel, State.channel]

@[simp] theorem State.setChannel_setChannel (s : State) (c : ChannelId) (x y : Channel) :
    (s.setChannel c x).setChannel c y = s.setChannel c y := by
  simp [State.setChannel]

theorem State.countConflict_eq (s : State) (c : ChannelId) : s.countConflict c = s.setChannel c ((s.channel c).addConflicts 1) := by
  unfold State.countConflict
  split
  · next h => exact (State.setChannel_self (by rw [h]; rfl)).symm
  · next h => rw [h]; rfl
  · next h => rw [h]; rfl

/-! ## A requested beat (R133, R135) -/

/-- The arbiter that a beat has reached: the beat waits last among those of its channel. -/
def Arbiter.joined (a : Arbiter) (b : Beat) (busy : Bool) : Arbiter :=
  setWaiting a b.channel (waitingOf a b.channel ++ [{ b with counted := busy }])

theorem State.requestBeat_of_free {s : State} {b : Beat} (h : (s.arbiter (arbiterOf b.target)).inService = none) :
    s.requestBeat b = s.setArbiter (arbiterOf b.target) ((s.arbiter (arbiterOf b.target)).joined b false) := by
  simp [State.requestBeat, Arbiter.joined, h]

theorem State.requestBeat_of_busy {s : State} {b : Beat} (h : (s.arbiter (arbiterOf b.target)).inService ≠ none) :
    s.requestBeat b =
      (s.setArbiter (arbiterOf b.target) ((s.arbiter (arbiterOf b.target)).joined b true)).setChannel b.channel
        ((s.channel b.channel).addConflicts 1) := by
  have hbusy : (s.arbiter (arbiterOf b.target)).inService.isSome = true := Option.isSome_iff_ne_none.2 h
  simp [State.requestBeat, Arbiter.joined, hbusy, State.countConflict_eq]

/-! ## A returned beat (R105, R133) -/

section

variable {s : State} {b : Beat} {x : Context} {run : StepRun} (o : BeatOutcome)

theorem State.beatReturns_of_not_running (h : ∀ x, s.channel b.channel ≠ .running x) : s.beatReturns b o = s := by
  unfold State.beatReturns
  split
  · next x hx => exact absurd hx (h x)
  · rfl
  · rfl

theorem State.beatReturns_of_no_step (hx : s.channel b.channel = .running x) (hstep : x.step = none) : s.beatReturns b o = s := by
  simp [State.beatReturns, hx, hstep]

/-- R105: the first beat left of an extent is the next to be requested, and the others keep their order. -/
theorem find?_erase_of_first {pre post : List Beat} {n : Beat} (hn : n.ext = b.ext) (hpre : ∀ m ∈ pre, m.ext ≠ b.ext) :
    (pre ++ n :: post).find? (fun m => decide (m.ext = b.ext)) = some n ∧ (pre ++ n :: post).erase n = pre ++ post := by
  have habsent : n ∉ pre := fun hmem => hpre n hmem hn
  have hnone : pre.find? (fun m => decide (m.ext = b.ext)) = none := by simpa using hpre
  exact ⟨by simp [hnone, hn], by rw [List.erase_append_right _ habsent, List.erase_cons_head]⟩

theorem State.beatReturns_next {pre post : List Beat} {n : Beat} (hx : s.channel b.channel = .running x) (hstep : x.step = some run)
    (hlater : run.later = pre ++ n :: post) (hn : n.ext = b.ext) (hpre : ∀ m ∈ pre, m.ext ≠ b.ext) :
    s.beatReturns b o =
      (s.setChannel b.channel
        (.running
          { x with step := some { run with later := pre ++ post, results := run.results ++ [⟨b.ext, b.pos, o⟩] } })).requestBeat n := by
  obtain ⟨hfind, herase⟩ := find?_erase_of_first (post := post) hn hpre
  simp only [State.beatReturns, hx, hstep, hlater, hfind, herase]

theorem State.beatReturns_waits (hx : s.channel b.channel = .running x) (hstep : x.step = some run)
    (hlater : ∀ m ∈ run.later, m.ext ≠ b.ext) (hout : 1 < run.outstanding) :
    s.beatReturns b o =
      s.setChannel b.channel
        (.running
          { x with
            step := some { run with outstanding := run.outstanding - 1, results := run.results ++ [⟨b.ext, b.pos, o⟩] } }) := by
  have hnone : run.later.find? (fun m => decide (m.ext = b.ext)) = none := by simpa using hlater
  simp only [State.beatReturns, hx, hstep, hnone, if_neg (Nat.not_le.2 hout)]

theorem State.beatReturns_ends_phase (hx : s.channel b.channel = .running x) (hstep : x.step = some run)
    (hlater : ∀ m ∈ run.later, m.ext ≠ b.ext) (hout : run.outstanding ≤ 1) :
    s.beatReturns b o =
      s.phaseEnded b.channel x { run with outstanding := 0, results := run.results ++ [⟨b.ext, b.pos, o⟩] } := by
  have hnone : run.later.find? (fun m => decide (m.ext = b.ext)) = none := by simpa using hlater
  simp only [State.beatReturns, hx, hstep, hnone, if_pos hout]

end

/-! ## The reach of a channel's own beats (R133) -/

/-- Of the whole part only the channel `c` and the lists of its waiting beats may have changed. -/
structure ReachesOwn (c : ChannelId) (s t : State) : Prop where
  frame : t = { s with channels := t.channels, ports := { s.ports with arbiters := t.ports.arbiters } }
  channel : ∀ c', c' ≠ c → t.channel c' = s.channel c'
  arbiter : ∀ i, t.arbiter i = setWaiting (s.arbiter i) c (waitingOf (t.arbiter i) c)

@[simp] theorem setWaiting_waitingOf (a : Arbiter) (c : ChannelId) : setWaiting a c (waitingOf a c) = a := by
  cases c <;> rfl

@[simp] theorem setWaiting_setWaiting (a : Arbiter) (c : ChannelId) (bs bs' : List Beat) :
    setWaiting (setWaiting a c bs) c bs' = setWaiting a c bs' := by
  cases c <;> rfl

@[simp] theorem setWaiting_lastGranted (a : Arbiter) (c : ChannelId) (bs : List Beat) :
    (setWaiting a c bs).lastGranted = a.lastGranted := by
  cases c <;> rfl

theorem ReachesOwn.refl (c : ChannelId) (s : State) : ReachesOwn c s s := ⟨rfl, fun _ _ => rfl, fun _ => by simp⟩

theorem ReachesOwn.trans {c : ChannelId} {s t u : State} (hst : ReachesOwn c s t) (htu : ReachesOwn c t u) : ReachesOwn c s u where
  frame := htu.frame.trans (by rw [hst.frame])
  channel c' hc := (htu.channel c' hc).trans (hst.channel c' hc)
  arbiter i := (htu.arbiter i).trans (by rw [hst.arbiter i, setWaiting_setWaiting])

theorem reachesOwn_setChannel (s : State) (c : ChannelId) (ch : Channel) : ReachesOwn c s (s.setChannel c ch) :=
  ⟨rfl, fun _ hc => State.channel_setChannel_other _ _ hc, fun i => by simp⟩

theorem reachesOwn_setWaiting (s : State) (c : ChannelId) (i : ArbiterId) (bs : List Beat) :
    ReachesOwn c s (s.setArbiter i (setWaiting (s.arbiter i) c bs)) := by
  refine ⟨rfl, fun _ _ => rfl, fun j => ?_⟩
  by_cases hj : j = i
  · subst hj
    simp
  · simp [hj]

theorem reachesOwn_requestBeat (s : State) (b : Beat) : ReachesOwn b.channel s (s.requestBeat b) := by
  by_cases h : (s.arbiter (arbiterOf b.target)).inService = none
  · rw [State.requestBeat_of_free h]
    exact reachesOwn_setWaiting ..
  · rw [State.requestBeat_of_busy h]
    exact (reachesOwn_setWaiting ..).trans (reachesOwn_setChannel ..)

section

variable {c : ChannelId}

theorem reachesOwn_requestBeats (s : State) {bs : List Beat} (h : ∀ b ∈ bs, b.channel = c) : ReachesOwn c s (s.requestBeats bs) := by
  unfold State.requestBeats
  induction bs generalizing s with
  | nil => exact .refl c s
  | cons b rest ih =>
    have hb : ReachesOwn c s (s.requestBeat b) := h b List.mem_cons_self ▸ reachesOwn_requestBeat s b
    exact hb.trans (ih _ fun m hm => h m (List.mem_cons_of_mem _ hm))

theorem contextBeat_channel {x : Context} {w : Bool} {n : ExtentName} {pos : Nat} {v : W24} {b : Beat}
    (h : contextBeat c x w n pos v = some b) : b.channel = c := by
  obtain ⟨_, -, rfl⟩ := Option.map_eq_some_iff.1 h
  rfl

theorem readBeats_channel (x : Context) : ∀ b ∈ readBeats c x, b.channel = c := fun b hb => by
  obtain ⟨_, -, hbeat⟩ := List.mem_filterMap.1 hb
  exact contextBeat_channel hbeat

theorem writeBeats_channel (x : Context) (rs : List BeatResult) : ∀ b ∈ writeBeats c x rs, b.channel = c := fun b hb => by
  obtain ⟨_, -, hbeat⟩ := List.mem_filterMap.1 hb
  exact contextBeat_channel hbeat

theorem earlyEndBeats_channel (x : Context) : ∀ b ∈ earlyEndBeats c x, b.channel = c := fun _ hb =>
  contextBeat_channel (Option.mem_toList.1 hb)

variable (s : State) (x : Context)

theorem reachesOwn_beginPhase (p : StepPhase) (rs : List BeatResult) {bs : List Beat} (h : ∀ b ∈ bs, b.channel = c) :
    ReachesOwn c s (s.beginPhase c x p rs bs) :=
  (reachesOwn_setChannel s c _).trans (reachesOwn_requestBeats _ fun b hb => h b (mem_of_mem_firstBeats hb))

theorem reachesOwn_beginStep : ReachesOwn c s (s.beginStep c x) := by
  unfold State.beginStep
  split
  · exact reachesOwn_beginPhase s x _ _ (writeBeats_channel x [])
  · exact reachesOwn_beginPhase s x _ _ (readBeats_channel x)

theorem reachesOwn_endTransfer (st : Status) (d : Detail) : ReachesOwn c s (s.endTransfer c x st d) := by
  unfold State.endTransfer
  dsimp only
  split
  · exact reachesOwn_setChannel ..
  · split
    · exact reachesOwn_beginPhase s _ _ _ (earlyEndBeats_channel _)
    · exact reachesOwn_setChannel ..

theorem reachesOwn_finishStep (w : Option W16) : ReachesOwn c s (s.finishStep c x w) := by
  unfold State.finishStep State.stepBoundary
  split
  · exact reachesOwn_setChannel ..
  · split
    · exact reachesOwn_endTransfer ..
    · split
      · exact reachesOwn_endTransfer ..
      · exact reachesOwn_beginStep ..

theorem reachesOwn_readsEnded (rs : List BeatResult) : ReachesOwn c s (s.readsEnded c x rs) := by
  have hwrites : ReachesOwn c s (s.beginPhase c x .writes rs (writeBeats c x rs)) :=
    reachesOwn_beginPhase s x _ _ (writeBeats_channel x rs)
  unfold State.readsEnded
  dsimp only
  split
  · exact reachesOwn_endTransfer ..
  · split
    · split
      · exact reachesOwn_finishStep ..
      · exact reachesOwn_endTransfer ..
    · split
      · exact reachesOwn_endTransfer ..
      · exact hwrites
    all_goals exact hwrites

theorem reachesOwn_writesEnded (rs : List BeatResult) : ReachesOwn c s (s.writesEnded c x rs) := by
  unfold State.writesEnded
  split
  · exact reachesOwn_endTransfer ..
  · exact reachesOwn_finishStep ..

theorem reachesOwn_phaseEnded (run : StepRun) : ReachesOwn c s (s.phaseEnded c x run) := by
  unfold State.phaseEnded
  split
  · exact reachesOwn_readsEnded ..
  · exact reachesOwn_writesEnded ..
  · exact reachesOwn_setChannel ..

end

/-- R133: a beat that returns to a step whose other beats are its channel's own reaches nothing of the other channel. -/
theorem reachesOwn_beatReturns {s : State} {b : Beat} {x : Context} {run : StepRun} (o : BeatOutcome)
    (hx : s.channel b.channel = .running x) (hstep : x.step = some run) (hown : ∀ m ∈ run.later, m.channel = b.channel) :
    ReachesOwn b.channel s (s.beatReturns b o) := by
  simp only [State.beatReturns, hx, hstep]
  split
  · next n hn =>
    have hn : n.channel = b.channel := hown n (List.mem_of_find?_eq_some hn)
    exact (reachesOwn_setChannel s b.channel _).trans (hn ▸ reachesOwn_requestBeat _ n)
  · split
    · exact reachesOwn_phaseEnded ..
    · exact reachesOwn_setChannel ..

/-- Settles O27: a request by whether its arbiter is free, a return by what is left of its extent and of its phase. -/
theorem requestedAndReturnedBeats : Obligations.RequestedAndReturnedBeats := by
  refine ⟨fun b s => ?_, fun b o s => ⟨s.beatReturns_of_not_running o, fun x hx hstep => s.beatReturns_of_no_step o hx hstep,
    fun x run hx hstep => ⟨?_, ?_, ?_, ?_⟩⟩⟩
  · intro i a counted joined
    have hjoined : ∀ busy, a.joined b busy = joined busy := fun busy => by
      simp only [joined, Arbiter.joined]
      cases b.channel <;> rfl
    have hcounted : (s.channel b.channel).addConflicts 1 = counted (s.channel b.channel) := by
      cases s.channel b.channel <;> rfl
    refine ⟨fun hfree => ?_, fun hbusy => ?_⟩
    · rw [State.requestBeat_of_free hfree, ← hjoined]
      rfl
    · rw [State.requestBeat_of_busy hbusy, hcounted, ← hjoined]
      rfl
  · exact fun pre n post hlater hn hpre => State.beatReturns_next o hx hstep hlater hn hpre
  · exact fun hlater hout => State.beatReturns_waits o hx hstep hlater hout
  · intro hlater hout
    have hends := State.beatReturns_ends_phase o hx hstep hlater hout
    refine ⟨fun hp => ?_, fun hp => ?_, fun hp => ?_⟩ <;> rw [hends, State.phaseEnded, hp]
  · intro hown t
    obtain ⟨hframe, hchannel, harbiter⟩ := reachesOwn_beatReturns o hx hstep hown
    refine ⟨hframe, hchannel, fun i => ?_⟩
    rw [harbiter i]
    exact ⟨setWaiting_inService .., setWaiting_lastGranted .., fun c hc => by rw [waitingOf_setWaiting, if_neg hc]⟩

end Sys2Proof.Machine

/-! The grant of an arbiter (R134 to R136, R142). -/

namespace Sys2Proof.Machine

/-! ## What outside agents write to a bank (R136) -/

/-- R136: after outside writes that fit the bank a word is that of the last write to it. -/
theorem outsideWrites_eq_some {b : BankId} {ws : List OutsideWrite} (h : ∀ w ∈ ws, w.wf b = true) (m : BankMemory) :
    ∃ m', outsideWrites b m ws = some m' ∧ ∀ o, bankWord m' o =
      match ws.reverse.find? (fun w => decide (w.offset = o)) with
      | some w => some ⟨w.value, w.parityGood⟩
      | none => bankWord m o := by
  induction ws generalizing m with
  | nil => exact ⟨m, rfl, fun _ => rfl⟩
  | cons w rest ih =>
    obtain ⟨hoff, hval⟩ : w.offset < Config.bankCapacity b ∧ w.value.toNat < 2 ^ Config.bankBits b := by
      simpa [OutsideWrite.wf] using h w List.mem_cons_self
    have hword : (BitVec.ofNat 24 (w.value.toNat % 2 ^ Config.bankBits b) : W24) = w.value := by
      rw [Nat.mod_eq_of_lt hval, BitVec.ofNat_toNat, BitVec.setWidth_eq]
    obtain ⟨m', hm', hread⟩ := ih (fun v hv => h v (List.mem_cons_of_mem _ hv)) (bankSet m w.offset ⟨w.value, w.parityGood⟩)
    refine ⟨m', by rw [outsideWrites, if_pos hoff, hword, hm'], fun o => ?_⟩
    rw [hread, List.reverse_cons, List.find?_append]
    cases rest.reverse.find? fun v => decide (v.offset = o) with
    | some v => rfl
    | none =>
      by_cases ho : w.offset = o
      · subst ho
        simp
      · simp [ho, bankWord_set_other _ _ (Ne.symm ho)]

/-- The banks at a grant: that of the granting arbiter has taken the outside writes. -/
def outsideLanded (i : ArbiterId) (ws : List OutsideWrite) (banks m : PerBank BankMemory) : Prop :=
  ∀ b o, bankWord (m.get b) o =
    match if i = .bank b then ws.reverse.find? (fun w => decide (w.offset = o)) else none with
    | some w => some ⟨w.value, w.parityGood⟩
    | none => bankWord (banks.get b) o

/-- Log entry 2: while a beat is in service nothing is granted. -/
theorem execBeatGrant_of_busy {i : ArbiterId} {s : State} (h : (s.arbiter i).inService ≠ none) (ws : List OutsideWrite) :
    execBeatGrant i ws s = .next s := by
  obtain ⟨beat, hbeat⟩ := Option.ne_none_iff_exists'.1 h
  unfold execBeatGrant
  rw [hbeat]

/-- R134, R136: a free arbiter takes the outside writes into its bank and grants. -/
theorem execBeatGrant_of_free {i : ArbiterId} {ws : List OutsideWrite} {s : State} (hfree : (s.arbiter i).inService = none)
    (hwf : (Instr.beatGrant i ws).wf = true) :
    ∃ m, outsideLanded i ws s.banks m ∧ execBeatGrant i ws s = .next ({ s with banks := m }.grantBeat i) := by
  unfold execBeatGrant
  rw [hfree]
  cases i with
  | xPort => exact ⟨s.banks, fun _ _ => rfl, rfl⟩
  | bank k =>
    obtain ⟨m', hm', hread⟩ := outsideWrites_eq_some (List.all_eq_true.1 hwf) (s.banks.get k)
    refine ⟨s.banks.set k m', fun b o => ?_, by simp only [hm']; rfl⟩
    by_cases hb : b = k
    · subst hb
      rw [PerBank.get_set_same, hread, if_pos rfl]
    · rw [PerBank.get_set_other _ _ hb, if_neg fun e => hb (ArbiterId.bank.inj e).symm]

/-! ## The granted beat and those that stay (R134, R135) -/

theorem ChannelId.eq_of_ne {c d other : ChannelId} (hd : d ≠ c) (hother : other ≠ c) : d = other := by
  cases c <;> cases d <;> cases other <;> trivial

/-- R134: with one channel waiting it is granted, with both the one not last granted. -/
theorem grantedChannel_eq_some {a : Arbiter} {c other : ChannelId} (hne : other ≠ c) (hc : waitingOf a c ≠ [])
    (h : waitingOf a other = [] ∨ a.lastGranted = other) : grantedChannel a = some c := by
  rcases grantedChannel_cases a with ⟨-, h0, h1⟩ | ⟨d, hd, hwaits, hturn⟩
  · exact absurd (by cases c; exacts [h0, h1]) hc
  · by_cases hdc : d = c
    · rw [hd, hdc]
    · obtain rfl : d = other := ChannelId.eq_of_ne hdc hne
      have hlast : a.lastGranted = d := h.resolve_left hwaits
      have hboth : a.waitC0 ≠ [] ∧ a.waitC1 ≠ [] := by
        cases d <;> cases c
        exacts [absurd rfl hdc, ⟨hwaits, hc⟩, ⟨hc, hwaits⟩, absurd rfl hdc]
      exact absurd hlast.symm (hturn hboth.1 hboth.2)

theorem grantedChannel_eq_none {a : Arbiter} (h0 : a.waitC0 = []) (h1 : a.waitC1 = []) : grantedChannel a = none := by
  simp [grantedChannel, h0, h1]

/-- A channel after the conflict beats of a grant, of which there may be none. -/
def Channel.counting (n : Nat) (ch : Channel) : Channel := if n = 0 then ch else ch.addConflicts n

theorem State.countConflicts_eq (s : State) (c : ChannelId) (n : Nat) :
    s.countConflicts c n = s.setChannel c ((s.channel c).counting n) := by
  induction n generalizing s with
  | zero => exact (State.setChannel_self rfl).symm
  | succ n ih =>
    rw [State.countConflicts, ih, State.countConflict_eq, State.setChannel_setChannel, State.channel_setChannel_same]
    cases n with
    | zero => rfl
    | succ n => simp [Channel.counting, Channel.addConflicts_addConflicts, Nat.add_comm]

/-- R134, R135, R142: what a grant to a channel leaves. -/
theorem State.grantBeat_of_granted {s : State} {i : ArbiterId} {c : ChannelId} (h : grantedChannel (s.arbiter i) = some c) :
    let rest := setWaiting (s.arbiter i) c (waitingOf (s.arbiter i) c).tail
    s.grantBeat i =
      { s with
        channels := ⟨s.channels.c0.counting (uncounted rest.waitC0), s.channels.c1.counting (uncounted rest.waitC1)⟩
        ports :=
          { s.ports with
            arbiters := s.ports.arbiters.set i (grantedArbiter (s.arbiter i) c)
            measuring := s.ports.measuring || decide (i = .xPort) } } := by
  simp only [State.grantBeat, h, State.countConflicts_eq]
  by_cases hi : i = .xPort
  · subst hi
    simp only [if_true, decide_true, Bool.or_true]
    rfl
  · simp only [hi, if_false, decide_false, Bool.or_false]
    rfl

/-- Settles O28: the outside writes land in the granting bank, and then the grant is that of `State.grantBeat`. -/
theorem beatGrantAlternates : Obligations.BeatGrantAlternates := by
  intro i ws s a waiting left marked fresh counted landed
  have hwaiting : ∀ c, waiting c = waitingOf a c := fun c => by cases c <;> rfl
  have hcounted : ∀ n ch, counted n ch = ch.counting n := fun n ch => by cases ch <;> rfl
  have hfresh : ∀ bs, fresh bs = uncounted bs := fun bs => by simp [fresh, uncounted]
  refine ⟨fun hbusy => execBeatGrant_of_busy hbusy ws, fun hfree hwf => ?_⟩
  obtain ⟨m, hm, hexec⟩ := execBeatGrant_of_free hfree hwf
  refine ⟨fun h0 h1 => ⟨m, hm, hexec.trans ?_⟩, fun c other hne hc hother => ⟨m, hm, hexec.trans ?_⟩⟩
  · have hnone : grantedChannel (({ s with banks := m } : State).arbiter i) = none := grantedChannel_eq_none h0 h1
    simp only [State.grantBeat, hnone]
  · rw [hwaiting] at hc hother
    have hgranted : grantedChannel (({ s with banks := m } : State).arbiter i) = some c := grantedChannel_eq_some hne hc hother
    rw [State.grantBeat_of_granted hgranted]
    simp only [hcounted, hfresh]
    cases c <;> rfl

end Sys2Proof.Machine

/-! The ends of the beats at the ports (R133, R138, R139, R141, R142). -/

namespace Sys2Proof.Machine

/-! ## A read at a bank (R138) -/

theorem bankRead_of_good {b : BankId} {m : BankMemory} {o : Nat} {w : BankWord} (h : bankWord m o = some w)
    (hgood : w.parityGood = true) : bankRead b m o = .value w.value := by
  simp [bankRead, h, hgood]

theorem bankRead_of_bad {b : BankId} {m : BankMemory} {o : Nat} {w : BankWord} (h : bankWord m o = some w)
    (hbad : w.parityGood = false) : bankRead b m o = .parityError := by
  simp [bankRead, h, hbad]

/-- Log entry 4: a word that nothing has written reads as some word of the bank's width, or as a parity error. -/
theorem bankRead_of_unwritten {b : BankId} {m : BankMemory} {o : Nat} (h : bankWord m o = none) :
    bankRead b m o = .parityError ∨ ∃ v : W24, v.toNat < 2 ^ Config.bankBits b ∧ bankRead b m o = .value v := by
  simp only [bankRead, h]
  split
  · refine .inr ⟨_, ?_, rfl⟩
    rw [BitVec.toNat_ofNat]
    exact (Nat.mod_le _ _).trans_lt (Nat.mod_lt _ (Nat.two_pow_pos _))
  · exact .inl rfl

/-! ## The four ends (R133, R141, R142) -/

theorem bankCapacity_eq (b : BankId) : Config.bankCapacity b = if b = .p0 ∨ b = .p1 then 16384 else 32768 := by
  cases b <;> rfl

section

variable {b : BankId} {s : State} {beat : Beat}

theorem execBeatEnd_of_free (h : (s.arbiter (.bank b)).inService = none) : execBeatEnd b s = .next s := by
  simp [execBeatEnd, h]

theorem execBeatEnd_of_write (h : (s.arbiter (.bank b)).inService = some beat) (hoff : beat.offset < Config.bankCapacity b)
    (hwrite : beat.isWrite = true) :
    execBeatEnd b s =
      .next (((s.freeArbiter (.bank b)).setBank b (bankSet (s.banks.get b) beat.offset ⟨beat.value, true⟩)).beatReturns beat
        .stored) := by
  simp [execBeatEnd, h, hoff, hwrite]

theorem execBeatEnd_of_read (h : (s.arbiter (.bank b)).inService = some beat) (hoff : beat.offset < Config.bankCapacity b)
    (hread : beat.isWrite = false) :
    execBeatEnd b s = .next ((s.freeArbiter (.bank b)).beatReturns beat (bankRead b (s.banks.get b) beat.offset)) := by
  simp [execBeatEnd, h, hoff, hread]

theorem execReady_of_free (h : (s.arbiter .xPort).inService = none) (d : DeviceId) (v : W24) : execReady d v s = .next s := by
  simp [execReady, h]

theorem execReady_of_other {d : DeviceId} (h : (s.arbiter .xPort).inService = some beat) (hd : beat.target ≠ .device d) (v : W24) :
    execReady d v s = .next s := by
  simp [execReady, h, hd]

theorem execReady_of_named {d : DeviceId} (h : (s.arbiter .xPort).inService = some beat) (hd : beat.target = .device d) (v : W24) :
    execReady d v s =
      .next (s.freeXPort.beatReturns beat (if beat.isWrite then .stored else .value (fitWidth beat.width v))) := by
  simp [execReady, h, hd]

theorem execReadyTimeout_of_free (h : (s.arbiter .xPort).inService = none) : execReadyTimeout s = .next s := by
  simp [execReadyTimeout, h]

theorem execReadyTimeout_of_busy (h : (s.arbiter .xPort).inService = some beat) :
    execReadyTimeout s = .next (s.freeXPort.beatReturns beat .timedOut) := by
  simp [execReadyTimeout, h]

end

/-- R141: a value in the width of a 16-bit device is its low 16 bits. -/
theorem fitWidth_w16 (v : W24) : fitWidth .w16 v = v &&& 0xFFFF#24 := by
  refine BitVec.eq_of_toNat_eq ?_
  rw [BitVec.toNat_and]
  calc (ofW16 (toW16 v)).toNat = (toW16 v).toNat := by rw [ofW16, toNat_append_eq]; simp
    _ = v.toNat % 2 ^ 16 := by simp [toW16]
    _ = v.toNat &&& 0xFFFF := (Nat.and_two_pow_sub_one_eq_mod v.toNat 16).symm

/-- Settles O29: the end of a bank beat by its direction and the word read, the end of a device beat by what answers it. -/
theorem beatsEnd : Obligations.BeatsEnd := by
  refine ⟨fun b s => ⟨execBeatEnd_of_free, ?_⟩, fun d v s => ⟨fun hfree => ?_, ?_⟩⟩
  · intro beat hbeat hoff freed
    rw [← bankCapacity_eq] at hoff
    refine ⟨fun hwrite => ?_, fun hread => ?_⟩
    · exact ⟨_, execBeatEnd_of_write hbeat hoff hwrite, bankWord_set_same .., fun o ho => bankWord_set_other _ _ ho⟩
    · have hend : ∀ {o}, bankRead b (s.banks.get b) beat.offset = o → exec (.beatEnd b) s = .next (freed.beatReturns beat o) :=
        fun ho => ho ▸ execBeatEnd_of_read hbeat hoff hread
      refine ⟨fun w hw hgood => hend (bankRead_of_good hw hgood), fun w hw hbad => hend (bankRead_of_bad hw hbad), fun hw => ?_⟩
      rcases bankRead_of_unwritten hw with hbad | ⟨v, hv, hgood⟩
      · exact .inl (hend hbad)
      · exact .inr ⟨v, hv, hend hgood⟩
  · exact ⟨execReady_of_free hfree d v, execReadyTimeout_of_free hfree⟩
  · intro beat hbeat freed
    refine ⟨fun hd => execReady_of_other hbeat hd v, fun hd => ?_, execReadyTimeout_of_busy hbeat⟩
    have hend : ∀ {o}, (if beat.isWrite then .stored else .value (fitWidth beat.width v)) = o →
        exec (.ready d v) s = .next (freed.beatReturns beat o) := fun ho => ho ▸ execReady_of_named hbeat hd v
    refine ⟨fun hwrite => hend (if_pos hwrite), fun hread hw => hend ?_, fun hread hw => hend ?_⟩
    · simp [hread, hw, fitWidth]
    · simp [hread, hw, fitWidth_w16]

end Sys2Proof.Machine

/-! What the commands leave of the completion rings, the holdoff timers and the M-port (R64, R146 to R157): frames for the laws of the
completion side. -/

namespace Sys2Proof.Machine

/-! ## The beats (R133) -/

/-- The commands of the ports, which reach the channels, the arbiters and the banks alone. -/
def isBeat : Instr → Bool
  | .beatGrant _ _ | .beatEnd _ | .ready _ _ | .readyTimeout => true
  | _ => false

/-- The command leaves the Control Unit, the Ring Manager, the Completion Writer, the Interrupt Coalescer and the M-port. -/
structure LeavesQueues (s t : State) : Prop where
  control : t.control = s.control
  ringManager : t.ringManager = s.ringManager
  writer : t.writer = s.writer
  coalescer : t.coalescer = s.coalescer
  mport : t.mport = s.mport

theorem LeavesQueues.refl (s : State) : LeavesQueues s s := ⟨rfl, rfl, rfl, rfl, rfl⟩

/-- R133, R134: a granted, ended or timed-out beat reaches no ring and no queue. -/
theorem exec_beat_leavesQueues {c : Instr} {s t : State} (hc : isBeat c = true) (h : exec c s = .next t) : LeavesQueues s t := by
  cases c with
  | beatGrant i ws =>
    simp only [exec, execBeatGrant] at h
    split at h
    · cases h
      exact .refl s
    · split at h
      · cases h
        constructor <;> simp
      · split at h <;> cases h
        constructor <;> simp
  | beatEnd b =>
    simp only [exec, execBeatEnd] at h
    split at h
    · cases h
      exact .refl s
    · split at h <;> cases h
      split <;> constructor <;> simp
  | ready d v =>
    simp only [exec, execReady] at h
    split at h <;> cases h
    · exact .refl s
    · split
      · constructor <;> simp
      · exact .refl s
  | readyTimeout =>
    simp only [exec, execReadyTimeout] at h
    split at h <;> cases h
    · exact .refl s
    · constructor <;> simp
  | _ => cases hc

/-! ## The ends of the accesses at the M-port (R63, R151, R153, R168, R172) -/

/-- The access in service has ended, with an error handed over or without, and nothing has come of it yet. -/
structure AccessEnded (s u : State) : Prop where
  control : u.control = s.control
  ringManager : u.ringManager = s.ringManager
  map : u.map = s.map
  channels : u.channels = s.channels
  coalescer : u.coalescer = s.coalescer
  canEnd : accessCanEnd s = true
  busy : s.mport.inService ≠ none
  free : u.mport.inService = none
  errors : ∃ es, es.length ≤ 1 ∧ u.mport.errors = s.mport.errors ++ es

theorem AccessEnded.ring {s u : State} (h : AccessEnded s u) (r : RingId) : u.ring r = s.ring r := by
  rw [State.ring, h.ringManager, State.ring]

section

variable {s : State}

/-- An access that ends without an error frees the port. -/
theorem accessEnded_freePort (hcan : accessCanEnd s = true) (hbusy : s.mport.inService ≠ none) (m : MailboxMemory) :
    AccessEnded s { s with mailbox := m }.freePort :=
  ⟨rfl, rfl, rfl, rfl, rfl, hcan, hbusy, rfl, [], by simp, (List.append_nil _).symm⟩

/-- R172: an access that ends with an error hands it over. -/
theorem accessEnded_reportFault {u : State} (h : AccessEnded s u) (he : u.mport.errors = s.mport.errors) (k : FaultKind)
    (a : MailboxAddr) : AccessEnded s (u.reportFault k a) :=
  ⟨h.control, h.ringManager, h.map, h.channels, h.coalescer, h.canEnd, h.busy, h.free, [⟨k, a⟩], by simp,
    by simp [State.reportFault, he]⟩

end

/-- R63, R172: the end of a fetch does nothing, or ends the access, after which the record may join. -/
theorem execFetchComplete_ends {host : List HostWrite} {ok : Bool} {s t : State} (h : execFetchComplete host ok s = .next t) :
    t = s ∨ ∃ u, AccessEnded s u ∧ u.writer = s.writer ∧ (t = u ∨ ∃ r req, t = u.joinRecord r req) := by
  unfold execFetchComplete at h
  split at h
  · next hservice hcan =>
    have hfree := accessEnded_freePort hcan (by simp [hservice]) (mailboxHost s.mailbox host)
    cases h
    refine .inr ?_
    split
    · exact ⟨_, hfree, rfl, .inl rfl⟩
    · split
      · exact ⟨_, hfree, rfl, .inl rfl⟩
      · exact ⟨_, accessEnded_reportFault hfree rfl _ _, rfl, .inl rfl⟩
    · split
      · exact ⟨_, hfree, rfl, .inr ⟨_, _, rfl⟩⟩
      · exact ⟨_, accessEnded_reportFault hfree rfl _ _, rfl, .inl rfl⟩
  · cases h
    exact .inl rfl

/-- R168, R172: the end of a setup read does nothing, or ends the access, after which, in LOADING, the block may be loaded. -/
theorem execSetupLoadEnd_ends {host : List HostWrite} {ok : Bool} {s t : State} (h : execSetupLoadEnd host ok s = .next t) :
    t = s ∨ ∃ u, AccessEnded s u ∧ u.writer = s.writer ∧ (t = u ∨ (s.control.part = .loading ∧ ∃ b, t = u.loadBlock b)) := by
  unfold execSetupLoadEnd at h
  split at h
  · next hservice hcan =>
    have hfree := accessEnded_freePort hcan (by simp [hservice]) (mailboxHost s.mailbox host)
    cases h
    refine .inr ?_
    split
    · exact ⟨_, hfree, rfl, .inl rfl⟩
    · split
      · exact ⟨_, accessEnded_reportFault hfree rfl _ _, rfl, .inl rfl⟩
      · split
        · next hpart => exact ⟨_, hfree, rfl, .inr ⟨hpart, _, rfl⟩⟩
        · exact ⟨_, hfree, rfl, .inl rfl⟩
  · cases h
    exact .inl rfl

/-- R151, R153, R172: the end of a completion write does nothing, or ends the access, or takes the written entry out of the post queue
too, after which, outside HALTED, the counts follow. -/
theorem execCompletionWrite_ends {result : WriteEnd} {s t : State} (h : execCompletionWrite result s = .next t) :
    t = s ∨ (AccessEnded s t ∧ t.writer = s.writer) ∨
      ∃ e u, writerEntry s = some e ∧ AccessEnded s u ∧
        u.writer = { s.writer with postQueue := s.writer.postQueue.eraseIdx (failedWrites s) } ∧
        t = if s.control.part = .halted then u else u.entryWritten e := by
  unfold execCompletionWrite at h
  split at h
  · next hservice hcan =>
    have hbusy : s.mport.inService ≠ none := by simp [hservice]
    have hfree := accessEnded_freePort hcan hbusy
    split at h
    · cases h
      exact .inr (.inl ⟨hfree s.mailbox, rfl⟩)
    · split at h
      · cases h
        exact .inr (.inl ⟨hfree s.mailbox, rfl⟩)
      · next e he =>
        cases result with
        | done =>
          simp only [Host.Outcome.next.injEq] at h
          refine .inr (.inr ⟨e, _, he, ?_, ?_, h.symm⟩)
          · exact ⟨rfl, rfl, rfl, rfl, rfl, hcan, hbusy, rfl, [], by simp, (List.append_nil _).symm⟩
          · rfl
        | failedAt i =>
          cases h
          refine .inr (.inl ⟨?_, rfl⟩)
          exact accessEnded_reportFault (s := s) (u := { s.freePort with mailbox := _, freeIndex := _ })
            ⟨rfl, rfl, rfl, rfl, rfl, hcan, hbusy, rfl, [], by simp, (List.append_nil _).symm⟩ rfl _ _
  · cases h
    exact .inl rfl

/-! ## What a ring keeps (R55, R74, R78) -/

/-- The ring keeps its directory entry and the reservation of its disposal. -/
structure ReserveKept (g g' : Ring) : Prop where
  dir : g'.dir = g.dir
  disposal : g'.disposalReserved = g.disposalReserved

theorem ReserveKept.refl (g : Ring) : ReserveKept g g := ⟨rfl, rfl⟩

theorem ReserveKept.of_eq {g g' : Ring} (h : g' = g) : ReserveKept g g' := h ▸ .refl g

theorem ReserveKept.trans {g g' g'' : Ring} (h : ReserveKept g g') (h' : ReserveKept g' g'') : ReserveKept g g'' :=
  ⟨h'.dir.trans h.dir, h'.disposal.trans h.disposal⟩

/-- Every ring keeps its directory entry and the reservation of its disposal. -/
def ReservesKept (s t : State) : Prop := ∀ r, ReserveKept (s.ring r) (t.ring r)

theorem ReservesKept.refl (s : State) : ReservesKept s s := fun _ => .refl _

theorem ReservesKept.trans {s t u : State} (h : ReservesKept s t) (h' : ReservesKept t u) : ReservesKept s u :=
  fun r => (h r).trans (h' r)

theorem ReservesKept.of_rings {s t : State} (h : t.ringManager.rings = s.ringManager.rings) : ReservesKept s t :=
  fun r => .of_eq (by rw [State.ring, h, State.ring])

theorem reservesKept_setRing {s : State} {r : RingId} {g : Ring} (h : ReserveKept (s.ring r) g) : ReservesKept s (s.setRing r g) := by
  intro r'
  rw [State.ring_setRing]
  split
  · next hr => exact hr ▸ h
  · exact .refl _

theorem reservesKept_refreshFlush (s : State) (r : RingId) : ReservesKept s (s.refreshFlush r) := by
  unfold State.refreshFlush
  split
  · exact reservesKept_setRing ⟨rfl, rfl⟩
  · exact .refl s

theorem reservesKept_enterStopped (s : State) (r : RingId) : ReservesKept s (s.enterStopped r) :=
  reservesKept_setRing (s := s) (r := r) (g := (s.ring r).enter .stopped) ⟨rfl, rfl⟩

theorem reservesKept_endFlush (s : State) (r : RingId) : ReservesKept s (s.endFlush r) :=
  reservesKept_setRing (s := s) (r := r) (g := { (s.ring r).enter .stopped with cause := .none }) ⟨rfl, rfl⟩

theorem reservesKept_joinRecord (s : State) (r : RingId) (req : FetchRequest) : ReservesKept s (s.joinRecord r req) := by
  have hjoined (p : Prefetched) :
      ReservesKept s (s.setRing r { s.ring r with queue := (s.ring r).queue ++ [p], fetch := (s.ring r).fetch + 1 }) :=
    reservesKept_setRing ⟨rfl, rfl⟩
  unfold State.joinRecord
  dsimp only
  split_ifs
  · exact hjoined _
  · exact (hjoined _).trans (reservesKept_refreshFlush _ r)
  · exact (hjoined _).trans (reservesKept_refreshFlush _ r)

theorem reservesKept_postApply (s : State) (r : RingId) (tail : Count) : ReservesKept s (s.postApply r tail) := by
  have htail : ReservesKept s (s.setRing r { s.ring r with tail := tail }) := reservesKept_setRing ⟨rfl, rfl⟩
  unfold State.postApply
  dsimp only
  split
  · exact htail.trans (reservesKept_setRing (s := s.setRing r { s.ring r with tail := tail }) ⟨rfl, rfl⟩)
  · exact htail

theorem reservesKept_handEntry (s : State) (e : Completion) : ReservesKept s (s.handEntry e) := fun r => by
  rcases s.handEntry_ring e r with h | ⟨-, h⟩ <;> rw [h]
  · exact .refl _
  · exact ⟨rfl, rfl⟩

theorem reservesKept_setWaits (s : State) : ReservesKept s s.setWaits := fun r => by
  rw [State.setWaits_ring, examinedRing]
  split
  · exact ⟨rfl, rfl⟩
  · exact .refl _

theorem reservesKept_recordWritten (s : State) (r : RingId) : ReservesKept s (s.recordWritten r) := by
  have hlowered : ReservesKept s (s.setRing r { s.ring r with inFlight := (s.ring r).inFlight - 1 }) :=
    reservesKept_setRing ⟨rfl, rfl⟩
  unfold State.recordWritten
  dsimp only
  split_ifs
  · exact hlowered.trans (reservesKept_enterStopped _ r)
  · exact hlowered.trans (reservesKept_endFlush _ r)
  · exact hlowered

theorem reservesKept_entryWritten (s : State) (e : Completion) : ReservesKept s (s.entryWritten e) := fun r => by
  rw [State.entryWritten_ring]
  exact reservesKept_recordWritten (s.setCq e.cq (cqAfterWrite (s.cq e.cq))) e.ring r

theorem reservesKept_handOff (s : State) (c : ChannelId) (x : Context) (e : Ending) : ReservesKept s (s.handOff c x e) := fun r => by
  have hring : (s.handOff c x e).ring r = (s.handEntry (channelCompletion s x e)).ring r := by
    rw [State.ring, State.handOff_ringManager_eq, State.ring]
  exact hring ▸ reservesKept_handEntry s (channelCompletion s x e) r

/-! ## The commands that leave the completion rings (R146, R147) -/

/-- The commands that can change a completion ring, or the reservation that a disposal holds. -/
def reachesCqs : Instr → Bool
  | .powerOnReset | .softReset _ | .setupLoadEnd _ _ | .examination | .flushDisposal _ | .completionWrite _ | .post _ _ | .ack _ _ => true
  | _ => false

/-- The command leaves the completion rings, and no ring's disposal takes a reservation or gives one back. -/
structure LeavesCqs (s t : State) : Prop where
  cqs : t.writer.cqs = s.writer.cqs
  rings : ReservesKept s t

theorem LeavesCqs.of_blocks {s t : State} (hcqs : t.writer.cqs = s.writer.cqs) (hrings : t.ringManager.rings = s.ringManager.rings) :
    LeavesCqs s t :=
  ⟨hcqs, .of_rings hrings⟩

theorem LeavesCqs.cq {s t : State} (h : LeavesCqs s t) (c : CqId) : t.cq c = s.cq c := by rw [State.cq, h.cqs, State.cq]

theorem exec_leavesCqs {c : Instr} {s t : State} (hc : reachesCqs c = false) (h : exec c s = .next t) : LeavesCqs s t := by
  cases c with
  | powerOnReset | softReset | setupLoadEnd | examination | flushDisposal | completionWrite | post | ack => cases hc
  | controlMaskWrite | controlUnknownCommand | select | ringctlUnknownCommand | setupWrite | statusWrite | intstatWrite =>
    cases h
    exact .of_blocks rfl rfl
  | enable | quiesce | abort | resume | fetchRequest | mPortGrant | holdoffExpiry =>
    cases h
    apply LeavesCqs.of_blocks <;> split_ifs <;> simp
  | stop r =>
    cases h
    refine ⟨by split_ifs <;> simp, ?_⟩
    split_ifs
    · exact reservesKept_enterStopped (s.selectRing r) r
    · exact reservesKept_setRing (s := s.selectRing r) ⟨rfl, rfl⟩
    · exact .refl s
  | ringResume r =>
    cases h
    refine ⟨by split_ifs <;> simp, ?_⟩
    split_ifs
    · exact reservesKept_setRing (s := s.selectRing r) ⟨rfl, rfl⟩
    · exact reservesKept_setRing (s := s.selectRing r) ⟨rfl, rfl⟩
    · exact .refl s
  | flush r =>
    cases h
    have hflushing : ReservesKept s
        ((s.selectRing r).setRing r { (s.ring r).enter .flushing with flushTarget := (s.ring r).tail }) :=
      reservesKept_setRing (s := s.selectRing r) ⟨rfl, rfl⟩
    refine ⟨by split_ifs <;> simp, ?_⟩
    split_ifs
    · exact hflushing.trans (reservesKept_endFlush _ r)
    · exact hflushing.trans (reservesKept_refreshFlush _ r)
    · exact .refl s
  | ringReset r =>
    cases h
    refine ⟨by split_ifs <;> simp, ?_⟩
    split_ifs
    · exact reservesKept_setRing (s := s.selectRing r) ⟨rfl, rfl⟩
    · exact .refl s
  | fetchComplete host ok =>
    rcases execFetchComplete_ends h with rfl | ⟨u, hended, hwriter, rfl | ⟨r, req, rfl⟩⟩
    · exact ⟨rfl, .refl _⟩
    · exact .of_blocks (by rw [hwriter]) (by rw [hended.ringManager])
    · exact ⟨by rw [State.joinRecord_writer, hwriter],
        (ReservesKept.of_rings (by rw [hended.ringManager])).trans (reservesKept_joinRecord u r req)⟩
  | mailboxFault =>
    simp only [exec, execMailboxFault] at h
    split at h <;> cases h
    · exact ⟨rfl, .refl _⟩
    · split <;> exact .of_blocks (by simp [State.loseEntry_writer]) (by simp)
  | handOff c =>
    rcases execHandOff_cases h with rfl | ⟨x, e, -, rfl⟩
    · exact ⟨rfl, .refl _⟩
    · exact ⟨by rw [State.handOff_writer], reservesKept_handOff s c x e⟩
  | beatGrant | beatEnd | ready | readyTimeout =>
    have hleaves := exec_beat_leavesQueues rfl h
    exact .of_blocks (by rw [hleaves.writer]) (by rw [hleaves.ringManager])

end Sys2Proof.Machine

/-! The reservations of the completion rings (R74, R76, R148): which records hold one, and what moves them. -/

namespace Sys2Proof.Machine

/-! ## Which records hold a reservation (R148) -/

/-- The completion ring in which the records of a submission ring complete (R55). -/
def State.cqOf (s : State) (r : RingId) : CqId := (s.ring r).dir.cq

/-- The rings whose FLUSHED disposal waits with its reservation (R74). -/
def State.disposers (s : State) : List RingId := allRings.filter fun r => (s.ring r).disposalReserved

/-- The rings whose records hold a reservation outside the post queue: on a channel, as the pending switch, and as a waiting disposal. -/
def State.reservers (s : State) : List RingId :=
  transferRings s.transfers ++ s.map.pendingSwitch.toList.map (·.ring) ++ s.disposers

/-- The completion rings of the records that hold a reservation, one for each record. -/
def State.holders (s : State) : List CqId := s.reservers.map s.cqOf ++ s.writer.postQueue.map (·.cq)

theorem reservationsHeld_eq_count (s : State) (c : CqId) : reservationsHeld s c = s.holders.count c := by
  have hqueue : (s.writer.postQueue.filter fun e => decide (e.cq = c)).length = (s.writer.postQueue.map (·.cq)).count c := by
    rw [List.count, List.countP_map, List.countP_eq_length_filter]
    rfl
  have hchannel (ch : Channel) :
      (match ch.context with
        | some x => if (s.ring x.ring).dir.cq = c then 1 else 0
        | none => 0) = (ch.transfer.toList.map fun x => s.cqOf x.ring).count c := by
    cases ch <;> simp [Channel.context, Context.transfer, State.cqOf, List.count_singleton]
  have hswitch :
      (match s.map.pendingSwitch with
        | some w => if (s.ring w.ring).dir.cq = c then 1 else 0
        | none => 0) = (s.map.pendingSwitch.toList.map fun w => s.cqOf w.ring).count c := by
    cases s.map.pendingSwitch <;> simp [State.cqOf, List.count_singleton]
  have hwaiting (r : RingId) :
      (if (s.ring r).disposalReserved = true ∧ (s.ring r).dir.cq = c then 1 else 0) =
        (([r].filter fun r => (s.ring r).disposalReserved).map s.cqOf).count c := by
    cases hr : (s.ring r).disposalReserved <;> simp [hr, State.cqOf, List.count_singleton]
  have hdisposers : (s.disposers.map s.cqOf).count c = (([.sq0].filter fun r => (s.ring r).disposalReserved).map s.cqOf).count c +
      (([.sq1].filter fun r => (s.ring r).disposalReserved).map s.cqOf).count c +
      (([.sq2].filter fun r => (s.ring r).disposalReserved).map s.cqOf).count c +
      (([.sq3].filter fun r => (s.ring r).disposalReserved).map s.cqOf).count c := by
    rw [← List.count_append, ← List.count_append, ← List.count_append, ← List.map_append, ← List.map_append, ← List.map_append,
      ← List.filter_append, ← List.filter_append, ← List.filter_append]
    rfl
  have hsum := congrArg₂ (· + ·)
    (congrArg₂ (· + ·) (congrArg₂ (· + ·) (congrArg₂ (· + ·) (hchannel s.channels.c0) (hchannel s.channels.c1)) hqueue) hswitch)
    (congrArg₂ (· + ·) (congrArg₂ (· + ·) (congrArg₂ (· + ·) (hwaiting .sq0) (hwaiting .sq1)) (hwaiting .sq2)) (hwaiting .sq3))
  calc reservationsHeld s c = _ := hsum
    _ = s.holders.count c := by
      simp only [State.holders, State.reservers, transferRings, State.transfers, List.map_append, List.map_map, List.count_append,
        hdisposers, Function.comp_def]
      omega

theorem State.disposers_congr {s t : State} (h : ReservesKept s t) : t.disposers = s.disposers := by
  simp only [State.disposers, (h _).disposal]

theorem State.cqOf_congr {s t : State} (h : ReservesKept s t) : t.cqOf = s.cqOf :=
  funext fun r => congrArg RingDirectory.cq (h r).dir

/-- A record that comes to stand elsewhere, with no reservation taken or given back by a disposal. -/
theorem State.holders_eq {s t : State} (h : ReservesKept s t) :
    t.holders = (transferRings t.transfers ++ t.map.pendingSwitch.toList.map (·.ring) ++ s.disposers).map s.cqOf ++
      t.writer.postQueue.map (·.cq) := by
  rw [State.holders, State.reservers, State.cqOf_congr h, State.disposers_congr h]

theorem State.holders_congr {s t : State} (h : ReservesKept s t) (htransfers : t.transfers = s.transfers)
    (hqueue : t.writer.postQueue = s.writer.postQueue) (hswitch : t.map.pendingSwitch = s.map.pendingSwitch) : t.holders = s.holders := by
  rw [State.holders_eq h, htransfers, hqueue, hswitch]
  rfl

/-- R148: nothing holds a reservation where nothing stands anywhere and no disposal has taken one. -/
theorem State.holders_eq_nil {s : State} (hstanding : s.standing = []) (hdisposal : ∀ r, (s.ring r).disposalReserved = false) :
    s.holders = [] := by
  simp only [State.standing, List.append_eq_nil_iff, List.map_eq_nil_iff] at hstanding
  obtain ⟨htransfers, hqueue, hswitch⟩ := hstanding
  simp [State.holders, State.reservers, State.disposers, htransfers, hqueue, hswitch, hdisposal]

/-! ## Disposals that take their reservation, and give it back (R74, R76) -/

/-- The rings of a list without repetitions that meet a condition, when one more of them does. -/
theorem filter_perm_cons {α : Type} [DecidableEq α] {l : List α} (hl : l.Nodup) {a : α} (ha : a ∈ l) {p q : α → Bool}
    (hp : p a = false) (hq : q a = true) (hsame : ∀ b, b ≠ a → q b = p b) : (l.filter q).Perm (a :: l.filter p) := by
  have hrest : (l.erase a).filter q = (l.erase a).filter p :=
    List.filter_congr fun b hb => hsame b ((hl.mem_erase_iff).1 hb).1
  have hperm := List.perm_cons_erase ha
  have hmore := hperm.filter q
  have hless := hperm.filter p
  rw [List.filter_cons_of_pos hq, hrest] at hmore
  rw [List.filter_cons_of_neg (by simp [hp])] at hless
  exact hmore.trans (hless.symm.cons a)

theorem mem_allRings (r : RingId) : r ∈ allRings := by cases r <;> decide

/-- R74: one more disposal has its reservation. -/
theorem State.disposers_perm_cons {s t : State} {r : RingId} (hfalse : (s.ring r).disposalReserved = false)
    (htrue : (t.ring r).disposalReserved = true) (hother : ∀ r', r' ≠ r → t.ring r' = s.ring r') :
    t.disposers.Perm (r :: s.disposers) :=
  filter_perm_cons (by decide) (mem_allRings r) hfalse htrue fun r' hr => by rw [hother r' hr]

/-- R74: with one more disposal reserved and nothing else moved, one more record holds a reservation. -/
theorem State.holders_perm_cons {s t : State} {r : RingId} (hfalse : (s.ring r).disposalReserved = false)
    (htrue : (t.ring r).disposalReserved = true) (hother : ∀ r', r' ≠ r → t.ring r' = s.ring r') (hdir : (t.ring r).dir = (s.ring r).dir)
    (htransfers : t.transfers = s.transfers) (hqueue : t.writer.postQueue = s.writer.postQueue)
    (hswitch : t.map.pendingSwitch = s.map.pendingSwitch) : t.holders.Perm (s.cqOf r :: s.holders) := by
  have hcq : t.cqOf = s.cqOf := funext fun r' => by
    by_cases hr : r' = r
    · rw [hr]
      exact congrArg RingDirectory.cq hdir
    · rw [State.cqOf, hother r' hr, State.cqOf]
  have hreservers : t.reservers.Perm (r :: s.reservers) := by
    rw [State.reservers, htransfers, hswitch]
    exact ((disposers_perm_cons hfalse htrue hother).append_left _).trans List.perm_middle
  rw [State.holders, State.holders, hcq, hqueue]
  exact (hreservers.map _).append_right _

/-! ## The law of the reservations (R148) -/

/-- A completion ring against the number of records that hold a reservation of it (R148). -/
structure CqCovers (q : CompletionRing) (n : Nat) : Prop where
  bounded : q.reservations + cqUsed q ≤ depthOf q.depthCode
  covered : n ≤ q.reservations

/-- Every completion ring covers the records that hold a reservation of it. -/
def Covers (cq : CqId → CompletionRing) (l : List CqId) : Prop := ∀ c, CqCovers (cq c) (l.count c)

theorem reservationLaw_iff (s : State) :
    reservationLaw s ↔ quietWhenOff s ∧ s.map.retiring.isSome = s.map.pendingSwitch.isSome ∧ Covers s.cq s.holders := by
  simp only [reservationLaw, Covers, reservationsHeld_eq_count]
  refine and_congr_right fun _ => and_congr_right fun _ => forall_congr' fun c => ?_
  exact ⟨fun h => ⟨h.1, h.2⟩, fun h => ⟨h.1, h.2⟩⟩

section

variable {cq cq' : CqId → CompletionRing} {l l' : List CqId} {c : CqId}

/-- No completion ring changes, and no record takes a reservation. -/
theorem Covers.kept (h : Covers cq l) (hcq : ∀ c, cq' c = cq c) (hl : l'.Subperm l) : Covers cq' l' := fun c => by
  rw [hcq]
  exact ⟨(h c).bounded, (hl.count_le c).trans (h c).covered⟩

/-- R148: a reservation is taken with room for it, for one record more at most. -/
theorem Covers.taken (h : Covers cq l) (hroom : cqHasRoom (cq c) = true)
    (hcq : cq' c = { cq c with reservations := (cq c).reservations + 1 }) (hother : ∀ c', c' ≠ c → cq' c' = cq c')
    (hl : l'.Subperm (c :: l)) : Covers cq' l' := fun c' => by
  have hcount := hl.count_le c'
  obtain ⟨hbounded, hcovered⟩ := h c'
  by_cases hc : c' = c
  · subst hc
    have hless : (cq c').reservations + cqUsed (cq c') < depthOf (cq c').depthCode := of_decide_eq_true hroom
    rw [List.count_cons_self] at hcount
    have hused : cqUsed (cq' c') = cqUsed (cq c') := by rw [hcq]; rfl
    refine ⟨?_, ?_⟩
    · rw [hused, hcq]
      dsimp only
      omega
    · rw [hcq]
      dsimp only
      omega
  · rw [List.count_cons_of_ne (Ne.symm hc)] at hcount
    rw [hother c' hc]
    exact ⟨hbounded, hcount.trans hcovered⟩

/-- R76: a record gives its reservation back. -/
theorem Covers.givenBack (h : Covers cq l) (hcq : cq' c = { cq c with reservations := (cq c).reservations - 1 })
    (hother : ∀ c', c' ≠ c → cq' c' = cq c') (hl : l.Perm (c :: l')) : Covers cq' l' := fun c' => by
  have hcount := hl.count_eq c'
  obtain ⟨hbounded, hcovered⟩ := h c'
  by_cases hc : c' = c
  · subst hc
    rw [List.count_cons_self] at hcount
    have hused : cqUsed (cq' c') = cqUsed (cq c') := by rw [hcq]; rfl
    refine ⟨?_, ?_⟩
    · rw [hused, hcq]
      dsimp only
      omega
    · rw [hcq]
      dsimp only
      omega
  · rw [List.count_cons_of_ne (Ne.symm hc)] at hcount
    rw [hother c' hc]
    exact ⟨hbounded, hcount ▸ hcovered⟩

/-- R147: one record more is written and not handed back. -/
theorem cqUsed_cqAfterWrite_le (q : CompletionRing) : cqUsed (cqAfterWrite q) ≤ cqUsed q + 1 := by
  unfold cqUsed cqAfterWrite Count.since
  dsimp only
  bv_omega

/-- R151: a record is written, and its reservation passes into the tail. -/
theorem Covers.written (h : Covers cq l) (hcq : cq' c = cqAfterWrite (cq c)) (hother : ∀ c', c' ≠ c → cq' c' = cq c')
    (hl : l.Perm (c :: l')) : Covers cq' l' := fun c' => by
  have hcount := hl.count_eq c'
  obtain ⟨hbounded, hcovered⟩ := h c'
  by_cases hc : c' = c
  · subst hc
    rw [List.count_cons_self] at hcount
    have hused := cqUsed_cqAfterWrite_le (cq c')
    have hreservations : (cqAfterWrite (cq c')).reservations = (cq c').reservations - 1 := rfl
    have hdepth : (cqAfterWrite (cq c')).depthCode = (cq c').depthCode := rfl
    rw [hcq]
    exact ⟨by rw [hdepth]; omega, by omega⟩
  · rw [List.count_cons_of_ne (Ne.symm hc)] at hcount
    rw [hother c' hc]
    exact ⟨hbounded, hcount ▸ hcovered⟩

/-- R155: written records are handed back. -/
theorem Covers.acked (h : Covers cq l) {head : Count} (hhead : head.since (cq c).head ≤ cqUsed (cq c))
    (hcq : cq' c = { cq c with head := head }) (hother : ∀ c', c' ≠ c → cq' c' = cq c') : Covers cq' l := fun c' => by
  obtain ⟨hbounded, hcovered⟩ := h c'
  by_cases hc : c' = c
  · subst hc
    have hused : cqUsed (cq' c') ≤ cqUsed (cq c') := by
      rw [hcq]
      unfold cqUsed Count.since at hhead ⊢
      dsimp only
      bv_omega
    rw [hcq] at hused ⊢
    exact ⟨(Nat.add_le_add_left hused _).trans hbounded, hcovered⟩
  · rw [hother c' hc]
    exact ⟨hbounded, hcovered⟩

/-- Nothing holds a reservation, and none is counted. -/
theorem Covers.empty (hzero : ∀ c, (cq c).reservations = 0) (hused : ∀ c, cqUsed (cq c) = 0) : Covers cq [] := fun c =>
  ⟨by simp [hzero, hused], by simp⟩

end

end Sys2Proof.Machine

/-! Every step keeps the reservations of a completion ring within its depth, and covers the records that will complete there (R74, R76,
R148). -/

namespace Sys2Proof.Machine

/-! ## OFF and LOADING (R103, R150, R165) -/

theorem quietWhenOff_iff (s : State) :
    quietWhenOff s ↔
      (s.control.part = .off ∨ s.control.part = .loading → (∀ r, (s.ring r).phase = .disabled) ∧ s.standing = []) := by
  rw [quietWhenOff, State.standing_eq_nil_iff]

/-- In a part that was OFF or LOADING, no record has come to stand anywhere and no ring has left DISABLED. -/
theorem LeavesRecords.quiet {s t : State} (h : LeavesRecords s t) (htransfers : t.transfers = s.transfers) (hmap : t.map = s.map)
    (hs : (∀ r, (s.ring r).phase = .disabled) ∧ s.standing = []) : (∀ r, (t.ring r).phase = .disabled) ∧ t.standing = [] :=
  ⟨fun r => (h.rings r).disabled (hs.1 r), (State.standing_congr htransfers h.postQueue (by rw [hmap])).trans hs.2⟩

/-- R165: every command keeps a part in OFF and LOADING quiet. -/
theorem exec_quietWhenOff {c : Instr} {s t : State} (hs : quietWhenOff s) (h : exec c s = .next t) : quietWhenOff t := by
  rw [quietWhenOff_iff] at hs ⊢
  intro hpart
  cases c with
  | powerOnReset | softReset =>
    cases h
    exact ⟨fun r => congrArg Ring.phase (PerRing.get_all Ring.reset r), (State.standing_eq_nil_iff _).2 ⟨rfl, rfl, rfl⟩⟩
  | setupLoadEnd host ok =>
    rcases execSetupLoadEnd_records h with ⟨hrecords, hleaves⟩ | ⟨-, u, b, -, -, -, rfl⟩
    · exact hrecords.quiet (State.transfers_congr hleaves.channels) hleaves.map (hs (hleaves.stage.1 hpart))
    · simp [State.finishLoad] at hpart
  | mailboxFault =>
    rcases execMailboxFault_cases h with rfl | ⟨hhalted, -⟩
    · exact hs hpart
    · simp [hhalted] at hpart
  | examination =>
    cases h
    split at hpart
    · next hnone =>
      rw [if_pos hnone]
      exact hs hpart
    · next hworking => exact absurd (by simpa using hpart) (not_or.1 hworking).2
  | handOff c =>
    rcases execHandOff_cases h with rfl | ⟨x, e, hx, rfl⟩
    · exact hs hpart
    · have hidle := ((State.standing_eq_nil_iff s).1 (hs ((s.handOff_leaves c x e).1.stage.1 hpart)).2).2.1
      exact absurd (hx.symm.trans ((channelsIdle_iff s).1 hidle c)) nofun
  | flushDisposal r =>
    have hquiet := hs ((exec_leavesTables (c := .flushDisposal r) rfl h).stage.1 hpart)
    have hphase : (s.ring r).phase ≠ .flushing := by simp [hquiet.1 r]
    cases h
    split
    · exact hquiet
    · rw [if_pos (.inr hphase)]
      exact hquiet
  | completionWrite result =>
    rcases execCompletionWrite_cases h with ⟨hrecords, hleaves⟩ | ⟨e, u, he, hcontrol, -, -, -, -, rfl⟩
    · exact hrecords.quiet (State.transfers_congr hleaves.channels) hleaves.map (hs (hleaves.stage.1 hpart))
    · have hquiet := hs (by
        rw [← hcontrol]
        split at hpart
        · exact hpart
        · rwa [State.entryWritten_control] at hpart)
      simp [writerEntry, ((State.standing_eq_nil_iff s).1 hquiet.2).1] at he
  | _ =>
    have hquiet := hs ((exec_leavesTables rfl h).stage.1 hpart)
    have hstopped (r : RingId) (hp : (s.ring r).phase = .stopped) : (s.ring r).inFlight = 0 := by simp [hquiet.1 r] at hp
    exact (exec_leavesRecords rfl hstopped h).quiet (exec_transfers_kept rfl h) (exec_map_kept rfl h) hquiet

/-! ## Records that move with their reservations -/

theorem LeavesCqs.covers {s t : State} (h : LeavesCqs s t) (hs : Covers s.cq s.holders) (hl : t.holders.Subperm s.holders) :
    Covers t.cq t.holders :=
  hs.kept h.cq hl

theorem LeavesCqs.covers_of_same {s t : State} (h : LeavesCqs s t) (hs : Covers s.cq s.holders) (htransfers : t.transfers = s.transfers)
    (hqueue : t.writer.postQueue = s.writer.postQueue) (hswitch : t.map.pendingSwitch = s.map.pendingSwitch) : Covers t.cq t.holders :=
  h.covers hs (State.holders_congr h.rings htransfers hqueue hswitch ▸ List.Subperm.refl _)

/-- R149: a handed entry holds a reservation of the completion ring it names. -/
theorem State.handEntry_holders (s : State) (e : Completion) : (s.handEntry e).holders.Perm (e.cq :: s.holders) := by
  have htransfers : (s.handEntry e).transfers = s.transfers := State.transfers_congr (s.handEntry_channels e)
  have hqueue : (s.handEntry e).writer.postQueue.map (·.cq) = s.writer.postQueue.map (·.cq) ++ [e.cq] := by simp
  rw [State.holders_eq (reservesKept_handEntry s e), htransfers, hqueue, State.handEntry_map, ← List.append_assoc]
  exact List.perm_append_singleton ..

/-- R96, R99, R100: the record carried out holds a reservation of its ring's completion ring, wherever it comes to stand. -/
theorem State.carryOut_holders {s : State} {r : RingId} (p : Prefetched) {plan : Plan}
    (hfree : ∀ k a b c d, plan = .transfer k a b c d → s.channel (freeChannel s) = .idle)
    (hnone : plan = .mapswitch → s.map.pendingSwitch = none) : (s.carryOut r p plan).holders.Perm (s.cqOf r :: s.holders) := by
  have hcompleted (m : MapUnit) (st : Status) (d : Detail) (hm : m.pendingSwitch = s.map.pendingSwitch) :
      ((s.setMap m).completeHead r p st d).holders.Perm (s.cqOf r :: s.holders) := by
    have hsame : (s.setMap m).holders = s.holders := State.holders_congr (.of_rings rfl) rfl rfl hm
    exact hsame ▸ State.handEntry_holders (s.setMap m) _
  cases plan with
  | refuse st d => exact hcompleted s.map st d rfl
  | complete => exact hcompleted s.map .ok .none rfl
  | mapset i e => exact hcompleted _ .ok .none rfl
  | maprevert => exact hcompleted _ .ok .none rfl
  | mapswitch =>
    simp only [State.carryOut]
    split
    · next hbound =>
      have hafter : (s.setMap (mapAfterSwitch s.map ⟨r, p.slot, p.record.tag⟩)).holders =
          (transferRings s.transfers ++ r :: s.disposers).map s.cqOf ++ s.writer.postQueue.map (·.cq) := by
        have hrings (m : MapUnit) : ReservesKept s (s.setMap m) := .of_rings rfl
        rw [State.holders_eq (hrings _)]
        simp [mapAfterSwitch, hbound, State.transfers]
      have hbefore : s.holders = (transferRings s.transfers ++ s.disposers).map s.cqOf ++ s.writer.postQueue.map (·.cq) := by
        simp [State.holders, State.reservers, hnone rfl]
      rw [hafter, hbefore]
      exact (List.perm_middle.map s.cqOf).append_right _
    · next hbound => exact hcompleted _ .ok .none (by simp [mapAfterSwitch, hbound])
  | transfer k a b c d =>
    have hidle : s.transfers.get (freeChannel s) = none := by
      rw [State.transfers_get, hfree k a b c d rfl]
      rfl
    have hrings : ReservesKept s (s.issueTransfer r p k a b c d) := .of_rings (by simp)
    rw [State.carryOut, State.holders_eq hrings, State.issueTransfer_transfers, State.issueTransfer_writer, State.issueTransfer_map]
    exact ((((transferRings_set_some hidle _).append_right _).append_right _).map s.cqOf).append_right _

/-- R149: of the completion rings, what is carried out changes none. -/
theorem State.carryOut_cqs (s : State) (r : RingId) (p : Prefetched) (plan : Plan) :
    (s.carryOut r p plan).writer.cqs = s.writer.cqs := by
  cases plan with
  | mapswitch =>
    simp only [State.carryOut]
    split <;> simp [State.completeHead]
  | refuse | complete | mapset | maprevert | transfer => simp [State.carryOut, State.completeHead]

/-- R148: a taking takes a reservation for the record it takes. -/
theorem covers_examine {s : State} (hs : Covers s.cq s.holders)
    (hpaired : s.map.retiring.isSome = s.map.pendingSwitch.isSome) : Covers s.examine.cq s.examine.holders := by
  rcases s.examine_cases with ⟨-, he⟩ | ⟨r, p, plan, -, hv, he⟩
  · rw [he]
    exact LeavesCqs.covers_of_same (s := s) ⟨rfl, reservesKept_setWaits s⟩ hs rfl rfl rfl
  · obtain ⟨-, -, -, -, hroom, -, hwait, -⟩ := verdict_eq_eligible hv
    rw [he]
    generalize hu : s.setWaits.takeHead r = u
    have hchannels : u.channels = s.channels := by simp [← hu]
    have hmap : u.map = s.map := by simp [← hu]
    have hrings : ReservesKept s u := by
      have htaken : ReservesKept s.setWaits u := by
        rw [← hu]
        exact (reservesKept_setRing (s := s.setWaits) (r := r) (g := ringAfterTaking (s.setWaits.ring r)) ⟨rfl, rfl⟩).trans
          (.of_rings (by simp [State.takeHead]))
      exact (reservesKept_setWaits s).trans htaken
    have hholders : u.holders = s.holders :=
      State.holders_congr hrings (State.transfers_congr hchannels) (by simp [← hu, State.takeHead]) (by rw [hmap])
    have hperm : (u.carryOut r p plan).holders.Perm (s.cqOf r :: s.holders) := by
      rw [← hholders, ← State.cqOf_congr hrings]
      refine State.carryOut_holders p (fun k a b c d hplan => ?_) fun hplan => ?_
      · subst hplan
        simpa [State.channel, freeChannel, hchannels] using freeChannel_idle_of_planWait hwait
      · subst hplan
        rw [retiring_none_of_planWait hwait] at hpaired
        simpa [hmap] using hpaired.symm
    have hcq (c : CqId) : (u.carryOut r p plan).examineDue.cq c = (s.reserve (s.cqOf r)).cq c := by
      rw [State.examineDue_cq, State.cq, State.carryOut_cqs, ← hu]
      simp [State.takeHead, State.reserve, State.cqOf, State.cq]
    refine hs.taken hroom ((hcq _).trans (s.cq_reserve_same _)) (fun c hc => (hcq c).trans (s.cq_reserve_other hc)) ?_
    exact hperm.subperm

/-- R27, R34, R116: the reservations of a transfer handed off, and of a switch it drains, go with their entries to the post queue. -/
theorem State.handOff_holders {s : State} (hbinding : CountsBindings s.map s.bindings) {c : ChannelId} {x : Context} (e : Ending)
    (hx : s.channel c = .ending x) : (s.handOff c x e).holders.Perm s.holders := by
  have hget : s.transfers.get c = some x.transfer := by
    rw [State.transfers_get, hx]
    rfl
  have htransfers : (s.handOff c x e).transfers = s.transfers.set c none := State.transfers_of_set (s.handOff_leaves c x e).2
  have hswitch : (s.handOff c x e).map.pendingSwitch = if lastRelease s.map x then none else s.map.pendingSwitch := by
    rw [State.handOff_map, mapAfterRelease_pendingSwitch hbinding]
  have hqueue : (s.handOff c x e).writer.postQueue.map (·.cq) = s.writer.postQueue.map (·.cq) ++ s.cqOf x.ring ::
      ((if lastRelease s.map x then s.map.pendingSwitch else none).toList.map (·.ring)).map s.cqOf := by
    rw [State.handOff_writer]
    simp [channelCompletion, plainCompletion, State.cqOf, Function.comp_def]
  rw [State.holders_eq (reservesKept_handOff s c x e), htransfers, hqueue, hswitch, State.holders, State.reservers, List.perm_iff_count]
  intro q
  have hleft : ((transferRings s.transfers).map s.cqOf).count q =
      (s.cqOf x.ring :: (transferRings (s.transfers.set c none)).map s.cqOf).count q :=
    ((transferRings_set_none hget).map s.cqOf).count_eq q
  rw [List.count_cons] at hleft
  cases lastRelease s.map x <;> simp [List.count_cons, hleft] <;> omega

/-! ## Flush disposals (R74) -/

theorem covers_refreshFlush {s : State} (hs : Covers s.cq s.holders) (r : RingId) :
    Covers (s.refreshFlush r).cq (s.refreshFlush r).holders :=
  LeavesCqs.covers_of_same ⟨by simp, reservesKept_refreshFlush s r⟩ hs (State.transfers_congr (by simp)) (by simp) (by simp)

/-- R74: the disposal takes its reservation where there is room, or holds it already. -/
theorem covers_reserveDisposal {s : State} {r : RingId} (hs : Covers s.cq s.holders)
    (hroom : ((s.ring r).disposalReserved || cqHasRoom (s.cq (s.ring r).dir.cq)) = true) :
    Covers (s.reserveDisposal r).cq (s.reserveDisposal r).holders ∧ ((s.reserveDisposal r).ring r).disposalReserved = true := by
  unfold State.reserveDisposal
  dsimp only
  split
  · next hreserved => exact ⟨hs, hreserved⟩
  · next hreserved =>
    have hfalse : (s.ring r).disposalReserved = false := Bool.eq_false_iff.2 hreserved
    rw [hfalse, Bool.false_or] at hroom
    generalize hu : s.setRing r { s.ring r with disposalReserved := true } = u
    have hring : u.ring r = { s.ring r with disposalReserved := true } := by rw [← hu, State.ring_setRing_same]
    have hdir : (u.ring r).dir = (s.ring r).dir := by rw [hring]
    have hother (r' : RingId) (hr : r' ≠ r) : u.ring r' = s.ring r' := by rw [← hu, State.ring_setRing_other s _ hr]
    have hcq (c : CqId) : u.cq c = s.cq c := by rw [← hu, State.setRing_cq]
    have hmore : (u.reserve (s.ring r).dir.cq).holders.Perm (s.cqOf r :: s.holders) := by
      refine State.holders_perm_cons hfalse (congrArg Ring.disposalReserved hring) hother ?_ ?_ ?_ ?_
      · exact hdir
      · exact State.transfers_congr (by rw [← hu]; rfl)
      · rw [← hu]; rfl
      · rw [← hu]; rfl
    refine ⟨hs.taken (c := (s.ring r).dir.cq) hroom ?_ (fun c hc => ?_) hmore.subperm, congrArg Ring.disposalReserved hring⟩
    · rw [State.cq_reserve_same, hcq]
    · rw [State.cq_reserve_other u hc, hcq]

/-- R74: the reservation of a disposal goes with its FLUSHED entry to the post queue. -/
theorem covers_disposeHead {s : State} {r : RingId} (p : Prefetched) (hs : Covers s.cq s.holders)
    (hreserved : (s.ring r).disposalReserved = true) : Covers (s.disposeHead r p).cq (s.disposeHead r p).holders := by
  unfold State.disposeHead
  dsimp only
  generalize hu : s.setRing r { s.ring r with
    queue := (s.ring r).queue.tail, inFlight := (s.ring r).inFlight + 1, disposalReserved := false } = u
  have hring : u.ring r = { s.ring r with
      queue := (s.ring r).queue.tail, inFlight := (s.ring r).inFlight + 1, disposalReserved := false } := by
    rw [← hu, State.ring_setRing_same]
  have hbefore : s.holders.Perm (u.cqOf r :: u.holders) := by
    refine State.holders_perm_cons (by rw [hring]) hreserved (fun r' hr => ?_) (by rw [hring]) ?_ ?_ ?_
    · rw [← hu, State.ring_setRing_other s _ hr]
    · exact State.transfers_congr (by rw [← hu]; rfl)
    · rw [← hu]; rfl
    · rw [← hu]; rfl
  refine hs.kept (fun c => ?_) ((State.handEntry_holders u _).trans hbefore.symm).subperm
  rw [State.handEntry_cq, ← hu, State.setRing_cq]

theorem covers_execFlushDisposal {r : RingId} {s t : State} (hs : Covers s.cq s.holders) (h : execFlushDisposal r s = .next t) :
    Covers t.cq t.holders := by
  cases h
  split
  · exact hs
  · next p _ _ =>
    split
    · exact hs
    · split
      · next hroom =>
        obtain ⟨hcovers, hreserved⟩ := covers_reserveDisposal hs hroom
        dsimp only
        apply covers_refreshFlush
        split
        · exact covers_disposeHead p hcovers hreserved
        · exact hcovers
      · exact covers_refreshFlush hs r

/-! ## POST and ACK (R58, R59, R76, R155) -/

/-- R76: a disposal that is withdrawn gives its reservation back. -/
theorem covers_withdrawDisposal {s : State} (hs : Covers s.cq s.holders) (r : RingId) :
    Covers (s.withdrawDisposal r).cq (s.withdrawDisposal r).holders := by
  unfold State.withdrawDisposal
  dsimp only
  split
  · next hreserved =>
    generalize hu : s.setRing r { s.ring r with disposalReserved := false } = u
    have hring : u.ring r = { s.ring r with disposalReserved := false } := by rw [← hu, State.ring_setRing_same]
    have hcq (c : CqId) : u.cq c = s.cq c := by rw [← hu, State.setRing_cq]
    have hless : s.holders.Perm ((u.release (s.ring r).dir.cq).examineDue.cqOf r ::
        (u.release (s.ring r).dir.cq).examineDue.holders) := by
      refine State.holders_perm_cons (congrArg Ring.disposalReserved hring) hreserved (fun r' hr => ?_)
        (congrArg Ring.dir hring).symm ?_ ?_ ?_
      · exact ((congrArg (State.ring · r') hu).symm.trans (State.ring_setRing_other s _ hr)).symm
      · exact State.transfers_congr (by rw [← hu]; rfl)
      · rw [← hu]; rfl
      · rw [← hu]; rfl
    have hname : (u.release (s.ring r).dir.cq).examineDue.cqOf r = (s.ring r).dir.cq := congrArg (·.dir.cq) hring
    rw [hname] at hless
    refine hs.givenBack (c := (s.ring r).dir.cq) ?_ (fun c hc => ?_) hless
    · rw [State.examineDue_cq, State.cq_release_same, hcq]
    · rw [State.examineDue_cq, State.cq_release_other u hc, hcq]
  · exact hs

theorem covers_postFault {s : State} (hs : Covers s.cq s.holders) (r : RingId) (cause : FaultCause) :
    Covers (s.postFault r cause).cq (s.postFault r cause).holders := by
  have hwithdrawn := covers_withdrawDisposal hs r
  unfold State.postFault
  split
  · exact hs
  · generalize s.withdrawDisposal r = u at hwithdrawn
    have hrings : ReservesKept u ((u.setRing r { (u.ring r).enter .faulted with cause := cause }).reportRing r) :=
      reservesKept_setRing (s := u) (r := r) (g := { (u.ring r).enter .faulted with cause := cause }) ⟨rfl, rfl⟩
    exact LeavesCqs.covers_of_same (s := u) ⟨rfl, hrings⟩ hwithdrawn rfl rfl rfl

theorem covers_execPost {r : RingId} {tail : Count} {s t : State} (hs : Covers s.cq s.holders) (h : execPost r tail s = .next t) :
    Covers t.cq t.holders := by
  cases h
  split
  · exact hs
  · split
    · exact covers_postFault hs r _
    · split
      · exact covers_postFault hs r _
      · exact LeavesCqs.covers_of_same ⟨by simp, reservesKept_postApply s r tail⟩ hs (State.transfers_congr (by simp)) (by simp) (by simp)

theorem covers_execAck {c : CqId} {head : Count} {s t : State} (hs : Covers s.cq s.holders) (h : execAck c head s = .next t) :
    Covers t.cq t.holders := by
  cases h
  split
  · exact hs
  · next htaken =>
    simp only [not_or] at htaken
    obtain ⟨-, -, -, -, hhead⟩ := htaken
    refine hs.acked (c := c) (Nat.not_lt.1 hhead) ?_ fun c' hc => ?_
    · rw [State.examineDue_cq, State.cq_setCq_same]
    · rw [State.examineDue_cq, State.cq_setCq_other s _ hc]

/-! ## Completion writes, mailbox faults and loads (R151, R153, R168, R172) -/

/-- R149: a record that leaves the post queue takes its reservation with it. -/
theorem State.holders_perm_of_writerEntry {s t : State} {e : Completion} (he : writerEntry s = some e) (hrings : ReservesKept s t)
    (hchannels : t.channels = s.channels) (hmap : t.map = s.map)
    (hqueue : t.writer.postQueue = s.writer.postQueue.eraseIdx (failedWrites s)) : s.holders.Perm (e.cq :: t.holders) := by
  obtain ⟨hlt, hget⟩ := List.getElem?_eq_some_iff.1 he
  have herased : (s.writer.postQueue.map (·.cq)).Perm (e.cq :: t.writer.postQueue.map (·.cq)) := by
    have hperm := (List.getElem_cons_eraseIdx_perm hlt).symm.map (·.cq)
    rwa [List.map_cons, hget, ← hqueue] at hperm
  rw [State.holders_eq hrings, State.transfers_congr hchannels, hmap]
  exact (herased.append_left _).trans List.perm_middle

theorem covers_execCompletionWrite {result : WriteEnd} {s t : State} (hs : Covers s.cq s.holders)
    (h : execCompletionWrite result s = .next t) : Covers t.cq t.holders := by
  rcases execCompletionWrite_ends h with rfl | ⟨hended, hwriter⟩ | ⟨e, u, he, hended, hwriter, rfl⟩
  · exact hs
  · exact LeavesCqs.covers_of_same (.of_blocks (by rw [hwriter]) (by rw [hended.ringManager])) hs
      (State.transfers_congr hended.channels) (by rw [hwriter]) (by rw [hended.map])
  · have hrings : ReservesKept s u := .of_rings (by rw [hended.ringManager])
    have hcq (c : CqId) : u.cq c = s.cq c := by rw [State.cq, hwriter, State.cq]
    split
    · have hperm := State.holders_perm_of_writerEntry he hrings hended.channels hended.map (by rw [hwriter])
      exact hs.kept hcq ((List.sublist_cons_self ..).subperm.trans hperm.symm.subperm)
    · have hperm := State.holders_perm_of_writerEntry (t := u.entryWritten e) he (hrings.trans (reservesKept_entryWritten u e))
        (by simp [hended.channels]) (by simp [hended.map]) (by simp [hwriter])
      have hwritten (c : CqId) : (u.entryWritten e).cq c = (u.setCq e.cq (cqAfterWrite (u.cq e.cq))).cq c := by
        simp [State.cq, State.entryWritten]
      refine hs.written (c := e.cq) ?_ (fun c hc => ?_) hperm
      · rw [hwritten, State.cq_setCq_same, hcq]
      · rw [hwritten, State.cq_setCq_other u _ hc, hcq]

/-- R153, R172: a fault taken loses an entry at most, whose reservation stays counted. -/
theorem covers_execMailboxFault {s t : State} (hs : Covers s.cq s.holders) (h : execMailboxFault s = .next t) :
    Covers t.cq t.holders := by
  have hleaves : LeavesCqs s t := exec_leavesCqs (c := .mailboxFault) rfl h
  have htransfers : LeavesTransfers s t := leavesTransfers_of_exec (c := .mailboxFault) rfl h
  rcases execMailboxFault_cases h with rfl | ⟨-, hsub⟩
  · exact hs
  · refine hleaves.covers hs ?_
    rw [State.holders_eq hleaves.rings, State.transfers_congr htransfers.channels, htransfers.map]
    exact ((hsub.map _).append_left _).subperm

@[simp] theorem State.finishLoad_cq (s : State) (b : SetupBlock) (c : CqId) : (s.finishLoad b).cq c = loadedCq (b.cqs.get c) := by
  cases c <;> rfl

/-- R147, R168: a load that passes leaves every completion ring empty, and no record that holds a reservation. -/
theorem covers_finishLoad {s : State} (b : SetupBlock) (hstanding : s.standing = []) :
    Covers (s.finishLoad b).cq (s.finishLoad b).holders := by
  have hsame : (s.finishLoad b).standing = s.standing := State.standing_congr rfl rfl rfl
  rw [State.holders_eq_nil (hsame.trans hstanding) fun r => by rw [State.finishLoad_ring]; rfl]
  exact .empty (fun c => by rw [State.finishLoad_cq]; rfl) fun c => by simp [loadedCq, CompletionRing.reset, cqUsed, Count.since]

theorem covers_execSetupLoadEnd {host : List HostWrite} {ok : Bool} {s t : State} (hquiet : quietWhenOff s)
    (hs : Covers s.cq s.holders) (h : execSetupLoadEnd host ok s = .next t) : Covers t.cq t.holders := by
  rcases execSetupLoadEnd_ends h with rfl | ⟨u, hended, hwriter, hload⟩
  · exact hs
  · have hstanding : u.standing = s.standing :=
      State.standing_congr (State.transfers_congr hended.channels) (by rw [hwriter]) (by rw [hended.map])
    have hu : Covers u.cq u.holders :=
      LeavesCqs.covers_of_same (.of_blocks (by rw [hwriter]) (by rw [hended.ringManager])) hs (State.transfers_congr hended.channels)
        (by rw [hwriter]) (by rw [hended.map])
    rcases hload with rfl | ⟨hpart, b, rfl⟩
    · exact hu
    · rcases u.loadBlock_cases b with ⟨e, he⟩ | ⟨-, he⟩ <;> rw [he]
      · exact hu
      · exact covers_finishLoad b (hstanding.trans ((quietWhenOff_iff s).1 hquiet (.inr hpart)).2)

/-- R162, R175: after a reset every completion ring is empty. -/
theorem covers_resetBlocks (s : State) (c : ControlUnit) {m : MapUnit} (hm : m.pendingSwitch = none) :
    Covers (s.resetBlocks c m).cq (s.resetBlocks c m).holders := by
  have hring (r : RingId) : (s.resetBlocks c m).ring r = Ring.reset := PerRing.get_all ..
  have hcq (q : CqId) : (s.resetBlocks c m).cq q = CompletionRing.reset := PerCq.get_all ..
  rw [State.holders_eq_nil ((State.standing_eq_nil_iff _).2 ⟨rfl, rfl, hm⟩) fun r => by rw [hring]; rfl]
  exact .empty (fun q => by rw [hcq]; rfl) (fun q => by rw [hcq]; rfl)

/-! ## Every command -/

theorem exec_covers {c : Instr} {s t : State} (hbinding : CountsBindings s.map s.bindings) (hquiet : quietWhenOff s)
    (hs : Covers s.cq s.holders) (h : exec c s = .next t) : Covers t.cq t.holders := by
  cases c with
  | powerOnReset | softReset =>
    cases h
    exact covers_resetBlocks _ _ rfl
  | setupLoadEnd host ok => exact covers_execSetupLoadEnd hquiet hs h
  | mailboxFault => exact covers_execMailboxFault hs h
  | examination =>
    cases h
    split
    · exact hs
    · exact covers_examine hs hbinding.pending
  | handOff c =>
    have hleaves : LeavesCqs s t := exec_leavesCqs (c := .handOff c) rfl h
    rcases execHandOff_cases h with rfl | ⟨x, e, hx, rfl⟩
    · exact hs
    · exact hleaves.covers hs (State.handOff_holders hbinding e hx).subperm
  | flushDisposal r => exact covers_execFlushDisposal hs h
  | completionWrite result => exact covers_execCompletionWrite hs h
  | post r tail => exact covers_execPost hs h
  | ack c head => exact covers_execAck hs h
  | _ =>
    exact (exec_leavesCqs rfl h).covers_of_same hs (exec_transfers_kept rfl h) (exec_postQueue_kept rfl h)
      (by rw [exec_map_kept rfl h])

/-- Settles O57: each command moves records with the reservations they hold, takes a reservation only where there is room, and writes a
record only into a slot reserved for it. -/
theorem reservationLawKept : Obligations.ReservationLawKept := by
  intro s t hbinding hs h
  have hboth := step_keeps (P := fun s => bindingLaw s ∧ reservationLaw s) (fun _ _ hs => hs) (fun c s t hs h => ?_) s t ⟨hbinding, hs⟩ h
  · exact hboth.2
  · obtain ⟨hbinding, hlaw⟩ := hs
    have hkept := exec_bindingLaw c s t hbinding h
    obtain ⟨hquiet, -, hcovers⟩ := (reservationLaw_iff s).1 hlaw
    exact ⟨hkept, (reservationLaw_iff t).2 ⟨exec_quietWhenOff hquiet h, ((bindingLaw_iff t).1 hkept).pending,
      exec_covers ((bindingLaw_iff s).1 hbinding) hquiet hcovers h⟩⟩

end Sys2Proof.Machine

/-! What a written record does to its ring and to the coalescing of its completion ring, as whole-state equations (R69, R75, R151,
R156). -/

namespace Sys2Proof.Machine

/-! ## The ring of the record (R69, R75) -/

theorem State.setRing_setRing (s : State) (r : RingId) (g g' : Ring) : (s.setRing r g).setRing r g' = s.setRing r g' := by
  cases r <;> rfl

/-- R69, R75: the record is the last one that a STOPPING ring, or a FLUSHING ring with nothing left to dispose of, has in flight. -/
def State.recordStops (s : State) (r : RingId) : Prop :=
  ((s.ring r).phase = .stopping ∧ (s.ring r).inFlight - 1 = 0) ∨
    ((s.ring r).phase = .flushing ∧ (s.ring r).queue = [] ∧ (s.ring r).fetch = (s.ring r).flushTarget ∧
      fetchInProgress s r = false ∧ (s.ring r).inFlight - 1 = 0)

/-- The ring with its record counted no more. -/
def Ring.lowered (g : Ring) : Ring := { g with inFlight := g.inFlight - 1 }

/-- The ring that the written record takes to STOPPED: at the end of a flush its fault cause is NONE (R75). -/
def Ring.stoppedBy (g : Ring) : Ring :=
  { g with inFlight := g.inFlight - 1, phase := .stopped, wait := .none, cause := if g.phase = .flushing then .none else g.cause }

theorem flushDone_lowered (s : State) (r : RingId) :
    flushDone (s.setRing r (s.ring r).lowered) r = true ↔
      (s.ring r).queue = [] ∧ (s.ring r).fetch = (s.ring r).flushTarget ∧ fetchInProgress s r = false ∧ (s.ring r).inFlight - 1 = 0 := by
  have hfetch : fetchInProgress (s.setRing r (s.ring r).lowered) r = fetchInProgress s r := rfl
  unfold flushDone
  dsimp only
  rw [State.ring_setRing_same, hfetch]
  simp only [Bool.and_eq_true, Bool.not_eq_true', List.isEmpty_iff, decide_eq_true_eq, and_assoc]
  rfl

/-- R151 step 4, with the ring's count lowered first. -/
theorem State.recordWritten_eq (s : State) (r : RingId) :
    s.recordWritten r =
      if (s.ring r).phase = .stopping ∧ (s.ring r).inFlight - 1 = 0 then (s.setRing r (s.ring r).lowered).enterStopped r
      else if (s.ring r).phase = .flushing ∧ flushDone (s.setRing r (s.ring r).lowered) r = true then
        (s.setRing r (s.ring r).lowered).endFlush r
      else s.setRing r (s.ring r).lowered := by
  unfold State.recordWritten
  simp only [State.ring_setRing_same]
  rfl

theorem State.recordWritten_of_stops {s : State} {r : RingId} (h : s.recordStops r) :
    s.recordWritten r = (s.setRing r (s.ring r).stoppedBy).reportRing r := by
  have hring : (s.setRing r (s.ring r).lowered).ring r = (s.ring r).lowered := s.ring_setRing_same r _
  rw [State.recordWritten_eq]
  rcases h with ⟨hphase, hzero⟩ | ⟨hphase, hdone⟩
  · rw [if_pos ⟨hphase, hzero⟩, State.enterStopped, State.setRing_setRing, hring]
    simp [Ring.lowered, Ring.stoppedBy, Ring.enter, hphase]
  · rw [if_neg fun hp => by simp [hphase] at hp, if_pos ⟨hphase, (flushDone_lowered s r).2 hdone⟩, State.endFlush,
      State.setRing_setRing, hring]
    simp [Ring.lowered, Ring.stoppedBy, Ring.enter, hphase]

theorem State.recordWritten_of_not_stops {s : State} {r : RingId} (h : ¬s.recordStops r) :
    s.recordWritten r = s.setRing r (s.ring r).lowered := by
  rw [State.recordWritten_eq, if_neg fun hp => h (.inl hp), if_neg fun hp => h (.inr ⟨hp.1, (flushDone_lowered s r).1 hp.2⟩)]

/-! ## The whole record (R151) -/

/-- R156: what the record does to the coalescing of its completion ring. -/
def State.counted (s : State) (e : Completion) : Coalescing × Bool :=
  coalesceWrite (s.cq e.cq).threshold.toNat (s.cq e.cq).holdoff.toNat (s.coalescer.cqs.get e.cq)

/-- The ring's part of a written record: its counts and its report (R69, R75, R78). -/
def State.ringWritten (s : State) (e : Completion) : State := (s.setCq e.cq (cqAfterWrite (s.cq e.cq))).recordWritten e.ring

theorem State.ringWritten_of_stops {s : State} {e : Completion} (h : s.recordStops e.ring) :
    s.ringWritten e = ((s.setCq e.cq (cqAfterWrite (s.cq e.cq))).setRing e.ring (s.ring e.ring).stoppedBy).reportRing e.ring :=
  State.recordWritten_of_stops (s := s.setCq e.cq (cqAfterWrite (s.cq e.cq))) h

theorem State.ringWritten_of_not_stops {s : State} {e : Completion} (h : ¬s.recordStops e.ring) :
    s.ringWritten e = (s.setCq e.cq (cqAfterWrite (s.cq e.cq))).setRing e.ring (s.ring e.ring).lowered :=
  State.recordWritten_of_not_stops (s := s.setCq e.cq (cqAfterWrite (s.cq e.cq))) h

@[simp] theorem State.ringWritten_cqs (s : State) (e : Completion) : (s.ringWritten e).coalescer.cqs = s.coalescer.cqs := by
  by_cases h : s.recordStops e.ring
  · rw [State.ringWritten_of_stops h]
    rfl
  · rw [State.ringWritten_of_not_stops h]
    rfl

/-- R156: of the Interrupt Coalescer, a written record reaches the count and the source of its completion ring, and EVENT through its
ring alone. -/
theorem State.entryWritten_coalescer (s : State) (e : Completion) :
    (s.entryWritten e).coalescer =
      { cqs := s.coalescer.cqs.set e.cq (s.counted e).1
        intstat :=
          if (s.counted e).2 then setCqSource (s.ringWritten e).coalescer.intstat e.cq else (s.ringWritten e).coalescer.intstat } := by
  have hcq : ((s.ringWritten e).dropHazard e.ring e.transferKey).cq e.cq = cqAfterWrite (s.cq e.cq) := by
    simp [State.cq, State.ringWritten]
  have hentry : s.entryWritten e = (((s.ringWritten e).dropHazard e.ring e.transferKey).coalesce e.cq).examineDue := rfl
  rw [hentry, State.examineDue_coalescer, State.coalesce]
  dsimp only
  rw [hcq, State.dropHazard_coalescer, State.ringWritten_cqs]
  rfl

end Sys2Proof.Machine

/-! The post queue, the phases and the coalescing counts of the completion rings (R149, R152, R156, R157): the laws that every step
keeps. -/

namespace Sys2Proof.Machine

/-! ## The post queue (R149) -/

theorem State.carryOut_postQueue_length_le (s : State) (r : RingId) (p : Prefetched) (plan : Plan) :
    (s.carryOut r p plan).writer.postQueue.length ≤ s.writer.postQueue.length + 1 := by
  cases plan with
  | mapswitch =>
    simp only [State.carryOut]
    split <;> simp [State.completeHead]
  | refuse | complete | mapset | maprevert | transfer => simp [State.carryOut, State.completeHead]

/-- R116: a HAND_OFF leaves the state as it is, or has room for what its channel hands off. -/
theorem execHandOff_fits {c : ChannelId} {s t : State} (h : execHandOff c s = .next t) :
    t = s ∨ ∃ x e, postRoom s (if lastRelease s.map x then 2 else 1) = true ∧ t = s.handOff c x e := by
  unfold execHandOff at h
  split at h
  · next x _ =>
    generalize hn : (if lastRelease s.map x = true then 2 else 1) = n at h
    split at h <;> cases h
    · split
      · next e _ hroom => exact .inr ⟨x, e, hn ▸ hroom.2, rfl⟩
      · exact .inl rfl
    · exact .inl rfl
  · cases h
    exact .inl rfl
  · cases h
    exact .inl rfl

theorem State.handOff_postQueue_length_le (s : State) (c : ChannelId) (x : Context) (e : Ending) :
    (s.handOff c x e).writer.postQueue.length ≤ s.writer.postQueue.length + if lastRelease s.map x then 2 else 1 := by
  rw [State.handOff_writer]
  cases lastRelease s.map x
  · simp
  · cases s.map.pendingSwitch <;> simp

theorem State.reserveDisposal_postQueue (s : State) (r : RingId) : (s.reserveDisposal r).writer.postQueue = s.writer.postQueue :=
  (s.reserveDisposal_leavesRecords r).postQueue

theorem postQueueLaw_execFlushDisposal {r : RingId} {s t : State} (hs : postQueueLaw s) (h : execFlushDisposal r s = .next t) :
    postQueueLaw t := by
  cases h
  split
  · exact hs
  · split
    · exact hs
    · split
      · dsimp only
        rw [postQueueLaw, State.refreshFlush_writer]
        split
        · next hroom =>
          have hfits := (postRoom_iff _ 1).1 hroom
          rw [State.disposeHead]
          rw [State.handEntry_writer, List.length_append]
          exact hfits
        · rwa [State.reserveDisposal_postQueue]
      · rwa [postQueueLaw, State.refreshFlush_writer]

/-- R149: an entry is handed over only where the post queue has room for it. -/
theorem exec_postQueueLaw (c : Instr) (s t : State) (hs : postQueueLaw s) (h : exec c s = .next t) : postQueueLaw t := by
  cases c with
  | powerOnReset | softReset =>
    cases h
    exact Nat.zero_le _
  | setupLoadEnd host ok =>
    rcases execSetupLoadEnd_records h with ⟨hrecords, -⟩ | ⟨-, u, b, -, -, hwriter, rfl⟩
    · rwa [postQueueLaw, hrecords.postQueue]
    · rw [postQueueLaw, ← hwriter] at hs
      exact hs
  | mailboxFault =>
    rcases execMailboxFault_cases h with rfl | ⟨-, hsub⟩
    · exact hs
    · exact hsub.length_le.trans hs
  | examination =>
    cases h
    split
    · exact hs
    · rcases s.examine_cases with ⟨-, he⟩ | ⟨r, p, plan, -, hv, he⟩
      · rw [he]
        exact hs
      · obtain ⟨-, -, -, -, -, -, -, hroom⟩ := verdict_eq_eligible hv
        have hfits := (postRoom_iff s 1).1 hroom
        have hqueue : (s.setWaits.takeHead r).writer.postQueue = s.writer.postQueue := by simp [State.takeHead]
        have hlength := (s.setWaits.takeHead r).carryOut_postQueue_length_le r p plan
        rw [hqueue] at hlength
        rw [he]
        exact hlength.trans hfits
  | handOff c =>
    rcases execHandOff_fits h with rfl | ⟨x, e, hroom, rfl⟩
    · exact hs
    · exact (s.handOff_postQueue_length_le c x e).trans ((postRoom_iff ..).1 hroom)
  | flushDisposal r => exact postQueueLaw_execFlushDisposal hs h
  | completionWrite result =>
    rcases execCompletionWrite_entry h with ⟨-, -, -, -, -, -, hwriter⟩ | ⟨e, -, -, -, hqueue, -⟩
    · rwa [postQueueLaw, hwriter]
    · rw [postQueueLaw, hqueue]
      exact (List.eraseIdx_sublist ..).length_le.trans hs
  | _ => rwa [postQueueLaw, exec_postQueue_kept rfl h]

/-! ## What reservations and ACKs leave of a completion ring (R148, R155) -/

/-- The completion ring keeps its depth, its coalescing fields, its tail and its phase. -/
structure CqKept (q q' : CompletionRing) : Prop where
  depthCode : q'.depthCode = q.depthCode
  enabled : q'.enabled = q.enabled
  threshold : q'.threshold = q.threshold
  tail : q'.tail = q.tail
  phase : q'.phase = q.phase

theorem CqKept.refl (q : CompletionRing) : CqKept q q := ⟨rfl, rfl, rfl, rfl, rfl⟩

theorem CqKept.trans {q q' q'' : CompletionRing} (h : CqKept q q') (h' : CqKept q' q'') : CqKept q q'' :=
  ⟨h'.depthCode.trans h.depthCode, h'.enabled.trans h.enabled, h'.threshold.trans h.threshold, h'.tail.trans h.tail,
    h'.phase.trans h.phase⟩

/-- Every completion ring keeps them. -/
def CqsKept (s t : State) : Prop := ∀ c, CqKept (s.cq c) (t.cq c)

theorem CqsKept.trans {s t u : State} (h : CqsKept s t) (h' : CqsKept t u) : CqsKept s u := fun c => (h c).trans (h' c)

theorem CqsKept.of_cqs {s t : State} (h : t.writer.cqs = s.writer.cqs) : CqsKept s t := fun c => by
  rw [State.cq, State.cq, h]
  exact .refl _

theorem cqsKept_setCq {s : State} {c : CqId} {q : CompletionRing} (h : CqKept (s.cq c) q) : CqsKept s (s.setCq c q) := fun c' => by
  by_cases hc : c' = c
  · subst hc
    rwa [State.cq_setCq_same]
  · rw [State.cq_setCq_other s q hc]
    exact .refl _

theorem cqsKept_reserve (s : State) (c : CqId) : CqsKept s (s.reserve c) := cqsKept_setCq ⟨rfl, rfl, rfl, rfl, rfl⟩

theorem cqsKept_release (s : State) (c : CqId) : CqsKept s (s.release c) := cqsKept_setCq ⟨rfl, rfl, rfl, rfl, rfl⟩

theorem cqsKept_postFault (s : State) (r : RingId) (cause : FaultCause) : CqsKept s (s.postFault r cause) := by
  have hwithdrawn : CqsKept s (s.withdrawDisposal r) := by
    unfold State.withdrawDisposal
    dsimp only
    split
    · exact cqsKept_release (s.setRing r { s.ring r with disposalReserved := false }) _
    · exact .of_cqs rfl
  unfold State.postFault
  split
  · exact .of_cqs rfl
  · exact hwithdrawn

theorem cqsKept_examine (s : State) : CqsKept s s.examine := by
  rcases s.examine_cases with ⟨-, he⟩ | ⟨r, p, plan, -, -, he⟩
  · rw [he]
    exact .of_cqs rfl
  · have htaken : CqsKept s (s.setWaits.takeHead r) :=
      (cqsKept_reserve (s.setWaits.setRing r (ringAfterTaking (s.setWaits.ring r))) _).trans
        (.of_cqs (congrArg CompletionWriter.cqs (State.movePointer_writer _ r)))
    rw [he]
    exact htaken.trans (.of_cqs (State.carryOut_cqs ..))

theorem cqsKept_execFlushDisposal {r : RingId} {s t : State} (h : execFlushDisposal r s = .next t) : CqsKept s t := by
  have hreserved : CqsKept s (s.reserveDisposal r) := by
    unfold State.reserveDisposal
    dsimp only
    split
    · exact .of_cqs rfl
    · exact cqsKept_reserve (s.setRing r { s.ring r with disposalReserved := true }) _
  cases h
  split
  · exact .of_cqs rfl
  · split
    · exact .of_cqs rfl
    · split
      · dsimp only
        refine hreserved.trans (.of_cqs ?_)
        rw [State.refreshFlush_writer]
        split <;> simp [State.disposeHead]
      · exact .of_cqs (by simp)

/-- The commands that set a completion ring anew, or write a record into it. -/
def writesCqs : Instr → Bool
  | .powerOnReset | .softReset _ | .setupLoadEnd _ _ | .completionWrite _ => true
  | _ => false

/-- R146 to R155: the other commands move reservations and head counts alone. -/
theorem exec_cqsKept {c : Instr} {s t : State} (hc : writesCqs c = false) (h : exec c s = .next t) : CqsKept s t := by
  cases c with
  | powerOnReset | softReset | setupLoadEnd | completionWrite => cases hc
  | examination =>
    cases h
    split
    · exact .of_cqs rfl
    · exact cqsKept_examine s
  | flushDisposal r => exact cqsKept_execFlushDisposal h
  | post r tail =>
    cases h
    split
    · exact .of_cqs rfl
    · split
      · exact cqsKept_postFault s r _
      · split
        · exact cqsKept_postFault s r _
        · exact .of_cqs (by simp)
  | ack c head =>
    cases h
    split
    · exact .of_cqs rfl
    · exact cqsKept_setCq ⟨rfl, rfl, rfl, rfl, rfl⟩
  | _ => exact .of_cqs (exec_leavesCqs rfl h).cqs

/-- R151: of the completion rings, the end of a completion write changes at most the one that the written record names. -/
theorem execCompletionWrite_cqs {result : WriteEnd} {s t : State} (h : execCompletionWrite result s = .next t) (c : CqId) :
    t.cq c = s.cq c ∨ t.cq c = cqAfterWrite (s.cq c) := by
  rcases execCompletionWrite_ends h with rfl | ⟨-, hwriter⟩ | ⟨e, u, -, -, hwriter, rfl⟩
  · exact .inl rfl
  · exact .inl (by rw [State.cq, hwriter, State.cq])
  · have hcq (c : CqId) : u.cq c = s.cq c := by rw [State.cq, hwriter, State.cq]
    split
    · exact .inl (hcq c)
    · have hwritten : (u.entryWritten e).cq c = (u.setCq e.cq (cqAfterWrite (u.cq e.cq))).cq c := by
        simp [State.cq, State.entryWritten]
      rw [hwritten]
      by_cases hc : c = e.cq
      · subst hc
        exact .inr (by rw [State.cq_setCq_same, hcq])
      · exact .inl (by rw [State.cq_setCq_other u _ hc, hcq])

/-! ## The phase (R152) -/

/-- The phase of a completion ring is 1 exactly while its tail divided by its depth is even (R152). -/
def phaseExact (q : CompletionRing) : Prop := q.phase = decide (q.tail.toNat / depthOf q.depthCode % 2 = 0)

theorem CqKept.phaseExact {q q' : CompletionRing} (h : CqKept q q') (hq : phaseExact q) : phaseExact q' := by
  rwa [Machine.phaseExact, h.phase, h.tail, h.depthCode]

/-- R152: the tail passes a multiple of the depth, where the phase flips; at 65,536, an even multiple, the tail is 0 again. -/
theorem phaseExact_cqAfterWrite {q : CompletionRing} (h : phaseExact q) : phaseExact (cqAfterWrite q) := by
  unfold phaseExact at h ⊢
  unfold cqAfterWrite
  dsimp only
  obtain ⟨j, hj⟩ : 2 * depthOf q.depthCode ∣ 65536 := by
    have hle : q.depthCode.toNat + 1 ≤ 16 := q.depthCode.isLt
    rw [depthOf, ← Nat.pow_succ']
    exact Nat.pow_dvd_pow 2 hle
  have hpos : 0 < depthOf q.depthCode := Nat.two_pow_pos _
  have hdiv := Nat.succ_div (a := q.tail.toNat) (b := depthOf q.depthCode)
  have hparity : ((q.tail + 1).toNat / depthOf q.depthCode) % 2 = ((q.tail.toNat + 1) / depthOf q.depthCode) % 2 ∧
      ((q.tail + 1).toNat % depthOf q.depthCode = 0 ↔ depthOf q.depthCode ∣ q.tail.toNat + 1) := by
    by_cases hwrap : q.tail.toNat + 1 < 65536
    · have htail : (q.tail + 1).toNat = q.tail.toNat + 1 := by bv_omega
      rw [htail]
      exact ⟨rfl, (Nat.dvd_iff_mod_eq_zero).symm⟩
    · have htail : (q.tail + 1).toNat = 0 := by bv_omega
      have hfull : q.tail.toNat + 1 = depthOf q.depthCode * (2 * j) := by
        rw [← Nat.mul_assoc, Nat.mul_comm _ 2, ← hj]
        have hlt := q.tail.isLt
        omega
      rw [htail, hfull, Nat.mul_div_cancel_left _ hpos]
      simp
  rw [hparity.1, hdiv, h]
  by_cases hdvd : depthOf q.depthCode ∣ q.tail.toNat + 1
  · rw [if_pos (hparity.2.2 hdvd), if_pos hdvd, ← decide_not, decide_eq_decide]
    omega
  · rw [if_neg (mt hparity.2.1 hdvd), if_neg hdvd, Nat.add_zero]

theorem exec_phaseLaw (c : Instr) (s t : State) (hs : phaseLaw s) (h : exec c s = .next t) : phaseLaw t := by
  intro q
  cases c with
  | powerOnReset | softReset =>
    cases h
    have hcq : CompletionWriter.reset.cqs.get q = CompletionRing.reset := PerCq.get_all ..
    rw [State.cq, State.resetBlocks_writer, hcq]
    simp [CompletionRing.reset]
  | setupLoadEnd host ok =>
    rcases execSetupLoadEnd_ends h with rfl | ⟨u, -, hwriter, hload⟩
    · exact hs q
    · have hu : phaseExact (u.cq q) := by
        rw [State.cq, hwriter]
        exact hs q
      rcases hload with rfl | ⟨-, b, rfl⟩
      · exact hu
      · rcases u.loadBlock_cases b with ⟨e, he⟩ | ⟨-, he⟩ <;> rw [he]
        · exact hu
        · rw [State.finishLoad_cq]
          simp [loadedCq, CompletionRing.reset]
  | completionWrite result =>
    rcases execCompletionWrite_cqs h q with hq | hq <;> rw [hq]
    · exact hs q
    · exact phaseExact_cqAfterWrite (hs q)
  | _ => exact (exec_cqsKept rfl h q).phaseExact (hs q)

/-! ## Coalescing (R156, R157) -/

/-- The coalescing state of a completion ring, in a part state (R156, R157). -/
structure Coalesced (p : PartState) (q : CompletionRing) (k : Coalescing) : Prop where
  below : q.enabled = true → 1 ≤ q.threshold.toNat ∧ k.count < q.threshold.toNat
  counting : k.timer = true → 0 < k.count
  measured : 0 < k.count → p ≠ .halted → k.timer = true

theorem coalescingLaw_iff (s : State) :
    coalescingLaw s ↔ ∀ c, Coalesced s.control.part (s.cq c) (s.coalescer.cqs.get c) :=
  forall_congr' fun _ => ⟨fun h => ⟨h.1, h.2.1, h.2.2⟩, fun h => ⟨h.below, h.counting, h.measured⟩⟩

theorem Coalesced.kept {p p' : PartState} {q q' : CompletionRing} {k : Coalescing} (h : Coalesced p q k)
    (hpart : p' ≠ .halted → p ≠ .halted) (henabled : q'.enabled = q.enabled) (hthreshold : q'.threshold = q.threshold) :
    Coalesced p' q' k :=
  ⟨by rw [henabled, hthreshold]; exact h.below, h.counting, fun hcount hp => h.measured hcount (hpart hp)⟩

/-- R157: a signal, a load and a reset leave the count 0 and the timer stopped. -/
theorem Coalesced.cleared {p : PartState} {q : CompletionRing} (h : q.enabled = true → 1 ≤ q.threshold.toNat) :
    Coalesced p q ⟨0, false⟩ :=
  ⟨fun henabled => ⟨h henabled, h henabled⟩, nofun, fun hcount => absurd hcount (Nat.lt_irrefl 0)⟩

/-- R157: in HALTED the timer is stopped. -/
theorem Coalesced.halted {p : PartState} {q : CompletionRing} {k : Coalescing} (h : Coalesced p q k) :
    Coalesced .halted q { k with timer := false } :=
  ⟨h.below, nofun, fun _ hp => absurd rfl hp⟩

/-- R156: a record counted signals at the threshold, and else stays below it with the timer running. -/
theorem Coalesced.written {p : PartState} {q : CompletionRing} {k : Coalescing} (h : Coalesced p q k) (hp : p ≠ .halted) (holdoff : Nat) :
    Coalesced p q (coalesceWrite q.threshold.toNat holdoff k).1 := by
  unfold coalesceWrite
  dsimp only
  split
  · exact .cleared fun henabled => (h.below henabled).1
  · next hquiet =>
    refine ⟨fun henabled => ⟨(h.below henabled).1, Nat.not_le.1 (not_or.1 hquiet).1⟩, fun _ => Nat.succ_pos _, fun _ _ => ?_⟩
    dsimp only
    split
    · rfl
    · next hcount => exact h.measured (Nat.pos_of_ne_zero hcount) hp

theorem State.drainPart_coalescing (s : State) : s.drainPart.coalescer.cqs = s.coalescer.cqs := by
  rcases s.drainPart_cases with ⟨he, -⟩ | ⟨-, -, -, he⟩ <;> rw [he]
  rfl

theorem State.beginLoad_coalescing (s : State) : s.beginLoad.coalescer.cqs = s.coalescer.cqs := by
  unfold State.beginLoad
  dsimp only
  split <;> rfl

theorem State.handOff_coalescing (s : State) (c : ChannelId) (x : Context) (e : Ending) :
    (s.handOff c x e).coalescer.cqs = s.coalescer.cqs := by
  obtain ⟨u, hu, -, hcoalescer, -⟩ := State.handOff_eq_drainPart s c x e
  rw [hu, State.drainPart_coalescing, hcoalescer]

theorem State.postFault_coalescing (s : State) (r : RingId) (cause : FaultCause) :
    (s.postFault r cause).coalescer.cqs = s.coalescer.cqs := by
  unfold State.postFault
  split
  · rfl
  · simp

/-- The commands that can change a coalescing count or a holdoff timer. -/
def reachesCoalescing : Instr → Bool
  | .powerOnReset | .softReset _ | .setupLoadEnd _ _ | .mailboxFault | .completionWrite _ | .holdoffExpiry _ => true
  | _ => false

theorem exec_coalescing_kept {c : Instr} {s t : State} (hc : reachesCoalescing c = false) (h : exec c s = .next t) :
    t.coalescer.cqs = s.coalescer.cqs := by
  cases c with
  | powerOnReset | softReset | setupLoadEnd | mailboxFault | completionWrite | holdoffExpiry => cases hc
  | controlMaskWrite | controlUnknownCommand | select | ringctlUnknownCommand | setupWrite | statusWrite | intstatWrite =>
    cases h
    rfl
  | enable | quiesce | abort =>
    cases h
    split_ifs <;> simp [State.drainPart_coalescing, State.beginLoad_coalescing]
  | resume | fetchRequest | mPortGrant | ringResume | ringReset | ack | examination =>
    cases h
    split_ifs <;> simp [State.activate]
  | stop r =>
    cases h
    split_ifs <;> rfl
  | flush r =>
    cases h
    split
    · dsimp only
      split
      · rfl
      · rw [State.refreshFlush_coalescer]
        rfl
    · rfl
  | post r tail =>
    cases h
    split_ifs <;> simp [State.postFault_coalescing]
  | fetchComplete host ok =>
    rcases execFetchComplete_ends h with rfl | ⟨u, hended, -, rfl | ⟨r, req, rfl⟩⟩
    · rfl
    · rw [hended.coalescer]
    · rw [State.joinRecord_coalescer, hended.coalescer]
  | handOff c =>
    rcases execHandOff_cases h with rfl | ⟨x, e, -, rfl⟩
    · rfl
    · exact s.handOff_coalescing c x e
  | flushDisposal r =>
    cases h
    split
    · rfl
    · dsimp only
      split_ifs <;> simp
  | beatGrant | beatEnd | ready | readyTimeout => rw [(exec_beat_leavesQueues rfl h).coalescer]

/-- R167 check 6: a block that passes its checks has thresholds above 0. -/
theorem threshold_pos_of_setupCheck {b : SetupBlock} {current : WindowTable} (h : setupCheck b current = .none) (c : CqId)
    (henabled : (b.cqs.get c).enabled = true) : 1 ≤ (b.cqs.get c).threshold.toNat := by
  have hvalid : allCqs.all (coalesceValid b) = true := by
    by_contra hfalse
    simp only [setupCheck] at h
    split_ifs at h
    simp_all
  have hc := List.all_eq_true.1 hvalid c (by cases c <;> decide)
  simp only [coalesceValid, henabled, Bool.not_true, Bool.false_or, Bool.and_eq_true, decide_eq_true_eq] at hc
  exact hc.1.1

theorem coalesced_execSetupLoadEnd {host : List HostWrite} {ok : Bool} {s t : State}
    (hs : ∀ c, Coalesced s.control.part (s.cq c) (s.coalescer.cqs.get c)) (h : execSetupLoadEnd host ok s = .next t) (c : CqId) :
    Coalesced t.control.part (t.cq c) (t.coalescer.cqs.get c) := by
  rcases execSetupLoadEnd_ends h with rfl | ⟨u, hended, hwriter, hload⟩
  · exact hs c
  · have hu : Coalesced s.control.part (u.cq c) (u.coalescer.cqs.get c) := by
      rw [State.cq, hwriter, hended.coalescer]
      exact hs c
    rcases hload with rfl | ⟨hpart, b, rfl⟩
    · rwa [hended.control]
    · rcases u.loadBlock_cases b with ⟨e, he⟩ | ⟨hcheck, he⟩ <;> rw [he]
      · exact hu.kept (fun _ => by simp [hpart]) rfl rfl
      · have hclear : (u.finishLoad b).coalescer.cqs.get c = ⟨0, false⟩ := PerCq.get_all ..
        rw [hclear, State.finishLoad_cq]
        exact .cleared (threshold_pos_of_setupCheck hcheck c)

theorem coalesced_execMailboxFault {s t : State} (hs : ∀ c, Coalesced s.control.part (s.cq c) (s.coalescer.cqs.get c))
    (h : execMailboxFault s = .next t) (c : CqId) : Coalesced t.control.part (t.cq c) (t.coalescer.cqs.get c) := by
  have hcq : t.cq c = s.cq c := (exec_leavesCqs (c := .mailboxFault) rfl h).cq c
  rw [hcq]
  unfold execMailboxFault at h
  split at h
  · cases h
    exact hs c
  · next f rest _ =>
    simp only [Host.Outcome.next.injEq] at h
    generalize hu : (s.setMPort { s.mport with errors := rest }).loseEntry f.kind = u at h
    have hcontrol : u.control = s.control := by simp [← hu]
    have hcoalescer : u.coalescer = s.coalescer := by simp [← hu]
    subst h
    split
    · dsimp only
      rw [hcontrol, hcoalescer]
      exact hs c
    · have hstopped : (u.halt f).coalescer.cqs.get c = { s.coalescer.cqs.get c with timer := false } := by
        rw [← hcoalescer]
        cases c <;> rfl
      rw [hstopped]
      exact (hs c).halted

theorem coalesced_execCompletionWrite {result : WriteEnd} {s t : State}
    (hs : ∀ c, Coalesced s.control.part (s.cq c) (s.coalescer.cqs.get c)) (h : execCompletionWrite result s = .next t) (c : CqId) :
    Coalesced t.control.part (t.cq c) (t.coalescer.cqs.get c) := by
  have hcq : (t.cq c).enabled = (s.cq c).enabled ∧ (t.cq c).threshold = (s.cq c).threshold := by
    rcases execCompletionWrite_cqs h c with hq | hq <;> rw [hq] <;> exact ⟨rfl, rfl⟩
  suffices hkept : Coalesced t.control.part (s.cq c) (t.coalescer.cqs.get c) from hkept.kept id hcq.1 hcq.2
  rcases execCompletionWrite_ends h with rfl | ⟨hended, -⟩ | ⟨e, u, -, hended, hwriter, rfl⟩
  · exact hs c
  · rw [hended.control, hended.coalescer]
    exact hs c
  · split
    · rw [hended.control, hended.coalescer]
      exact hs c
    · next hpart =>
      rw [State.entryWritten_control, hended.control]
      have hcounted : (u.entryWritten e).coalescer.cqs = s.coalescer.cqs.set e.cq
          (coalesceWrite (s.cq e.cq).threshold.toNat (s.cq e.cq).holdoff.toNat (s.coalescer.cqs.get e.cq)).1 := by
        have hcounted : u.counted e = s.counted e := by
          rw [State.counted, State.cq, hwriter, hended.coalescer, State.counted, State.cq]
        rw [State.entryWritten_coalescer, hcounted, hended.coalescer]
        rfl
      rw [hcounted]
      by_cases hc : c = e.cq
      · subst hc
        rw [PerCq.get_set_same]
        exact (hs e.cq).written hpart _
      · rw [PerCq.get_set_other _ _ hc]
        exact hs c

theorem exec_coalescingLaw (c : Instr) (s t : State) (hs : coalescingLaw s) (h : exec c s = .next t) : coalescingLaw t := by
  rw [coalescingLaw_iff] at hs ⊢
  intro q
  cases c with
  | powerOnReset | softReset =>
    cases h
    have hcq : CompletionWriter.reset.cqs.get q = CompletionRing.reset := PerCq.get_all ..
    have hclear : Coalescer.reset.cqs.get q = ⟨0, false⟩ := PerCq.get_all ..
    rw [State.cq, State.resetBlocks_writer, State.resetBlocks_coalescer, hcq, hclear]
    exact .cleared nofun
  | setupLoadEnd host ok => exact coalesced_execSetupLoadEnd hs h q
  | mailboxFault => exact coalesced_execMailboxFault hs h q
  | completionWrite result => exact coalesced_execCompletionWrite hs h q
  | holdoffExpiry c =>
    cases h
    split
    · by_cases hq : q = c
      · subst hq
        dsimp only
        rw [PerCq.get_set_same]
        exact .cleared fun henabled => ((hs q).below henabled).1
      · dsimp only
        rw [PerCq.get_set_other _ _ hq]
        exact hs q
    · exact hs q
  | examination =>
    have hkept := exec_cqsKept (c := .examination) rfl h q
    have hsame : t.coalescer.cqs = s.coalescer.cqs := exec_coalescing_kept (c := .examination) rfl h
    have hcontrol : t.control = s.control := by
      cases h
      split <;> simp
    rw [hsame, hcontrol]
    exact (hs q).kept id hkept.enabled hkept.threshold
  | _ =>
    have hkept := exec_cqsKept rfl h q
    rw [exec_coalescing_kept rfl h]
    exact (hs q).kept (exec_leavesTables rfl h).stage.ne_halted hkept.enabled hkept.threshold

end Sys2Proof.Machine

/-! The errors that wait for the Control Unit (R34, R172, R173): at most one, and in HALTED that of the last access; and with it the laws
of the completion side. -/

namespace Sys2Proof.Machine

/-! ## The commands that end no access and take no fault -/

/-- No error is handed over or taken, the part does not enter HALTED, and in HALTED no access goes into service. -/
structure FaultsKept (s t : State) : Prop where
  errors : t.mport.errors = s.mport.errors
  halted : t.control.part = .halted → s.control.part = .halted
  service : t.control.part = .halted → s.mport.inService = none → t.mport.inService = none

theorem FaultsKept.law {s t : State} (h : FaultsKept s t) (hs : faultsLaw s) : faultsLaw t :=
  ⟨h.errors ▸ hs.1, fun hpart herrors => h.service hpart (hs.2 (h.halted hpart) (h.errors ▸ herrors))⟩

theorem FaultsKept.of_blocks {s t : State} (hpart : t.control.part = s.control.part) (hport : t.mport = s.mport) : FaultsKept s t :=
  ⟨by rw [hport], fun h => hpart ▸ h, fun _ h => hport ▸ h⟩

theorem FaultsKept.of_not_halted {s t : State} (hpart : t.control.part ≠ .halted) (herrors : t.mport.errors = s.mport.errors) :
    FaultsKept s t :=
  ⟨herrors, fun h => absurd h hpart, fun h => absurd h hpart⟩

theorem FaultsKept.refl (s : State) : FaultsKept s s := .of_blocks rfl rfl

/-- R169, R171: the drain does not lead to HALTED. -/
theorem FaultsKept.drainPart {s t : State} (h : FaultsKept s t) : FaultsKept s t.drainPart := by
  rcases t.drainPart_cases with ⟨he, -⟩ | ⟨-, -, -, he⟩ <;> rw [he]
  · exact h
  · exact .of_not_halted (by simp) h.errors

theorem faultsKept_beginLoad (s : State) : FaultsKept s s.beginLoad := by
  unfold State.beginLoad
  dsimp only
  split
  · exact .of_not_halted (by simp) rfl
  · exact .of_not_halted (by simp [State.failLoad]) rfl

/-- R64: a grant takes no error. -/
theorem grantAccess_errors (s : State) : (grantAccess s).errors = s.mport.errors := by
  unfold grantAccess
  dsimp only
  split
  · rfl
  · split <;> split <;> rfl

/-- R71: a ring RESET leaves the port free where it was. -/
theorem abandonFetch_inService (m : MPort) (r : RingId) (h : m.inService = none) : (abandonFetch m r).inService = none := by
  simp [abandonFetch, h]

theorem faultsKept_handOff (s : State) (c : ChannelId) (x : Context) (e : Ending) : FaultsKept s (s.handOff c x e) := by
  have hhanded : FaultsKept s (((((s.handEntry (channelCompletion s x e)).setMap (mapAfterRelease s.map x.generation)).drainSwitch
      (if lastRelease s.map x then s.map.pendingSwitch else none)).setChannel c .idle).examineDue) := .of_blocks (by simp) (by simp)
  exact hhanded.drainPart

/-- The commands that end an access, or take the fault of one. -/
def reachesFaults : Instr → Bool
  | .powerOnReset | .softReset _ | .fetchComplete _ _ | .setupLoadEnd _ _ | .completionWrite _ | .mailboxFault => true
  | _ => false

theorem exec_faultsKept {c : Instr} {s t : State} (hc : reachesFaults c = false) (h : exec c s = .next t) : FaultsKept s t := by
  cases c with
  | powerOnReset | softReset | fetchComplete | setupLoadEnd | completionWrite | mailboxFault => cases hc
  | controlMaskWrite | controlUnknownCommand | select | ringctlUnknownCommand | setupWrite | statusWrite | intstatWrite =>
    cases h
    exact .of_blocks rfl rfl
  | enable m =>
    cases h
    split
    · obtain ⟨herrors, hhalted, hservice⟩ := faultsKept_beginLoad (s.setMask m)
      exact ⟨herrors, hhalted, hservice⟩
    · exact .of_blocks rfl rfl
  | quiesce m =>
    cases h
    split
    · exact (FaultsKept.of_not_halted (s := s) (t := (s.setMask m).setPart .quiescing) (by simp) rfl).drainPart
    · exact .of_blocks rfl rfl
  | abort m =>
    cases h
    split
    · exact (FaultsKept.of_not_halted (s := s) (t := ((s.setMask m).setPart .aborting).flagAborts) (by simp) (by simp)).drainPart
    · exact .of_blocks rfl rfl
  | resume m =>
    cases h
    split
    · exact .of_not_halted (by simp) rfl
    · exact .of_blocks rfl rfl
  | stop | ringResume | flush | post | ack | holdoffExpiry | examination =>
    cases h
    apply FaultsKept.of_blocks <;> split_ifs <;> simp
  | ringReset r =>
    cases h
    split
    · exact ⟨rfl, id, fun _ => abandonFetch_inService _ r⟩
    · exact .of_blocks rfl rfl
  | fetchRequest r =>
    cases h
    split
    · exact ⟨rfl, id, fun _ => id⟩
    · exact .refl s
  | mPortGrant =>
    cases h
    split
    · next hfree => exact .of_not_halted hfree.2 (grantAccess_errors s)
    · exact .refl s
  | handOff c =>
    rcases execHandOff_cases h with rfl | ⟨x, e, -, rfl⟩
    · exact .refl _
    · exact faultsKept_handOff s c x e
  | flushDisposal r =>
    cases h
    split
    · exact .refl s
    · dsimp only
      split_ifs <;> exact .of_blocks (by simp) (by simp)
  | beatGrant | beatEnd | ready | readyTimeout =>
    have hleaves := exec_beat_leavesQueues rfl h
    exact .of_blocks (by rw [hleaves.control]) hleaves.mport

/-! ## The ends of the accesses, and the taking of a fault (R172, R173) -/

/-- R172, R173: an access ends only with no error waiting: in HALTED one that waits is that of the last access. -/
theorem AccessEnded.faultsLaw {s u : State} (h : AccessEnded s u) (hs : faultsLaw s) : faultsLaw u := by
  have hnone : s.mport.errors = [] := by
    by_contra hsome
    exact h.busy (hs.2 (((accessCanEnd_iff s).1 h.canEnd).resolve_right hsome) hsome)
  obtain ⟨es, hlength, herrors⟩ := h.errors
  exact ⟨by rwa [herrors, hnone], fun _ _ => h.free⟩

/-- R172: the fault taken was the only one. -/
theorem faultsLaw_execMailboxFault {s t : State} (hs : faultsLaw s) (h : execMailboxFault s = .next t) : faultsLaw t := by
  have hlaw : ∀ u : State, u.mport.errors = [] → faultsLaw u := fun u hnone =>
    ⟨by simp [hnone], fun _ hsome => absurd hnone hsome⟩
  unfold execMailboxFault at h
  split at h
  · cases h
    exact hs
  · next f rest herrors =>
    have hrest : rest = [] := by
      have hone := hs.1
      rw [herrors] at hone
      simpa using hone
    cases h
    refine hlaw _ ?_
    split <;> simp [hrest]

theorem exec_faultsLaw (c : Instr) (s t : State) (hs : faultsLaw s) (h : exec c s = .next t) : faultsLaw t := by
  cases c with
  | powerOnReset | softReset =>
    cases h
    exact ⟨Nat.zero_le _, fun _ hsome => absurd rfl hsome⟩
  | fetchComplete host ok =>
    rcases execFetchComplete_ends h with rfl | ⟨u, hended, -, rfl | ⟨r, req, rfl⟩⟩
    · exact hs
    · exact hended.faultsLaw hs
    · exact (FaultsKept.of_blocks (by simp) (by simp)).law (hended.faultsLaw hs)
  | setupLoadEnd host ok =>
    rcases execSetupLoadEnd_ends h with rfl | ⟨u, hended, -, rfl | ⟨-, b, rfl⟩⟩
    · exact hs
    · exact hended.faultsLaw hs
    · refine FaultsKept.law (.of_not_halted ?_ (by simp)) (hended.faultsLaw hs)
      rcases u.loadBlock_cases b with ⟨e, he⟩ | ⟨-, he⟩ <;> rw [he]
      · simp [State.failLoad]
      · simp [State.finishLoad]
  | completionWrite result =>
    rcases execCompletionWrite_ends h with rfl | ⟨hended, -⟩ | ⟨e, u, -, hended, -, rfl⟩
    · exact hs
    · exact hended.faultsLaw hs
    · split
      · exact hended.faultsLaw hs
      · exact (FaultsKept.of_blocks (by simp) (by simp)).law (hended.faultsLaw hs)
  | mailboxFault => exact faultsLaw_execMailboxFault hs h
  | _ => exact (exec_faultsKept rfl h).law hs

/-! ## Every step -/

/-- Settles O58, law by law: an entry is handed over only where it has room, a written record moves the tail, the phase and the count of
its completion ring together, and an access ends only with no error waiting. -/
theorem completionLawsKept : Obligations.CompletionLawsKept :=
  ⟨step_keeps (fun _ _ hs => hs) exec_postQueueLaw, step_keeps (fun _ _ hs => hs) exec_phaseLaw,
    step_keeps (fun _ _ hs => hs) exec_coalescingLaw, step_keeps (fun _ _ hs => hs) exec_faultsLaw⟩

end Sys2Proof.Machine

/-! EVENT (R78, R159): the entries at which it is set, and that no command sets it at another. -/

namespace Sys2Proof.Machine

/-! ## The entries of R159 -/

/-- A ring enters STOPPED or FAULTED; a FLUSH with nothing to flush enters STOPPED from STOPPED too (log entry 18). -/
def ringEnters (c : Instr) (s t : State) : Prop := ∃ r,
  ((t.ring r).phase = .stopped ∧ (s.ring r).phase ≠ .stopped) ∨
  ((t.ring r).phase = .faulted ∧ (s.ring r).phase ≠ .faulted) ∨
  (c = .flush r ∧ s.control.part ≠ .halted ∧ (s.ring r).phase = .stopped ∧ (t.ring r).phase = .stopped)

/-- The part enters QUIESCED, HALTED, or OFF at the end of a load, which an ENABLE may end at once (R165). -/
def partEnters (c : Instr) (s t : State) : Prop :=
  (t.control.part = .quiesced ∧ s.control.part ≠ .quiesced) ∨ (t.control.part = .halted ∧ s.control.part ≠ .halted) ∨
  (t.control.part = .off ∧ s.control.part = .loading) ∨
  ((∃ m, c = .enable m) ∧ s.control.part = .off ∧ t.control.part = .off)

/-- EVENT is set with an entry. -/
def Reported (c : Instr) (s t : State) : Prop := t.coalescer.intstat.event = true ∧ (ringEnters c s t ∨ partEnters c s t)

/-- The ring enters neither STOPPED nor FAULTED. -/
structure NoEntry (g g' : Ring) : Prop where
  stopped : g'.phase = .stopped → g.phase = .stopped
  faulted : g'.phase = .faulted → g.phase = .faulted

theorem NoEntry.of_phase {g g' : Ring} (h : g'.phase = g.phase) : NoEntry g g' := ⟨fun hp => h ▸ hp, fun hp => h ▸ hp⟩

theorem NoEntry.of_other {g g' : Ring} (hstopped : g'.phase ≠ .stopped) (hfaulted : g'.phase ≠ .faulted) : NoEntry g g' :=
  ⟨fun hp => absurd hp hstopped, fun hp => absurd hp hfaulted⟩

/-- No ring and no part state is entered that EVENT reports, no ring is marked as changed, and EVENT stays as it was. -/
structure Unreported (s t : State) : Prop where
  event : t.coalescer.intstat.event = s.coalescer.intstat.event
  rings : ∀ r, NoEntry (s.ring r) (t.ring r)
  part : ∀ p, p = .quiesced ∨ p = .halted ∨ p = .off → t.control.part = p → s.control.part = p
  marks : ∀ r, t.ringManager.ringsChanged.get r = true → s.ringManager.ringsChanged.get r = true

/-- The command reports nothing: what else counts as an entry, of a FLUSH and of an ENABLE, did not take place. -/
structure Silent (c : Instr) (s t : State) : Prop where
  unreported : Unreported s t
  flush : ∀ r, c = .flush r → s.control.part ≠ .halted → (s.ring r).phase = .stopped → (t.ring r).phase ≠ .stopped
  enable : ∀ m, c = .enable m → s.control.part = .off → t.control.part ≠ .off

theorem Silent.not_ringEnters {c : Instr} {s t : State} (h : Silent c s t) : ¬ringEnters c s t := by
  rintro ⟨r, ⟨hp, hp'⟩ | ⟨hp, hp'⟩ | ⟨hc, hpart, hp, hp'⟩⟩
  · exact hp' ((h.unreported.rings r).stopped hp)
  · exact hp' ((h.unreported.rings r).faulted hp)
  · exact h.flush r hc hpart hp hp'

theorem Silent.not_partEnters {c : Instr} {s t : State} (h : Silent c s t) : ¬partEnters c s t := by
  rintro (⟨hp, hp'⟩ | ⟨hp, hp'⟩ | ⟨hp, hp'⟩ | ⟨⟨m, hc⟩, hp, hp'⟩)
  · exact hp' (h.unreported.part _ (.inl rfl) hp)
  · exact hp' (h.unreported.part _ (.inr (.inl rfl)) hp)
  · exact absurd (hp'.symm.trans (h.unreported.part _ (.inr (.inr rfl)) hp)) nofun
  · exact h.enable m hc hp hp'

/-! ## The shared operations that report nothing -/

theorem Unreported.trans {s t u : State} (h : Unreported s t) (h' : Unreported t u) : Unreported s u where
  event := h'.event.trans h.event
  rings r := ⟨fun hp => (h.rings r).stopped ((h'.rings r).stopped hp), fun hp => (h.rings r).faulted ((h'.rings r).faulted hp)⟩
  part p hq hp := h.part p hq (h'.part p hq hp)
  marks r hr := h.marks r (h'.marks r hr)

theorem unreported_of_blocks {s t : State} (hpart : t.control.part = s.control.part) (hrings : t.ringManager.rings = s.ringManager.rings)
    (hmarks : t.ringManager.ringsChanged = s.ringManager.ringsChanged)
    (hevent : t.coalescer.intstat.event = s.coalescer.intstat.event) : Unreported s t where
  event := hevent
  rings r := .of_phase (by rw [State.ring, hrings, State.ring])
  part p _ hp := hpart ▸ hp
  marks r hr := hmarks ▸ hr

theorem Unreported.refl (s : State) : Unreported s s := unreported_of_blocks rfl rfl rfl rfl

/-- The part goes to a state that EVENT does not report, and the rings are as they were. -/
theorem unreported_of_part {s t : State} (hpart : t.control.part ≠ .quiesced ∧ t.control.part ≠ .halted ∧ t.control.part ≠ .off)
    (hrings : t.ringManager.rings = s.ringManager.rings) (hmarks : t.ringManager.ringsChanged = s.ringManager.ringsChanged)
    (hevent : t.coalescer.intstat.event = s.coalescer.intstat.event) : Unreported s t where
  event := hevent
  rings r := .of_phase (by rw [State.ring, hrings, State.ring])
  part p hq hp := by
    rcases hq with rfl | rfl | rfl
    · exact absurd hp hpart.1
    · exact absurd hp hpart.2.1
    · exact absurd hp hpart.2.2
  marks r hr := hmarks ▸ hr

theorem unreported_setRing {s : State} {r : RingId} {g : Ring} (h : NoEntry (s.ring r) g) : Unreported s (s.setRing r g) where
  event := rfl
  rings r' := by
    rw [State.ring_setRing]
    split
    · next hr => exact hr ▸ h
    · exact .of_phase rfl
  part _ _ hp := hp
  marks _ hr := hr

/-- Entering a phase that EVENT does not report, after a step that reports nothing. -/
theorem Unreported.enter {s t : State} (h : Unreported s t) {r : RingId} {g : Ring} {p : RingPhase} (hstopped : p ≠ .stopped)
    (hfaulted : p ≠ .faulted) : Unreported s (t.setRing r (g.enter p)) :=
  h.trans (unreported_setRing (g := g.enter p) (.of_other hstopped hfaulted))

/-- Changing a ring but for its phase, after a step that reports nothing. -/
theorem Unreported.setRing {s t : State} (h : Unreported s t) {r : RingId} {g : Ring} (hphase : g.phase = (t.ring r).phase) :
    Unreported s (t.setRing r g) :=
  h.trans (unreported_setRing (.of_phase hphase))

theorem unreported_selectRing (s : State) (r : RingId) : Unreported s (s.selectRing r) := unreported_of_blocks rfl rfl rfl rfl

theorem unreported_refreshFlush (s : State) (r : RingId) : Unreported s (s.refreshFlush r) := by
  unfold State.refreshFlush
  split
  · exact unreported_setRing (.of_phase rfl)
  · exact .refl s

theorem unreported_joinRecord (s : State) (r : RingId) (req : FetchRequest) : Unreported s (s.joinRecord r req) := by
  have hjoined (p : Prefetched) :
      Unreported s (s.setRing r { s.ring r with queue := (s.ring r).queue ++ [p], fetch := (s.ring r).fetch + 1 }) :=
    unreported_setRing (.of_phase rfl)
  unfold State.joinRecord
  dsimp only
  split_ifs
  · exact hjoined _
  · exact ((hjoined _).trans (unreported_refreshFlush _ r)).trans (unreported_of_blocks rfl rfl rfl rfl)
  · exact (hjoined _).trans (unreported_refreshFlush _ r)

theorem unreported_activate (s : State) (r : RingId) : Unreported s (s.activate r) :=
  (unreported_setRing (.of_other (by simp [Ring.enter]) (by simp [Ring.enter]))).trans (unreported_of_blocks rfl rfl rfl rfl)

theorem unreported_postApply (s : State) (r : RingId) (tail : Count) : Unreported s (s.postApply r tail) := by
  have htail : Unreported s (s.setRing r { s.ring r with tail := tail }) := unreported_setRing (.of_phase rfl)
  unfold State.postApply
  dsimp only
  split
  · exact htail.trans (unreported_activate _ r)
  · exact htail

theorem unreported_handEntry (s : State) (e : Completion) : Unreported s (s.handEntry e) := by
  by_cases h : (s.ring e.ring).stopsFor e.status
  · rw [State.handEntry_of_stops s h]
    have hposted : Unreported s (s.setPostQueue (s.writer.postQueue ++ [e])) := unreported_of_blocks rfl rfl rfl rfl
    exact hposted.enter nofun nofun
  · rw [State.handEntry_of_not_stops s h]
    exact unreported_of_blocks rfl rfl rfl rfl

theorem unreported_setWaits (s : State) : Unreported s s.setWaits where
  event := rfl
  rings r := by
    rw [State.setWaits_ring, examinedRing]
    split <;> exact .of_phase rfl
  part _ _ hp := hp
  marks _ hr := hr

theorem unreported_takeHead (s : State) (r : RingId) : Unreported s (s.takeHead r) := by
  have htaken : NoEntry (s.ring r) (ringAfterTaking (s.ring r)) := by
    by_cases hlast : (s.ring r).queue.tail = [] ∧ ringPending (s.ring r) = 0
    · rw [ringAfterTaking, if_pos hlast]
      exact .of_other nofun nofun
    · rw [ringAfterTaking, if_neg hlast]
      exact .of_phase rfl
  exact (unreported_setRing htaken).trans (unreported_of_blocks (by simp [State.takeHead]) (by simp [State.takeHead])
    (by simp [State.takeHead]) (by simp [State.takeHead]))

theorem unreported_carryOut (s : State) (r : RingId) (p : Prefetched) (plan : Plan) : Unreported s (s.carryOut r p plan) := by
  have hmap (m : MapUnit) : Unreported s (s.setMap m) := unreported_of_blocks rfl rfl rfl rfl
  have hcompleted (m : MapUnit) (st : Status) (d : Detail) : Unreported s ((s.setMap m).completeHead r p st d) :=
    (hmap m).trans (unreported_handEntry _ _)
  cases plan with
  | refuse st d => exact hcompleted s.map st d
  | complete => exact hcompleted s.map .ok .none
  | mapset i e => exact hcompleted _ .ok .none
  | maprevert => exact hcompleted _ .ok .none
  | mapswitch =>
    simp only [State.carryOut]
    split
    · exact hmap _
    · exact hcompleted _ .ok .none
  | transfer k a b c d =>
    exact unreported_of_blocks (by simp [State.carryOut]) (by simp [State.carryOut]) (by simp [State.carryOut]) (by simp [State.carryOut])

theorem unreported_examine (s : State) : Unreported s s.examine := by
  rcases s.examine_cases with ⟨-, he⟩ | ⟨r, p, plan, -, -, he⟩ <;> rw [he]
  · exact (unreported_setWaits s).trans (unreported_of_blocks rfl rfl rfl rfl)
  · exact (((unreported_setWaits s).trans (unreported_takeHead _ r)).trans (unreported_carryOut _ r p plan)).trans
      (unreported_of_blocks rfl rfl rfl rfl)

theorem unreported_execFlushDisposal {r : RingId} {s t : State} (h : execFlushDisposal r s = .next t) : Unreported s t := by
  have hreserved : Unreported s (s.reserveDisposal r) := by
    unfold State.reserveDisposal
    dsimp only
    split
    · exact .refl s
    · exact ((Unreported.refl s).setRing (r := r) (g := { s.ring r with disposalReserved := true }) rfl).trans
        (unreported_of_blocks rfl rfl rfl rfl)
  have hdisposed (u : State) (p : Prefetched) : Unreported u (u.disposeHead r p) :=
    ((Unreported.refl u).setRing (r := r)
      (g := { u.ring r with queue := (u.ring r).queue.tail, inFlight := (u.ring r).inFlight + 1, disposalReserved := false })
      rfl).trans (unreported_handEntry _ _)
  cases h
  split
  · exact .refl s
  · next p _ _ =>
    split
    · exact .refl s
    · split
      · refine .trans ?_ (unreported_refreshFlush _ r)
        split
        · exact hreserved.trans (hdisposed _ p)
        · exact hreserved
      · exact unreported_refreshFlush s r

/-! ## The commands that report an entry (R58, R68, R73, R165 to R172) -/

/-- R169, R171: the part is drained with EVENT set, or nothing is reported. -/
theorem drainPart_reports {c : Instr} {s u : State} (hu : Silent c s u) (hpart : s.control.part ≠ .quiesced) :
    Silent c s u.drainPart ∨ Reported c s u.drainPart := by
  rcases u.drainPart_cases with ⟨he, -⟩ | ⟨-, -, -, he⟩ <;> rw [he]
  · exact .inl hu
  · exact .inr ⟨rfl, .inr (.inl ⟨rfl, hpart⟩)⟩

theorem execEnable_reports {m : Sources} {s t : State} (h : execEnable m s = .next t) :
    Silent (.enable m) s t ∨ Reported (.enable m) s t := by
  cases h
  split
  · next hoff =>
    unfold State.beginLoad
    dsimp only
    split
    · exact .inl ⟨unreported_of_part (by simp) rfl rfl rfl, nofun, fun _ _ _ => by simp⟩
    · exact .inr ⟨rfl, .inr (.inr (.inr (.inr ⟨⟨m, rfl⟩, hoff, rfl⟩)))⟩
  · next hon => exact .inl ⟨unreported_of_blocks rfl rfl rfl rfl, nofun, fun _ _ hoff => absurd hoff hon⟩

theorem execQuiesce_reports {m : Sources} {s t : State} (h : execQuiesce m s = .next t) :
    Silent (.quiesce m) s t ∨ Reported (.quiesce m) s t := by
  cases h
  split
  · next hrunning =>
    have hpart : s.control.part = .running := hrunning
    exact drainPart_reports ⟨unreported_of_part (by simp) rfl rfl rfl, nofun, nofun⟩ (by simp [hpart])
  · exact .inl ⟨unreported_of_blocks rfl rfl rfl rfl, nofun, nofun⟩

theorem execAbort_reports {m : Sources} {s t : State} (h : execAbort m s = .next t) :
    Silent (.abort m) s t ∨ Reported (.abort m) s t := by
  cases h
  split
  · next hbusy =>
    have hpart : s.control.part = .running ∨ s.control.part = .quiescing := hbusy
    exact drainPart_reports ⟨unreported_of_part (by simp) rfl rfl rfl, nofun, nofun⟩ (by rcases hpart with hp | hp <;> simp [hp])
  · exact .inl ⟨unreported_of_blocks rfl rfl rfl rfl, nofun, nofun⟩

theorem execStop_reports {r : RingId} {s t : State} (h : execStop r s = .next t) : Silent (.stop r) s t ∨ Reported (.stop r) s t := by
  cases h
  split
  · next htaken =>
    have hphase : (s.ring r).phase ≠ .stopped := by
      rcases (show (s.ring r).phase = .idle ∨ (s.ring r).phase = .active from htaken.2) with hp | hp <;> simp [hp]
    split
    · refine .inr ⟨rfl, .inl ⟨r, .inl ⟨?_, hphase⟩⟩⟩
      rw [State.ring_enterStopped_same]
      rfl
    · exact .inl ⟨(unreported_selectRing s r).enter nofun nofun, nofun, nofun⟩
  · exact .inl ⟨unreported_of_blocks rfl rfl rfl rfl, nofun, nofun⟩

theorem State.endFlush_phase (s : State) (r : RingId) : ((s.endFlush r).ring r).phase = .stopped :=
  congrArg Ring.phase (s.ring_setRing_same r _)

/-- R73, R75, R78: a FLUSH with nothing to flush reports its end. -/
theorem execFlush_reports {r : RingId} {s t : State} (h : execFlush r s = .next t) :
    Silent (.flush r) s t ∨ Reported (.flush r) s t := by
  cases h
  split
  · next htaken =>
    obtain ⟨hpart, hfrom⟩ : s.control.part ≠ .halted ∧
        ((s.ring r).phase = .stopped ∨ ((s.ring r).phase = .faulted ∧ (s.ring r).inFlight = 0)) := htaken
    have hflushing : Unreported s ((s.selectRing r).setRing r { (s.ring r).enter .flushing with flushTarget := (s.ring r).tail }) :=
      (unreported_selectRing s r).trans (unreported_setRing (.of_other nofun nofun))
    have hphase : (((s.selectRing r).setRing r { (s.ring r).enter .flushing with flushTarget := (s.ring r).tail }).ring r).phase =
        .flushing := congrArg Ring.phase ((s.selectRing r).ring_setRing_same r _)
    dsimp only
    split
    · refine .inr ⟨rfl, .inl ⟨r, ?_⟩⟩
      rcases hfrom with hp | ⟨hp, -⟩
      · exact .inr (.inr ⟨rfl, hpart, hp, State.endFlush_phase _ r⟩)
      · exact .inl ⟨State.endFlush_phase _ r, by simp [hp]⟩
    · refine .inl ⟨hflushing.trans (unreported_refreshFlush _ r), ?_, nofun⟩
      intro r' hc _ _ hp
      cases hc
      exact absurd (hphase.symm.trans ((unreported_refreshFlush _ r).rings r |>.stopped hp)) nofun
  · next hrefused =>
    refine .inl ⟨unreported_of_blocks rfl rfl rfl rfl, ?_, nofun⟩
    intro r' hc hpart hp
    cases hc
    exact absurd ⟨hpart, .inl hp⟩ hrefused

theorem postFault_reports {r : RingId} {tail : Count} (s : State) (cause : FaultCause) :
    Silent (.post r tail) s (s.postFault r cause) ∨ Reported (.post r tail) s (s.postFault r cause) := by
  unfold State.postFault
  split
  · exact .inl ⟨.refl s, nofun, nofun⟩
  · next hphase =>
    refine .inr ⟨rfl, .inl ⟨r, .inr (.inl ⟨?_, hphase⟩)⟩⟩
    exact congrArg Ring.phase ((s.withdrawDisposal r).ring_setRing_same r _)

theorem execPost_reports {r : RingId} {tail : Count} {s t : State} (h : execPost r tail s = .next t) :
    Silent (.post r tail) s t ∨ Reported (.post r tail) s t := by
  cases h
  split
  · exact .inl ⟨unreported_of_blocks rfl rfl rfl rfl, nofun, nofun⟩
  · split
    · exact postFault_reports s _
    · split
      · exact postFault_reports s _
      · exact .inl ⟨unreported_postApply s r tail, nofun, nofun⟩

theorem AccessEnded.unreported {s u : State} (h : AccessEnded s u) : Unreported s u :=
  unreported_of_blocks (by rw [h.control]) (by rw [h.ringManager]) (by rw [h.ringManager]) (by rw [h.coalescer])

theorem unreported_execFetchComplete {host : List HostWrite} {ok : Bool} {s t : State} (h : execFetchComplete host ok s = .next t) :
    Unreported s t := by
  rcases execFetchComplete_ends h with rfl | ⟨u, hended, -, rfl | ⟨r, req, rfl⟩⟩
  · exact .refl _
  · exact hended.unreported
  · exact hended.unreported.trans (unreported_joinRecord u r req)

/-- R168: a load that passes takes no ring to STOPPED or FAULTED. -/
theorem unreported_finishLoad (s : State) (b : SetupBlock) : Unreported s (s.finishLoad b) where
  event := rfl
  rings r := by
    rw [State.finishLoad_ring]
    simp only [loadedRing]
    split <;> exact .of_other (by simp) (by simp)
  part p hq hp := by
    rcases hq with rfl | rfl | rfl <;> cases hp
  marks _ hr := hr

theorem execSetupLoadEnd_reports {host : List HostWrite} {ok : Bool} {s t : State} (h : execSetupLoadEnd host ok s = .next t) :
    Silent (.setupLoadEnd host ok) s t ∨ Reported (.setupLoadEnd host ok) s t := by
  rcases execSetupLoadEnd_ends h with rfl | ⟨u, hended, -, rfl | ⟨hpart, b, rfl⟩⟩
  · exact .inl ⟨.refl _, nofun, nofun⟩
  · exact .inl ⟨hended.unreported, nofun, nofun⟩
  · rcases u.loadBlock_cases b with ⟨e, he⟩ | ⟨-, he⟩ <;> rw [he]
    · exact .inr ⟨rfl, .inr (.inr (.inr (.inl ⟨rfl, hpart⟩)))⟩
    · exact .inl ⟨hended.unreported.trans (unreported_finishLoad u b), nofun, nofun⟩

theorem execMailboxFault_reports {s t : State} (h : execMailboxFault s = .next t) :
    Silent .mailboxFault s t ∨ Reported .mailboxFault s t := by
  unfold execMailboxFault at h
  split at h <;> cases h
  · exact .inl ⟨.refl s, nofun, nofun⟩
  · split
    · exact .inl ⟨unreported_of_blocks (by simp) (by simp) (by simp) (by simp), nofun, nofun⟩
    · next hpart => exact .inr ⟨rfl, .inr (.inr (.inl ⟨rfl, hpart⟩))⟩

theorem handOff_reports {c : ChannelId} (s : State) (x : Context) (e : Ending) :
    Silent (.handOff c) s (s.handOff c x e) ∨ Reported (.handOff c) s (s.handOff c x e) := by
  generalize hu : (((((s.handEntry (channelCompletion s x e)).setMap (mapAfterRelease s.map x.generation)).drainSwitch
    (if lastRelease s.map x then s.map.pendingSwitch else none)).setChannel c .idle).examineDue) = u
  have hrings : u.ringManager = (s.handEntry (channelCompletion s x e)).ringManager := by simp [← hu]
  have hcontrol : u.control = s.control := by simp [← hu]
  have hunreported : Unreported s u :=
    (unreported_handEntry s (channelCompletion s x e)).trans
      (unreported_of_blocks (by simp [hcontrol]) (by rw [hrings]) (by rw [hrings]) (by simp [← hu]))
  have hhandOff : s.handOff c x e = u.drainPart := by
    rw [← hu]
    rfl
  rw [hhandOff]
  rcases u.drainPart_cases with ⟨he, -⟩ | ⟨hpart, -, -, -⟩
  · rw [he]
    exact .inl ⟨hunreported, nofun, nofun⟩
  · refine drainPart_reports ⟨hunreported, nofun, nofun⟩ fun hp => ?_
    rw [hcontrol, hp] at hpart
    simp at hpart

theorem setCqSource_event (i : Sources) (c : CqId) : (setCqSource i c).event = i.event := by
  cases c <;> rfl

/-- R69, R75, R78: the ring of a written record reports its STOPPED. -/
theorem entryWritten_reports {result : WriteEnd} (s : State) (e : Completion) :
    Silent (.completionWrite result) s (s.entryWritten e) ∨ Reported (.completionWrite result) s (s.entryWritten e) := by
  have hmanager : (s.entryWritten e).ringManager = (s.ringWritten e).ringManager := by simp [State.entryWritten, State.ringWritten]
  have hring (r : RingId) : (s.entryWritten e).ring r = (s.ringWritten e).ring r := by rw [State.ring, hmanager, State.ring]
  have hevent : (s.entryWritten e).coalescer.intstat.event = (s.ringWritten e).coalescer.intstat.event := by
    rw [State.entryWritten_coalescer]
    dsimp only
    split
    · exact setCqSource_event ..
    · rfl
  by_cases hstops : s.recordStops e.ring
  · refine .inr ⟨by rw [hevent, State.ringWritten_of_stops hstops]; rfl, .inl ⟨e.ring, .inl ⟨?_, ?_⟩⟩⟩
    · rw [hring, State.ringWritten_of_stops hstops, State.reportRing_ring, State.ring_setRing_same]
      rfl
    · rcases hstops with ⟨hp, -⟩ | ⟨hp, -⟩ <;> simp [hp]
  · have hlowered : Unreported s (s.ringWritten e) := by
      rw [State.ringWritten_of_not_stops hstops]
      have hcounted : Unreported s (s.setCq e.cq (cqAfterWrite (s.cq e.cq))) := unreported_of_blocks rfl rfl rfl rfl
      exact hcounted.setRing rfl
    have hrest : Unreported (s.ringWritten e) (s.entryWritten e) :=
      unreported_of_blocks (by rw [State.entryWritten_control, State.ringWritten, State.recordWritten_control, State.setCq_control])
        (by rw [hmanager]) (by rw [hmanager]) hevent
    exact .inl ⟨hlowered.trans hrest, nofun, nofun⟩

theorem execCompletionWrite_reports {result : WriteEnd} {s t : State} (h : execCompletionWrite result s = .next t) :
    Silent (.completionWrite result) s t ∨ Reported (.completionWrite result) s t := by
  rcases execCompletionWrite_ends h with rfl | ⟨hended, -⟩ | ⟨e, u, -, hended, -, rfl⟩
  · exact .inl ⟨.refl _, nofun, nofun⟩
  · exact .inl ⟨hended.unreported, nofun, nofun⟩
  · split
    · exact .inl ⟨hended.unreported, nofun, nofun⟩
    · have hsame : ∀ r, u.ring r = s.ring r := hended.ring
      rcases entryWritten_reports (result := result) u e with ⟨hquiet, -, -⟩ | ⟨hevent, ⟨r, hr⟩ | hpart⟩
      · exact .inl ⟨hended.unreported.trans hquiet, nofun, nofun⟩
      · exact .inr ⟨hevent, .inl ⟨r, by rwa [hsame r, hended.control] at hr⟩⟩
      · exact .inr ⟨hevent, .inr (by rwa [partEnters, hended.control] at hpart)⟩

/-! ## Every command -/

/-- R159: a command other than a reset and a host clear reports an entry, or reports nothing. -/
theorem exec_reports {c : Instr} {s t : State} (hreset : ¬isReset c) (hclear : ∀ w, c ≠ .intstatWrite w) (h : exec c s = .next t) :
    Silent c s t ∨ Reported c s t := by
  cases c with
  | powerOnReset => exact absurd (.inl rfl) hreset
  | softReset m => exact absurd (.inr ⟨m, rfl⟩) hreset
  | intstatWrite w => exact absurd rfl (hclear w)
  | enable m => exact execEnable_reports h
  | quiesce m => exact execQuiesce_reports h
  | abort m => exact execAbort_reports h
  | stop r => exact execStop_reports h
  | flush r => exact execFlush_reports h
  | post r tail => exact execPost_reports h
  | setupLoadEnd host ok => exact execSetupLoadEnd_reports h
  | mailboxFault => exact execMailboxFault_reports h
  | handOff c =>
    rcases execHandOff_cases h with rfl | ⟨x, e, -, rfl⟩
    · exact .inl ⟨.refl _, nofun, nofun⟩
    · exact handOff_reports s x e
  | completionWrite result => exact execCompletionWrite_reports h
  | resume m =>
    cases h
    refine .inl ⟨?_, nofun, nofun⟩
    split
    · exact unreported_of_part (by simp) rfl rfl rfl
    · exact unreported_of_blocks rfl rfl rfl rfl
  | ringResume r =>
    cases h
    refine .inl ⟨?_, nofun, nofun⟩
    split_ifs
    · exact (unreported_selectRing s r).trans (unreported_activate (s.selectRing r) r)
    · exact (unreported_selectRing s r).enter nofun nofun
    · exact unreported_of_blocks rfl rfl rfl rfl
  | ringReset r =>
    cases h
    refine .inl ⟨?_, nofun, nofun⟩
    split
    · have hreset : Unreported s ((s.selectRing r).setRing r
          { (s.ring r).enter .idle with queue := [], tail := 0, fetch := 0, cause := .none }) :=
        (unreported_selectRing s r).trans (unreported_setRing (.of_other nofun nofun))
      exact hreset.trans (unreported_of_blocks rfl rfl rfl rfl)
    · exact unreported_of_blocks rfl rfl rfl rfl
  | controlMaskWrite | controlUnknownCommand | select | ringctlUnknownCommand | setupWrite =>
    cases h
    exact .inl ⟨unreported_of_blocks rfl rfl rfl rfl, nofun, nofun⟩
  | statusWrite w =>
    cases h
    refine .inl ⟨⟨rfl, fun _ => .of_phase rfl, fun _ _ hp => hp, fun r hr => ?_⟩, nofun, nofun⟩
    cases r <;> exact (Bool.and_eq_true .. ▸ hr).1
  | ack | fetchRequest | mPortGrant =>
    cases h
    refine .inl ⟨?_, nofun, nofun⟩
    split <;> exact unreported_of_blocks rfl rfl rfl rfl
  | holdoffExpiry q =>
    cases h
    refine .inl ⟨?_, nofun, nofun⟩
    split
    · exact unreported_of_blocks rfl rfl rfl (setCqSource_event ..)
    · exact .refl s
  | examination =>
    cases h
    refine .inl ⟨?_, nofun, nofun⟩
    split
    · exact .refl s
    · exact unreported_examine s
  | fetchComplete host ok => exact .inl ⟨unreported_execFetchComplete h, nofun, nofun⟩
  | flushDisposal r => exact .inl ⟨unreported_execFlushDisposal h, nofun, nofun⟩
  | beatGrant | beatEnd | ready | readyTimeout =>
    have hleaves := exec_beat_leavesQueues rfl h
    exact .inl ⟨unreported_of_blocks (by rw [hleaves.control]) (by rw [hleaves.ringManager]) (by rw [hleaves.ringManager])
      (by rw [hleaves.coalescer]), nofun, nofun⟩

/-- R158: a host clear enters nothing, and marks no ring. -/
theorem intstatWrite_enters_nothing {w : Word32} {s t : State} (h : exec (.intstatWrite w) s = .next t) :
    ¬ringEnters (.intstatWrite w) s t ∧ ¬partEnters (.intstatWrite w) s t ∧ t.ringManager = s.ringManager := by
  cases h
  simp +contextual [ringEnters, partEnters, State.ring]

/-- Settles O49, command by command: each sets EVENT with an entry, or enters nothing and leaves EVENT. -/
theorem eventEntries : Obligations.EventEntries := by
  intro c s t h _ _ marked
  refine ⟨fun hreset henters => ?_, fun hreset hclear hring hpart => ?_, fun hreset => ?_⟩
  · by_cases hclear : ∀ w, c ≠ .intstatWrite w
    · rcases exec_reports hreset hclear h with hsilent | ⟨hevent, -⟩
      · rcases henters with hr | hp | ⟨r, hr, hr'⟩
        · exact absurd hr hsilent.not_ringEnters
        · exact absurd hp hsilent.not_partEnters
        · exact absurd (hr'.symm.trans (hsilent.unreported.marks r hr)) nofun
      · exact hevent
    · obtain ⟨w, rfl⟩ := not_forall_not.1 hclear
      obtain ⟨hring, hpart, hmanager⟩ := intstatWrite_enters_nothing h
      rcases henters with hr | hp | ⟨r, hr, hr'⟩
      · exact absurd hr hring
      · exact absurd hp hpart
      · rw [hmanager, hr'] at hr
        exact absurd hr nofun
  · rcases exec_reports hreset hclear h with hsilent | ⟨-, hr | hp⟩
    · exact hsilent.unreported.event
    · exact absurd hr hring
    · exact absurd hp hpart
  · obtain ⟨control, map, hexec⟩ := exec_reset hreset s
    cases hexec.symm.trans h
    rfl

end Sys2Proof.Machine

/-! The registers and timers of the completion rings: an ACK and the expiry of a holdoff timer (R155, R157). -/

namespace Sys2Proof.Machine

/-- Settles O14, by the one condition that an ACK is dropped on. -/
theorem ackFreesRoomOrIsDropped : Obligations.AckFreesRoomOrIsDropped := by
  intro c h s q taken
  have hdropped : s.control.part = .off ∨ s.control.part = .loading ∨ s.control.part = .halted ∨ q.enabled = false ∨
      cqUsed q < h.since q.head ↔ ¬taken := by
    simp only [taken, ne_eq, not_and_or, not_not, Bool.not_eq_true, not_le]
    rfl
  have hack : exec (.ack c h) s = execAck c h s := rfl
  constructor
  · intro htaken
    rw [hack, execAck, if_neg (mt hdropped.1 (not_not.2 htaken))]
    rfl
  · intro hfails
    rw [hack, execAck, if_pos (hdropped.2 hfails)]

/-- Settles O25, by whether the timer runs. -/
theorem holdoffExpirySignals : Obligations.HoldoffExpirySignals := by
  intro c s
  have hexpiry : exec (.holdoffExpiry c) s = execHoldoffExpiry c s := rfl
  constructor
  · intro hruns
    rw [hexpiry, execHoldoffExpiry, if_pos hruns]
    cases c <;> simp [setCqSource]
  · intro hstopped
    rw [hexpiry, execHoldoffExpiry, if_neg (by simp [hstopped])]

end Sys2Proof.Machine

/-! The end of a completion write (R151, R153): what it does as whole-state equations, when it fails at a word, and when it ends whole. -/

namespace Sys2Proof.Machine

/-! ## The equations of COMPLETION_WRITE -/

/-- R64, R151: the record of an entry stands in its slot, the entry has left the post queue, and the port is free. -/
def State.recordPlaced (s : State) (e : Completion) : State :=
  { s.freePort.writerEntryLeaves with
    mailbox := putWords s.mailbox (cqSlotAddr (s.cq e.cq)) (e.words (s.cq e.cq).phase) writeOrder }

/-- R153: mailbox memory after a write that failed at word `i`: the words before it are written (log entry 26), and the word holds a
free value (log entry 7). -/
def State.mailboxFailedAt (s : State) (e : Completion) (i : Fin 4) : MailboxMemory :=
  putWord (putWords s.mailbox (cqSlotAddr (s.cq e.cq)) (e.words (s.cq e.cq).phase) (writeOrder.takeWhile fun j => decide (j ≠ i)))
    (cqSlotAddr (s.cq e.cq)) i (Config.failedWord s.freeIndex)

section

variable {s : State} {e : Completion}

theorem exec_completionWrite_done (hservice : s.mport.inService = some ⟨.completionWrite, .live⟩) (hcan : accessCanEnd s = true)
    (he : writerEntry s = some e) :
    exec (.completionWrite .done) s =
      .next (if s.control.part = .halted then s.recordPlaced e else (s.recordPlaced e).entryWritten e) := by
  have hexec : exec (.completionWrite .done) s = execCompletionWrite .done s := rfl
  rw [hexec, execCompletionWrite, hservice, hcan]
  simp only [he]
  rfl

theorem exec_completionWrite_failedAt (hservice : s.mport.inService = some ⟨.completionWrite, .live⟩)
    (hcan : accessCanEnd s = true) (he : writerEntry s = some e) (i : Fin 4) :
    exec (.completionWrite (.failedAt i)) s =
      .next ({ s.freePort with mailbox := s.mailboxFailedAt e i, freeIndex := s.freeIndex + 1 }.reportFault .postWrite
        (cqSlotAddr (s.cq e.cq))) := by
  have hexec : exec (.completionWrite (.failedAt i)) s = execCompletionWrite (.failedAt i) s := rfl
  rw [hexec, execCompletionWrite, hservice, hcan]
  simp only [he]
  rfl

/-- R162: a write that a reset abandoned frees the port alone. -/
theorem exec_completionWrite_abandoned {result : WriteEnd} (hservice : s.mport.inService = some ⟨.completionWrite, .abandoned⟩)
    (hcan : accessCanEnd s = true) : exec (.completionWrite result) s = .next s.freePort := by
  have hexec : exec (.completionWrite result) s = execCompletionWrite result s := rfl
  rw [hexec, execCompletionWrite, hservice, hcan]
  rfl

/-- Log entries 2 and 16: with no completion write in service, or before a fault that waits is taken, nothing ends. -/
theorem exec_completionWrite_idle {result : WriteEnd}
    (h : (∀ fate, s.mport.inService ≠ some ⟨.completionWrite, fate⟩) ∨ accessCanEnd s = false) :
    exec (.completionWrite result) s = .next s := by
  have hexec : exec (.completionWrite result) s = execCompletionWrite result s := rfl
  rw [hexec]
  unfold execCompletionWrite
  split
  · next fate hservice hcan =>
    rcases h with hnone | hcannot
    · exact absurd hservice (hnone fate)
    · exact absurd (hcan.symm.trans hcannot) nofun
  · rfl

/-! ## The slot after a write that failed at a word -/

/-- Log entry 26: the words written before word `i`. -/
theorem mem_writtenBefore (i j : Fin 4) :
    (j ∈ writeOrder.takeWhile fun k => decide (k ≠ i)) ↔ (i = 0 ∧ j ≠ 0) ∨ (i ≠ 0 ∧ j ≠ 0 ∧ j < i) := by
  revert i j
  decide

variable (hmemory : Memory.wf s.mailbox = true) (i : Fin 4)

include hmemory

theorem mailboxFailedAt_word {j : Fin 4} (hj : j ≠ i) :
    mailboxWord (s.mailboxFailedAt e i) (cqSlotAddr (s.cq e.cq) + BitVec.ofNat 16 (4 * j.val)) =
      if (i = 0 ∧ j ≠ 0) ∨ (i ≠ 0 ∧ j ≠ 0 ∧ j < i) then (e.words (s.cq e.cq).phase)[j]
      else mailboxWord s.mailbox (cqSlotAddr (s.cq e.cq) + BitVec.ofNat 16 (4 * j.val)) := by
  rw [State.mailboxFailedAt, mailboxWord_putWord (Memory.wf_putWords hmemory ..), if_neg hj, mailboxWord_putWords hmemory]
  simp only [mem_writtenBefore]

theorem mailboxFailedAt_outside {a : MailboxAddr} (ha : ∀ n : Nat, n < 16 → a ≠ cqSlotAddr (s.cq e.cq) + BitVec.ofNat 16 n) :
    mailboxByte (s.mailboxFailedAt e i) a = mailboxByte s.mailbox a :=
  (mailboxByte_putWord_outside (Memory.wf_putWords hmemory ..) _ ha i _).trans (mailboxByte_putWords_outside hmemory ha _ _)

/-! ## The slot after a write that ended whole -/

theorem recordPlaced_word (j : Fin 4) :
    mailboxWord (s.recordPlaced e).mailbox (cqSlotAddr (s.cq e.cq) + BitVec.ofNat 16 (4 * j.val)) = (e.words (s.cq e.cq).phase)[j] := by
  have hall : j ∈ writeOrder := by
    revert j
    decide
  exact (mailboxWord_putWords hmemory _ _ _ j).trans (if_pos hall)

theorem recordPlaced_byte (j n : Fin 4) :
    mailboxByte (s.recordPlaced e).mailbox (cqSlotAddr (s.cq e.cq) + BitVec.ofNat 16 (4 * j.val + n.val)) =
      ((e.words (s.cq e.cq).phase)[j]).extractLsb' (8 * n.val) 8 := by
  rw [← recordPlaced_word hmemory j, mailboxWord_byte, slotByte_eq]

theorem recordPlaced_outside {a : MailboxAddr} (ha : ∀ n : Nat, n < 16 → a ≠ cqSlotAddr (s.cq e.cq) + BitVec.ofNat 16 n) :
    mailboxByte (s.recordPlaced e).mailbox a = mailboxByte s.mailbox a :=
  mailboxByte_putWords_outside hmemory ha _ _

end

/-- R149, R151: an entry whose record is placed leaves from behind those whose write has failed. -/
theorem State.recordPlaced_writer {s : State} {lost rest : List Completion} {e : Completion}
    (hqueue : s.writer.postQueue = lost ++ e :: rest) (hlost : lost.length = failedWrites s) :
    (s.recordPlaced e).writer = { s.writer with postQueue := lost ++ rest } :=
  congrArg (fun q : List Completion => { s.writer with postQueue := q })
    (State.writerEntryLeaves_postQueue s.freePort (e := e) hqueue hlost)

/-- Settles O23, by the equations of a write that is not in service, abandoned, failed at a word, and whole in HALTED. -/
theorem completionWriteFailsOrIsFrozen : Obligations.CompletionWriteFailsOrIsFrozen := by
  refine ⟨fun result s => ⟨fun h => ?_, fun hservice hends => ?_⟩, ?_⟩
  · refine exec_completionWrite_idle (h.imp_right fun ⟨hpart, herrors⟩ => ?_)
    rw [← Bool.not_eq_true, accessCanEnd_iff]
    exact not_or.2 ⟨hpart, herrors⟩
  · exact exec_completionWrite_abandoned hservice ((accessCanEnd_iff s).2 hends)
  · intro e lost rest s hservice hqueue hlost hends hmemory q slot new wordAt outside
    have hcan : accessCanEnd s = true := (accessCanEnd_iff s).2 hends
    have he : writerEntry s = some e := writerEntry_append s hqueue hlost
    refine ⟨fun i => ⟨_, exec_completionWrite_failedAt hservice hcan he i, fun j hj => ?_, fun j hi hj => ?_, fun a ha => ?_, rfl⟩,
      fun hpart => ⟨s.recordPlaced e, ?_, fun j => recordPlaced_word hmemory j, fun a ha => recordPlaced_outside hmemory ha, ?_⟩⟩
    · have hother : j ≠ i := by
        rcases hj with ⟨rfl, hj⟩ | ⟨-, -, hlt⟩
        · exact hj
        · exact hlt.ne
      exact (mailboxFailedAt_word hmemory i hother).trans (if_pos hj)
    · have hother : j ≠ i := by
        rcases hj with rfl | hlt
        · exact hi.symm
        · exact hlt.ne'
      refine (mailboxFailedAt_word hmemory i hother).trans (if_neg ?_)
      rintro (⟨hzero, -⟩ | ⟨-, hnonzero, hlt'⟩)
      · exact hi hzero
      · exact hj.elim hnonzero hlt'.asymm
    · exact mailboxFailedAt_outside hmemory i ha
    · rw [exec_completionWrite_done hservice hcan he, if_pos hpart]
    · rw [← State.recordPlaced_writer hqueue hlost]
      rfl

end Sys2Proof.Machine

/-! A completion record counted (R151): tail, in-flight count, hazard list, coalescing and EVENT after a whole completion write. -/

namespace Sys2Proof.Machine

/-! ## What a counted record changes, block by block -/

theorem State.entryWritten_ringManager (s : State) (e : Completion) : (s.entryWritten e).ringManager = (s.ringWritten e).ringManager := by
  simp [State.entryWritten, State.ringWritten]

theorem State.entryWritten_writer (s : State) (e : Completion) :
    (s.entryWritten e).writer = { s.writer with cqs := s.writer.cqs.set e.cq (cqAfterWrite (s.cq e.cq)) } := by
  simp [State.entryWritten]

/-- R97, R81: the record's hazard list entry leaves, and an examination follows. -/
theorem State.entryWritten_issue (s : State) (e : Completion) :
    (s.entryWritten e).issue =
      { s.issue with
        hazards := s.issue.hazards.set e.ring
          ((s.issue.hazards.get e.ring).filter fun h => decide (e.transferKey ≠ some h.key))
        due := true } := by
  simp only [State.entryWritten, State.examineDue_issue, State.coalesce_issue, State.dropHazard_issue, State.recordWritten_issue,
    State.setCq_issue]

/-- R97: the hazard lists without the entry of a written transfer, list by list. -/
theorem hazardsAfterDrop (lists : PerRing (List Hazard)) (e : Completion) (r : RingId) :
    (lists.set e.ring ((lists.get e.ring).filter fun h => decide (e.transferKey ≠ some h.key))).get r =
      match e.transferKey with
      | some key => if r = e.ring then (lists.get r).filter fun h => h.key ≠ key else lists.get r
      | none => lists.get r := by
  rw [PerRing.get_set]
  by_cases hr : r = e.ring
  · cases e.transferKey <;> simp [hr, eq_comm]
  · cases e.transferKey <;> simp [hr]

/-! ## The ring of the record (R66, R69, R75) -/

theorem State.entryWritten_ring_other (s : State) (e : Completion) {r : RingId} (h : r ≠ e.ring) :
    (s.entryWritten e).ring r = s.ring r := by
  rw [State.entryWritten_ring, State.recordWritten_ring_other _ h]
  rfl

theorem State.entryWritten_ring_of_stops {s : State} {e : Completion} (h : s.recordStops e.ring) :
    (s.entryWritten e).ring e.ring = (s.ring e.ring).stoppedBy := by
  rw [State.ring, State.entryWritten_ringManager, State.ringWritten_of_stops h]
  simp

theorem State.entryWritten_ring_of_not_stops {s : State} {e : Completion} (h : ¬s.recordStops e.ring) :
    (s.entryWritten e).ring e.ring = (s.ring e.ring).lowered := by
  rw [State.ring, State.entryWritten_ringManager, State.ringWritten_of_not_stops h]
  simp

/-- R78: the ring is marked as changed exactly when its record takes it to STOPPED. -/
theorem State.entryWritten_ringsChanged {s : State} {e : Completion} {stops : Bool} (hstops : stops = true ↔ s.recordStops e.ring)
    (r : RingId) :
    (s.entryWritten e).ringManager.ringsChanged.get r = (s.ringManager.ringsChanged.get r || (decide (r = e.ring) && stops)) := by
  rw [State.entryWritten_ringManager]
  cases stops with
  | true =>
    rw [State.ringWritten_of_stops (hstops.1 rfl)]
    by_cases hr : r = e.ring <;> simp [hr]
  | false =>
    rw [State.ringWritten_of_not_stops (mt hstops.2 nofun)]
    simp

theorem State.entryWritten_selected (s : State) (e : Completion) :
    (s.entryWritten e).ringManager.selected = s.ringManager.selected := by
  rw [State.entryWritten_ringManager]
  by_cases h : s.recordStops e.ring
  · rw [State.ringWritten_of_stops h]
    rfl
  · rw [State.ringWritten_of_not_stops h]
    rfl

/-! ## Coalescing (R156) -/

/-- R156: the record signals its completion ring: it reaches the threshold, or the holdoff is 0. -/
def State.recordSignals (s : State) (c : CqId) : Prop :=
  (s.cq c).threshold.toNat ≤ (s.coalescer.cqs.get c).count + 1 ∨ (s.cq c).holdoff = 0

theorem State.counted_of_signals {s : State} {e : Completion} (h : s.recordSignals e.cq) : s.counted e = (⟨0, false⟩, true) :=
  if_pos (h.imp_right fun hzero => by rw [hzero]; rfl)

theorem State.counted_of_not_signals {s : State} {e : Completion} (h : ¬s.recordSignals e.cq) :
    s.counted e =
      (⟨(s.coalescer.cqs.get e.cq).count + 1, decide ((s.coalescer.cqs.get e.cq).count = 0) || (s.coalescer.cqs.get e.cq).timer⟩,
        false) := by
  have hcounts : s.counted e =
      (⟨(s.coalescer.cqs.get e.cq).count + 1,
        if (s.coalescer.cqs.get e.cq).count = 0 then true else (s.coalescer.cqs.get e.cq).timer⟩, false) :=
    if_neg fun hcase => h (hcase.imp_right BitVec.eq_of_toNat_eq)
  rw [hcounts]
  by_cases hzero : (s.coalescer.cqs.get e.cq).count = 0 <;> simp [hzero]

/-- R78: EVENT is set when the record takes its ring to STOPPED; no other source changes with the ring. -/
theorem State.ringWritten_intstat {s : State} {e : Completion} {stops : Bool} (hstops : stops = true ↔ s.recordStops e.ring) :
    (s.ringWritten e).coalescer.intstat = { s.coalescer.intstat with event := s.coalescer.intstat.event || stops } := by
  cases stops with
  | true =>
    rw [State.ringWritten_of_stops (hstops.1 rfl)]
    simp
  | false =>
    rw [State.ringWritten_of_not_stops (mt hstops.2 nofun)]
    simp

/-- R156, R159: the sources after a counted record. -/
theorem State.entryWritten_intstat {s : State} {e : Completion} {stops signals : Bool}
    (hstops : stops = true ↔ s.recordStops e.ring) (hsignals : signals = true ↔ s.recordSignals e.cq) :
    (s.entryWritten e).coalescer.intstat =
      { cq0 := s.coalescer.intstat.cq0 || (decide (e.cq = .cq0) && signals)
        cq1 := s.coalescer.intstat.cq1 || (decide (e.cq = .cq1) && signals)
        event := s.coalescer.intstat.event || stops } := by
  rw [State.entryWritten_coalescer]
  dsimp only
  rw [State.ringWritten_intstat hstops]
  cases signals with
  | true =>
    rw [State.counted_of_signals (hsignals.1 rfl)]
    cases e.cq <;> simp [setCqSource]
  | false =>
    rw [State.counted_of_not_signals (mt hsignals.2 nofun)]
    simp

/-! ## The state the record is counted in -/

/-- R62: the completion write in service is no fetch, so freeing the port ends none. -/
theorem fetchInProgress_recordPlaced {s : State} {e : Completion} (hservice : s.mport.inService = some ⟨.completionWrite, .live⟩)
    (r : RingId) : fetchInProgress (s.recordPlaced e) r = fetchInProgress s r := by
  rw [fetchInProgress, fetchInProgress, hservice]
  rfl

theorem recordStops_recordPlaced {s : State} {e : Completion} (hservice : s.mport.inService = some ⟨.completionWrite, .live⟩)
    (r : RingId) : (s.recordPlaced e).recordStops r = s.recordStops r := by
  rw [State.recordStops, State.recordStops, fetchInProgress_recordPlaced hservice]
  rfl

/-- Settles O22: the record is placed in its slot, and then counted. -/
theorem completionWriteCounts : Obligations.CompletionWriteCounts := by
  intro e rest s hservice hqueue herrors hpart hmemory q g k slot tail left stops signals
  have hcan : accessCanEnd s = true := (accessCanEnd_iff s).2 (.inr herrors)
  have hlost : ([] : List Completion).length = failedWrites s := by simp [failedWrites, herrors]
  have he : writerEntry s = some e := writerEntry_append s hqueue hlost
  have hexec : exec (.completionWrite .done) s = .next ((s.recordPlaced e).entryWritten e) :=
    (exec_completionWrite_done hservice hcan he).trans (by rw [if_neg hpart])
  have hwriter : ((s.recordPlaced e).entryWritten e).writer =
      { s.writer with postQueue := rest, cqs := s.writer.cqs.set e.cq (cqAfterWrite (s.cq e.cq)) } := by
    rw [State.entryWritten_writer, State.recordPlaced_writer hqueue hlost]
    rfl
  have hcq (c : CqId) : ((s.recordPlaced e).entryWritten e).cq c = (s.writer.cqs.set e.cq (cqAfterWrite (s.cq e.cq))).get c := by
    rw [State.cq, hwriter]
  have hissue := State.entryWritten_issue (s.recordPlaced e) e
  have hstops : (s.recordPlaced e).recordStops e.ring = stops := recordStops_recordPlaced hservice e.ring
  have hmailbox : ((s.recordPlaced e).entryWritten e).mailbox = (s.recordPlaced e).mailbox := State.entryWritten_mailbox ..
  have hcoalesced (c : CqId) : ((s.recordPlaced e).entryWritten e).coalescer.cqs.get c =
      (s.coalescer.cqs.set e.cq ((s.recordPlaced e).counted e).1).get c := by
    rw [State.entryWritten_coalescer]
    rfl
  refine ⟨_, hexec, fun i => ?_, fun i n => ?_, fun a ha => ?_, ?_, ?_, ?_, fun c hc => ?_, fun h => ?_, fun h => ?_, fun r hr => ?_,
    fun r => ?_, ?_, fun r => ?_, ?_, ?_, ?_, ?_, fun h => ?_, fun h => ?_, fun c hc => ?_, ?_, ?_, ?_, ?_, ?_, ?_, ?_⟩
  · rw [hmailbox]
    exact recordPlaced_word hmemory i
  · rw [hmailbox]
    exact recordPlaced_byte hmemory i n
  · rw [hmailbox]
    exact recordPlaced_outside hmemory ha
  · rw [hwriter]
  · rw [hwriter]
  · rw [hcq, PerCq.get_set_same]
    rfl
  · rw [hcq, PerCq.get_set_other _ _ hc]
    rfl
  · exact State.entryWritten_ring_of_not_stops (hstops ▸ h)
  · exact State.entryWritten_ring_of_stops (hstops ▸ h)
  · exact State.entryWritten_ring_other _ _ hr
  · exact State.entryWritten_ringsChanged (s := s.recordPlaced e) (decide_eq_true_iff.trans (.of_eq hstops.symm)) r
  · exact State.entryWritten_selected ..
  · rw [hissue]
    exact hazardsAfterDrop s.issue.hazards e r
  · rw [hissue]
    rfl
  · rw [hissue]
  · rw [hissue]
    rfl
  · rw [hissue]
    rfl
  · rw [hcoalesced, PerCq.get_set_same, State.counted_of_signals (s := s.recordPlaced e) h]
  · rw [hcoalesced, PerCq.get_set_same, State.counted_of_not_signals (s := s.recordPlaced e) h]
    rfl
  · exact (hcoalesced c).trans (PerCq.get_set_other _ _ hc)
  · exact State.entryWritten_intstat (s := s.recordPlaced e) (decide_eq_true_iff.trans (.of_eq hstops.symm)) decide_eq_true_iff
  · exact State.entryWritten_mport ..
  · exact State.entryWritten_control ..
  · exact State.entryWritten_map ..
  · exact State.entryWritten_channels ..
  · exact State.entryWritten_ports ..
  · exact State.entryWritten_banks ..

end Sys2Proof.Machine

/-! Both resets: what they put every block in, in every part state, and the laws of the part right after power-on reset (R39, R40, R79, R80,
R137, R147, R162, R163, R173, R175, R176). -/

namespace Sys2Proof.Machine

/-! ## The blocks after a reset (R175, R176) -/

theorem State.resetBlocks_blocksReset (s : State) (control : ControlUnit) (map : MapUnit) :
    blocksReset s (s.resetBlocks control map) :=
  ⟨PerRing.get_all _, rfl, rfl, rfl, PerRing.get_all _, rfl, rfl, PerRing.get_all _, rfl, PerChannel.get_all _, PerArbiter.get_all _,
    PerDevice.get_all _, rfl, PerCq.get_all _, rfl, rfl, PerCq.get_all _, rfl, rfl, PerRing.get_all _, rfl, rfl, rfl⟩

/-- Settles O5: both resets are `State.resetBlocks`, of a Control Unit and a Map Unit that the two differ in. -/
theorem resetStates : Obligations.ResetStates := fun _ s =>
  ⟨⟨_, rfl, rfl, entryAt_cleared, rfl, rfl, rfl, rfl, rfl, s.resetBlocks_blocksReset _ _⟩,
    ⟨_, rfl, rfl, rfl, rfl, rfl, rfl, rfl, rfl, s.resetBlocks_blocksReset _ _⟩⟩

/-! ## The reset part, family by family -/

@[simp] theorem State.reset_ring (r : RingId) : State.reset.ring r = Ring.reset := PerRing.get_all ..
@[simp] theorem State.reset_cq (c : CqId) : State.reset.cq c = CompletionRing.reset := PerCq.get_all ..
@[simp] theorem State.reset_coalescing (c : CqId) : State.reset.coalescer.cqs.get c = ⟨0, false⟩ := PerCq.get_all ..
@[simp] theorem State.reset_hazards (r : RingId) : State.reset.issue.hazards.get r = [] := PerRing.get_all ..
@[simp] theorem State.reset_fetchWaiting (r : RingId) : State.reset.mport.fetchWaiting.get r = none := PerRing.get_all ..
@[simp] theorem State.reset_liveRead (r : RingId) : liveRead State.reset r = none := rfl
@[simp] theorem State.reset_fetchInProgress (r : RingId) : fetchInProgress State.reset r = false := by cases r <;> rfl

/-! ## The laws that no step lemma has at a reset -/

/-- R56 to R63: nothing is posted, fetched or queued. -/
theorem ringsLaw_reset : ringsLaw State.reset := by
  have hpending : ringPending Ring.reset = 0 := by decide
  refine ⟨fun r => ?_, fun _ r => ⟨by rw [State.reset_ring]; rfl, State.reset_fetchInProgress r⟩⟩
  refine ⟨?_, ?_, ?_, ?_, fun _ => rfl, ?_, ?_⟩
  · rw [State.reset_ring, hpending]
    exact Nat.zero_le _
  · rw [State.reset_ring]
    exact fun i p hp => by cases hp
  · simp [Ring.reset]
  · simp
  · simp
  · simp [Ring.reset]

theorem ringReportsLaw_reset : ringReportsLaw State.reset := fun r => by
  rw [State.reset_ring]
  exact ⟨fun _ _ => rfl, fun _ _ => rfl, nofun⟩

theorem quietWhenOff_reset : quietWhenOff State.reset := fun _ => ⟨fun r => by rw [State.reset_ring]; rfl, rfl, rfl, rfl⟩

/-- R152: an empty completion ring has phase 1. -/
theorem phaseLaw_reset : phaseLaw State.reset := fun c => by
  rw [State.reset_cq]
  rfl

theorem coalescingLaw_reset : coalescingLaw State.reset := (coalescingLaw_iff _).2 fun c => by
  rw [State.reset_cq, State.reset_coalescing]
  exact .cleared nofun

theorem hazardLaw_reset : hazardLaw State.reset := fun r => by
  rw [State.reset_hazards]
  exact .nil

/-- Settles O60, law by law. Where the laws of later states have a form of their own, what every reset leaves is a state of it, of the
reset part too. -/
theorem lawsHoldAtReset : Obligations.LawsHoldAtReset := by
  have hrecords : CountsRecords State.reset.control.part State.reset.ring State.reset.standing :=
    countsRecords_resetBlocks State.reset ControlUnit.reset (m := MapUnit.reset) rfl
  have hcovers : Covers State.reset.cq State.reset.holders :=
    covers_resetBlocks State.reset ControlUnit.reset (m := MapUnit.reset) rfl
  have hlisted : transfersListed State.reset := transfersListed_resetBlocks State.reset ControlUnit.reset MapUnit.reset
  have hplaced (i : BitVec 4) : entryPlaced (entryAt WindowTable.cleared i) := by
    rw [entryAt_cleared]
    exact entryPlaced_cleared
  exact ⟨rfl, ⟨tableDisjoint_cleared, tableDisjoint_cleared⟩, fun _ _ => rfl, tablesValid_of_reset rfl rfl hplaced,
    beatsInside_of_ports_reset rfl rfl, (bindingLaw_iff _).2 (.idle rfl rfl rfl), ⟨nofun, by rintro (h | h) <;> cases h⟩, ringsLaw_reset,
    ringReportsLaw_reset, (inFlightLaw_iff _).2 ⟨rfl, hrecords⟩,
    (reservationLaw_iff _).2 ⟨quietWhenOff_reset, rfl, hcovers⟩, Nat.zero_le _, phaseLaw_reset, coalescingLaw_reset,
    ⟨Nat.zero_le _, nofun⟩, hazardLaw_reset, hlisted, nofun, rfl⟩

end Sys2Proof.Machine

/-! The CONTROL commands: what each does as a whole-state equation, taken and refused (R54, R112, R164, R165, R168 to R171). -/

namespace Sys2Proof.Machine

/-! ## ENABLE (R165) -/

theorem setupFits_iff (a : MailboxAddr) : setupFits a = true ↔ a.toNat ≤ 0xFFD0 := by
  simp only [setupFits, decide_eq_true_eq]
  omega

section

variable {s : State}

theorem State.beginLoad_of_fits (h : s.control.setupAddr.toNat ≤ 0xFFD0) :
    s.beginLoad = { s with
      control := { s.control with part := .loading, setupError := .none }
      mport := { s.mport with setupWaiting := some s.control.setupAddr } } :=
  if_pos ((setupFits_iff _).2 h)

theorem State.beginLoad_of_not_fits (h : 0xFFD0 < s.control.setupAddr.toNat) :
    s.beginLoad = { s with
      control := { s.control with part := .off, setupError := .badPlacement }
      coalescer := { s.coalescer with intstat := { s.coalescer.intstat with event := true } } } :=
  if_neg fun hfits => absurd ((setupFits_iff _).1 hfits) (Nat.not_le.2 h)

theorem exec_enable_taken (m : Sources) (h : s.control.part = .off) : exec (.enable m) s = .next (s.setMask m).beginLoad :=
  congrArg Host.Outcome.next (if_pos h)

theorem exec_enable_refused (m : Sources) (h : s.control.part ≠ .off) :
    exec (.enable m) s = .next (s.setMask m).refuseControl :=
  congrArg Host.Outcome.next (if_neg h)

/-! ## QUIESCE, ABORT and RESUME (R169, R170, R171) -/

theorem drained_iff (s : State) : drained s ↔ s.channel .c0 = .idle ∧ s.channel .c1 = .idle ∧ s.map.pendingSwitch = none := by
  rw [drained, channelsIdle_iff]
  exact ⟨fun ⟨hidle, hswitch⟩ => ⟨hidle .c0, hidle .c1, hswitch⟩,
    fun ⟨h0, h1, hswitch⟩ => ⟨fun c => by cases c; exacts [h0, h1], hswitch⟩⟩

theorem State.drainPart_of_drained (h : drained s) (hpart : s.control.part = .quiescing ∨ s.control.part = .aborting) :
    s.drainPart = (s.setPart .quiesced).setEvent :=
  if_pos ⟨hpart, h⟩

theorem State.drainPart_of_not_drained (h : ¬drained s) : s.drainPart = s :=
  if_neg fun hdrains => h hdrains.2

theorem exec_quiesce_taken (m : Sources) (h : s.control.part = .running) :
    exec (.quiesce m) s = .next ((s.setMask m).setPart .quiescing).drainPart :=
  congrArg Host.Outcome.next (if_pos h)

theorem exec_quiesce_refused (m : Sources) (h : s.control.part ≠ .running) :
    exec (.quiesce m) s = .next (s.setMask m).refuseControl :=
  congrArg Host.Outcome.next (if_neg h)

theorem exec_abort_taken (m : Sources) (h : s.control.part = .running ∨ s.control.part = .quiescing) :
    exec (.abort m) s = .next (((s.setMask m).setPart .aborting).flagAborts).drainPart :=
  congrArg Host.Outcome.next (if_pos h)

theorem exec_abort_refused (m : Sources) (h : ¬(s.control.part = .running ∨ s.control.part = .quiescing)) :
    exec (.abort m) s = .next (s.setMask m).refuseControl :=
  congrArg Host.Outcome.next (if_neg h)

theorem exec_resume_taken (m : Sources) (h : s.control.part = .quiesced) :
    exec (.resume m) s = .next ((s.setMask m).setPart .running).examineDue :=
  congrArg Host.Outcome.next (if_pos h)

theorem exec_resume_refused (m : Sources) (h : s.control.part ≠ .quiesced) :
    exec (.resume m) s = .next (s.setMask m).refuseControl :=
  congrArg Host.Outcome.next (if_neg h)

/-- R112: an abort finds no channel to flag where both are IDLE. -/
theorem State.flagAborts_of_drained (h : drained s) : s.flagAborts = s := by
  obtain ⟨h0, h1, -⟩ := (drained_iff s).1 h
  have hflag : ∀ ch : Channel, ch = .idle → ch.flagAbort = ch := by
    rintro _ rfl
    rfl
  rw [State.flagAborts, hflag s.channels.c0 h0, hflag s.channels.c1 h1]

theorem drained_flagAborts : drained s.flagAborts ↔ drained s := drained_congr (by simp) (by simp)

end

/-- Settles O7, command by command. A write that is not taken falls through to the refusal. -/
theorem controlCommandsTaken : Obligations.ControlCommandsTaken := by
  refine ⟨⟨fun m s hoff => ⟨fun hfits => ?_, fun hfits => ?_⟩, fun m s => ?_⟩, fun c m s => ⟨rfl, fun hquiesced => ?_, ?_⟩⟩
  · exact (exec_enable_taken m hoff).trans (congrArg _ (State.beginLoad_of_fits (s := s.setMask m) hfits))
  · exact (exec_enable_taken m hoff).trans (congrArg _ (State.beginLoad_of_not_fits (s := s.setMask m) hfits))
  · intro drained flag quiesced
    have hflag : flag = Channel.flagAbort := funext fun ch => by cases ch <;> rfl
    have hmoved (p : PartState) : Machine.drained ((s.setMask m).setPart p) ↔ drained := drained_iff s
    refine ⟨fun hrunning => ⟨fun hd => ?_, fun hd => ?_⟩, fun hpart => ⟨fun hd => ?_, fun hd => ?_⟩⟩
    · rw [exec_quiesce_taken m hrunning, State.drainPart_of_drained ((hmoved _).2 hd) (.inl rfl)]
      rfl
    · rw [exec_quiesce_taken m hrunning, State.drainPart_of_not_drained (mt (hmoved _).1 hd)]
      rfl
    · rw [exec_abort_taken m hpart, State.flagAborts_of_drained ((hmoved _).2 hd),
        State.drainPart_of_drained ((hmoved _).2 hd) (.inr rfl)]
      rfl
    · rw [exec_abort_taken m hpart, State.drainPart_of_not_drained (mt ((hmoved _).1 ∘ drained_flagAborts.1) hd), hflag]
      rfl
  · exact exec_resume_taken m hquiesced
  · rintro (⟨rfl, hpart⟩ | ⟨rfl, hpart⟩ | ⟨rfl, hpart⟩ | ⟨rfl, hpart⟩ | ⟨k, rfl⟩)
    · exact exec_enable_refused m hpart
    · exact exec_quiesce_refused m hpart
    · exact exec_abort_refused m (not_or.2 hpart)
    · exact exec_resume_refused m hpart
    · rfl

end Sys2Proof.Machine

/-! The checks of a setup block, each as the rule that it tests, and the codes that they give in their order (R20, R166, R167). -/

namespace Sys2Proof.Machine

/-! ## The rings of a block (R55, R146, R166) -/

theorem mem_allCqs (c : CqId) : c ∈ allCqs := by cases c <;> decide

theorem mem_allDevices (d : DeviceId) : d ∈ allDevices := by cases d <;> decide

/-- R166: the enabled rings of a block are the places that its first checks look at. -/
theorem ringPlaces_all (b : SetupBlock) (p : RingPlace → Bool) :
    (ringPlaces b).all p = true ↔
      (∀ r, (b.rings.get r).enabled = true → p ⟨(b.rings.get r).base.toNat, 32, (b.rings.get r).depthCode⟩ = true) ∧
      (∀ c, (b.cqs.get c).enabled = true → p ⟨(b.cqs.get c).base.toNat, 16, (b.cqs.get c).depthCode⟩ = true) := by
  simp only [ringPlaces, List.all_append, List.all_filterMap, Bool.and_eq_true, List.all_eq_true, mem_allRings, mem_allCqs,
    true_imp_iff]
  refine and_congr (forall_congr' fun r => ?_) (forall_congr' fun c => ?_)
  · cases (b.rings.get r).enabled <;> simp
  · cases (b.cqs.get c).enabled <;> simp

theorem depthCodeValid_iff (d : BitVec 4) : depthCodeValid d = true ↔ 2 ≤ d.toNat ∧ d.toNat ≤ 8 := by
  simp [depthCodeValid]

/-- Check 2, for one ring. -/
theorem placeValid_iff (base bytes : Nat) (d : BitVec 4) :
    placeValid ⟨base, bytes, d⟩ = true ↔
      base % bytes = 0 ∧ (2 ≤ d.toNat ∧ d.toNat ≤ 8 → base + bytes * 2 ^ d.toNat ≤ 65536) := by
  rw [← depthCodeValid_iff, placeValid, Bool.and_eq_true, decide_eq_true_eq]
  refine and_congr_right fun _ => ?_
  cases depthCodeValid d with
  | false => simp
  | true => exact decide_eq_true_iff.trans ⟨fun h _ => h, fun h => h rfl⟩

theorem placesOverlap_eq_false_iff (p q : RingPlace) :
    placesOverlap p q = false ↔ p.base + placeBytes p ≤ q.base ∨ q.base + placeBytes q ≤ p.base := by
  simp only [placesOverlap, Bool.and_eq_false_iff, decide_eq_false_iff_not, Nat.not_lt]
  exact or_comm

/-- Check 4: each place is apart from every later one. -/
theorem anyOverlap_eq_false_iff (places : List RingPlace) :
    anyOverlap places = false ↔ places.Pairwise fun p q => p.base + placeBytes p ≤ q.base ∨ q.base + placeBytes q ≤ p.base := by
  induction places with
  | nil => simp [anyOverlap]
  | cons p rest ih =>
    simp only [anyOverlap, Bool.or_eq_false_iff, ih, List.pairwise_cons, List.any_eq_false, ← placesOverlap_eq_false_iff,
      Bool.not_eq_true]

/-! ## Its completion rings, devices and windows (R20, R167) -/

/-- Check 5, for one ring. -/
theorem cqNamed_iff (b : SetupBlock) (r : RingId) :
    cqNamed b r = true ↔ ((b.rings.get r).enabled = true → (b.cqs.get (b.rings.get r).cq).enabled = true) := by
  rw [cqNamed]
  cases (b.rings.get r).enabled <;> simp

/-- Check 6, for one completion ring. -/
theorem coalesceValid_iff (b : SetupBlock) (c : CqId) :
    coalesceValid b c = true ↔ ((b.cqs.get c).enabled = true →
      1 ≤ (b.cqs.get c).threshold.toNat ∧ (b.cqs.get c).threshold.toNat ≤ 32 ∧ (b.cqs.get c).holdoff.toNat ≤ 1023) := by
  rw [coalesceValid]
  cases (b.cqs.get c).enabled <;> simp [and_assoc]

/-- Check 7, for one device. -/
theorem deviceValid_iff (b : SetupBlock) (d : DeviceId) :
    deviceValid b d = true ↔ ((b.devices.get d).present = true →
      12 ≤ (b.devices.get d).profile.sizeCode.toNat ∧ (b.devices.get d).profile.sizeCode.toNat ≤ 20 ∧
        1 ≤ (b.devices.get d).profile.timeout.toNat) := by
  rw [deviceValid]
  cases (b.devices.get d).present <;> simp [and_assoc]

theorem blockProfiles_get (b : SetupBlock) (d : DeviceId) :
    (blockProfiles b).get d = if (b.devices.get d).present then some (b.devices.get d).profile else none := by
  cases d <;> rfl

/-- Check 8, for one entry. -/
theorem keptEntryFits_iff (b : SetupBlock) (e : WindowEntry) :
    keptEntryFits (blockProfiles b) e = true ↔
      ∀ d, e.enabled = true → e.target = .device d →
        (b.devices.get d).present = true ∧ e.targetBase.toNat + windowSize e ≤ 2 ^ (b.devices.get d).profile.sizeCode.toNat := by
  unfold keptEntryFits
  split
  · next k hk => simp [hk]
  · next d hd =>
    have htarget (d' : DeviceId) : e.target = .device d' ↔ d' = d := by rw [hd, Target.device.injEq, eq_comm]
    rw [blockProfiles_get]
    cases hpresent : (b.devices.get d).present with
    | false => cases e.enabled <;> simp [htarget, hpresent]
    | true => cases e.enabled <;> simp [htarget, hpresent]

/-! ## The checks in their order -/

/-- Settles O20: each check is true exactly when its rule holds, so the branches of `setupCheck` are the outcomes stated. -/
theorem setupCheckOrder : Obligations.SetupCheckOrder := by
  intro b table ringOk cqOk depthOk places format placement depth apart named coalesce devices kept
  have hplacement : (ringPlaces b).all placeValid = true ↔ placement := by
    simp only [ringPlaces_all, placeValid_iff]
    rfl
  have hdepth : (ringPlaces b).all (fun p => depthCodeValid p.depthCode) = true ↔ depth := by
    simp only [ringPlaces_all, depthCodeValid_iff]
    rfl
  have hapart : anyOverlap (ringPlaces b) = false ↔ apart := anyOverlap_eq_false_iff _
  have hnamed : allRings.all (cqNamed b) = true ↔ named := by
    simp only [List.all_eq_true, mem_allRings, true_imp_iff, cqNamed_iff]
    rfl
  have hcoalesce : allCqs.all (coalesceValid b) = true ↔ coalesce := by
    simp only [List.all_eq_true, mem_allCqs, true_imp_iff, coalesceValid_iff]
    rfl
  have hdevices : allDevices.all (deviceValid b) = true ↔ devices := by
    simp only [List.all_eq_true, mem_allDevices, true_imp_iff, deviceValid_iff]
    rfl
  have hkept : table.toList.all (keptEntryFits (blockProfiles b)) = true ↔ kept := by
    simp only [List.all_eq_true, mem_toList_iff_entryAt, forall_exists_index, forall_apply_eq_imp_iff, keptEntryFits_iff]
    rfl
  simp only [setupCheck]
  have hformat : b.format = 1 ↔ format := Iff.rfl
  rw [← hformat, ← hplacement, ← hdepth, ← hapart, ← hnamed, ← hcoalesce, ← hdevices, ← hkept]
  clear hformat hplacement hdepth hapart hnamed hcoalesce hdevices hkept
  generalize (ringPlaces b).all placeValid = placed
  generalize (ringPlaces b).all (fun p => depthCodeValid p.depthCode) = sized
  generalize anyOverlap (ringPlaces b) = overlapping
  generalize allRings.all (cqNamed b) = naming
  generalize allCqs.all (coalesceValid b) = coalescing
  generalize allDevices.all (deviceValid b) = profiled
  generalize table.toList.all (keptEntryFits (blockProfiles b)) = fitting
  split_ifs <;> simp_all

end Sys2Proof.Machine

/-! The end of the setup read, and the taking of a mailbox fault (R153, R157, R165, R168, R172, R173). -/

namespace Sys2Proof.Machine

/-! ## The equations of SETUP_LOAD_END -/

/-- R165, log entry 5: the setup read has ended, after what the host wrote before it. -/
def State.setupReadEnded (s : State) (host : List HostWrite) : State :=
  { s with mailbox := mailboxHost s.mailbox host, mport := { s.mport with inService := none } }

section

variable {s : State} {a : MailboxAddr} {host : List HostWrite}

/-- Log entries 2 and 16: with no setup read in service, or before a fault that waits is taken, nothing ends. -/
theorem exec_setupLoadEnd_idle {ok : Bool} (h : (∀ a fate, s.mport.inService ≠ some ⟨.setupLoad a, fate⟩) ∨ accessCanEnd s = false) :
    exec (.setupLoadEnd host ok) s = .next s := by
  have hexec : exec (.setupLoadEnd host ok) s = execSetupLoadEnd host ok s := rfl
  rw [hexec]
  unfold execSetupLoadEnd
  split
  · next a fate hservice hcan =>
    rcases h with hnone | hcannot
    · exact absurd hservice (hnone a fate)
    · exact absurd (hcan.symm.trans hcannot) nofun
  · rfl

theorem exec_setupLoadEnd_abandoned {ok : Bool} (hservice : s.mport.inService = some ⟨.setupLoad a, .abandoned⟩)
    (hcan : accessCanEnd s = true) : exec (.setupLoadEnd host ok) s = .next (s.setupReadEnded host) := by
  have hexec : exec (.setupLoadEnd host ok) s = execSetupLoadEnd host ok s := rfl
  rw [hexec, execSetupLoadEnd, hservice, hcan]
  rfl

theorem exec_setupLoadEnd_failed (hservice : s.mport.inService = some ⟨.setupLoad a, .live⟩) (hcan : accessCanEnd s = true) :
    exec (.setupLoadEnd host false) s = .next ((s.setupReadEnded host).reportFault .setupRead a) := by
  have hexec : exec (.setupLoadEnd host false) s = execSetupLoadEnd host false s := rfl
  rw [hexec, execSetupLoadEnd, hservice, hcan]
  rfl

theorem exec_setupLoadEnd_read (hservice : s.mport.inService = some ⟨.setupLoad a, .live⟩) (hcan : accessCanEnd s = true) :
    exec (.setupLoadEnd host true) s = .next
      (if s.control.part = .loading then
        (s.setupReadEnded host).loadBlock (SetupBlock.ofWords (mailboxWords (mailboxHost s.mailbox host) a 12))
       else s.setupReadEnded host) := by
  have hexec : exec (.setupLoadEnd host true) s = execSetupLoadEnd host true s := rfl
  rw [hexec, execSetupLoadEnd, hservice, hcan]
  rfl

end

theorem State.loadBlock_of_refused {s : State} {b : SetupBlock} (h : setupCheck b s.map.current ≠ .none) :
    s.loadBlock b = s.failLoad (setupCheck b s.map.current) := by
  unfold State.loadBlock
  split
  · next hpassed => exact absurd hpassed h
  · rfl

theorem State.loadBlock_of_passed {s : State} {b : SetupBlock} (h : setupCheck b s.map.current = .none) :
    s.loadBlock b = s.finishLoad b := by
  simp only [State.loadBlock, h]

/-- Settles O19, by the equations of a read that is not in service, failed, ended outside LOADING, refused, passed, and abandoned. -/
theorem setupLoadEnds : Obligations.SetupLoadEnds := by
  refine ⟨fun host ok s h => ?_, fun a host s hends => ?_⟩
  · refine exec_setupLoadEnd_idle (h.imp_right fun ⟨hpart, herrors⟩ => ?_)
    rw [← Bool.not_eq_true, accessCanEnd_iff]
    exact not_or.2 ⟨hpart, herrors⟩
  · intro mem b read
    have hcan : accessCanEnd s = true := (accessCanEnd_iff s).2 hends
    refine ⟨fun hservice => ⟨exec_setupLoadEnd_failed hservice hcan, fun hpart => ?_, fun hpart hcheck => ?_, fun hpart hcheck => ?_⟩,
      fun hservice ok => exec_setupLoadEnd_abandoned hservice hcan⟩
    · rw [exec_setupLoadEnd_read hservice hcan, if_neg hpart]
      rfl
    · rw [exec_setupLoadEnd_read hservice hcan, if_pos hpart, State.loadBlock_of_refused (s := s.setupReadEnded host) hcheck]
      rfl
    · refine ⟨(s.setupReadEnded host).finishLoad b, ?_, rfl, fun r => State.finishLoad_ring .., rfl, fun d => ?_, rfl,
        fun c => State.finishLoad_cq .., rfl, fun c => PerCq.get_all .., rfl, rfl, rfl, rfl, rfl, rfl, rfl⟩
      · rw [exec_setupLoadEnd_read hservice hcan, if_pos hpart, State.loadBlock_of_passed (s := s.setupReadEnded host) hcheck]
      · cases d <;> rfl

/-! ## The equations of MAILBOX_FAULT -/

/-- R153, R172: the oldest error has been taken, and a lost entry has left the post queue. -/
def State.faultTaken (s : State) (f : FaultRecord) (rest : List FaultRecord) : State :=
  { s with
    mport := { s.mport with errors := rest }
    writer := { s.writer with postQueue := if f.kind = .postWrite then s.writer.postQueue.tail else s.writer.postQueue } }

theorem State.loseEntry_eq_faultTaken (s : State) (f : FaultRecord) (rest : List FaultRecord) :
    (s.setMPort { s.mport with errors := rest }).loseEntry f.kind = s.faultTaken f rest := by
  unfold State.loseEntry State.faultTaken
  split <;> rfl

theorem exec_mailboxFault_none {s : State} (h : s.mport.errors = []) : exec .mailboxFault s = .next s := by
  simp only [exec, execMailboxFault, h]

theorem exec_mailboxFault_taken {s : State} {f : FaultRecord} {rest : List FaultRecord} (h : s.mport.errors = f :: rest) :
    exec .mailboxFault s = .next
      (if s.control.part = .halted then { s.faultTaken f rest with control := { s.control with moreFaults := true } }
       else (s.faultTaken f rest).halt f) := by
  simp only [exec, execMailboxFault, h, State.loseEntry_eq_faultTaken]
  rfl

/-- Settles O21, by the equation of a fault taken; the two differ in whether the part is HALTED already. -/
theorem mailboxFaultHalts : Obligations.MailboxFaultHalts := by
  refine ⟨fun s h => exec_mailboxFault_none h, fun f rest s herrors => ?_⟩
  intro left
  refine ⟨fun hpart => ⟨(s.faultTaken f rest).halt f, ?_, rfl, rfl, fun c => ?_⟩, fun hpart => ?_⟩
  · rw [exec_mailboxFault_taken herrors, if_neg hpart]
  · cases c <;> rfl
  · rw [exec_mailboxFault_taken herrors, if_pos hpart]
    rfl

end Sys2Proof.Machine

/-! The part state: which commands reach the Control Unit, and along which transitions the part state moves (chapter 10). -/

namespace Sys2Proof.Machine

/-! ## The commands that leave the Control Unit (R163) -/

/-- The commands that can change a field of the Control Unit. -/
def reachesControl : Instr → Bool
  | .powerOnReset | .softReset _ | .enable _ | .quiesce _ | .abort _ | .resume _ | .controlMaskWrite _ | .controlUnknownCommand _ _
  | .setupWrite _ | .statusWrite _ | .setupLoadEnd _ _ | .mailboxFault | .handOff _ => true
  | _ => false

theorem exec_leavesControl {c : Instr} {s t : State} (hc : reachesControl c = false) (h : exec c s = .next t) :
    t.control = s.control := by
  cases c with
  | powerOnReset | softReset | enable | quiesce | abort | resume | controlMaskWrite | controlUnknownCommand | setupWrite | statusWrite
  | setupLoadEnd | mailboxFault | handOff => cases hc
  | select | ringctlUnknownCommand | intstatWrite =>
    cases h
    rfl
  | stop | ringResume | flush | ringReset | post | ack | fetchRequest | mPortGrant | examination =>
    cases h
    split_ifs <;> simp
  | holdoffExpiry q =>
    cases h
    split <;> rfl
  | flushDisposal r =>
    cases h
    split
    · rfl
    · dsimp only
      split_ifs <;> simp
  | fetchComplete host ok =>
    rcases execFetchComplete_ends h with rfl | ⟨u, hended, -, rfl | ⟨r, req, rfl⟩⟩
    · rfl
    · exact hended.control
    · rw [State.joinRecord_control, hended.control]
  | completionWrite result =>
    rcases execCompletionWrite_ends h with rfl | ⟨hended, -⟩ | ⟨e, u, -, hended, -, rfl⟩
    · rfl
    · exact hended.control
    · split
      · exact hended.control
      · rw [State.entryWritten_control, hended.control]
  | beatGrant | beatEnd | ready | readyTimeout => exact (exec_beat_leavesQueues rfl h).control

/-! ## Where each operation leads (R165, R168, R169) -/

/-- R165: an ENABLE leads to LOADING, or back to OFF at once. -/
theorem State.beginLoad_part (s : State) : s.beginLoad.control.part = .loading ∨ s.beginLoad.control.part = .off := by
  rcases Nat.lt_or_ge 0xFFD0 s.control.setupAddr.toNat with hfits | hfits
  · exact .inr (by rw [State.beginLoad_of_not_fits hfits])
  · exact .inl (by rw [State.beginLoad_of_fits hfits])

/-- R168: a load that ends leads to OFF or to RUNNING. -/
theorem State.loadBlock_part (s : State) (b : SetupBlock) :
    (s.loadBlock b).control.part = .off ∨ (s.loadBlock b).control.part = .running := by
  rcases s.loadBlock_cases b with ⟨e, he⟩ | ⟨-, he⟩ <;> rw [he]
  · exact .inl rfl
  · exact .inr rfl

/-- R169, R171: the drain leads from QUIESCING or ABORTING to QUIESCED, or nowhere. -/
theorem State.drainPart_part (s : State) :
    s.drainPart.control.part = s.control.part ∨
      ((s.control.part = .quiescing ∨ s.control.part = .aborting) ∧ s.drainPart.control.part = .quiesced) := by
  rcases s.drainPart_cases with ⟨he, -⟩ | ⟨hpart, -, -, he⟩ <;> rw [he]
  · exact .inl rfl
  · exact .inr ⟨hpart, rfl⟩

/-- Settles O8: a command that reaches the Control Unit moves the part state along its own transitions, or leaves it. -/
theorem partStateTransitions : Obligations.PartStateTransitions := by
  intro c s t h hmoved
  cases c with
  | powerOnReset =>
    cases h
    exact .inl ⟨.inl rfl, rfl⟩
  | softReset m =>
    cases h
    exact .inl ⟨.inr ⟨m, rfl⟩, rfl⟩
  | enable m =>
    refine .inr (.inl ⟨⟨m, rfl⟩, ?_⟩)
    by_cases hoff : s.control.part = .off
    · cases (exec_enable_taken m hoff).symm.trans h
      exact ⟨hoff, ((s.setMask m).beginLoad_part).resolve_right fun hstays => hmoved (hstays.trans hoff.symm)⟩
    · cases (exec_enable_refused m hoff).symm.trans h
      exact absurd rfl hmoved
  | setupLoadEnd host ok =>
    refine .inr (.inr (.inl ⟨⟨host, ok, rfl⟩, ?_⟩))
    rcases execSetupLoadEnd_ends h with rfl | ⟨u, hended, -, rfl | ⟨hpart, b, rfl⟩⟩
    · exact absurd rfl hmoved
    · exact absurd (congrArg ControlUnit.part hended.control) hmoved
    · exact ⟨hpart, u.loadBlock_part b⟩
  | quiesce m =>
    refine .inr (.inr (.inr (.inl ⟨⟨m, rfl⟩, ?_⟩)))
    by_cases hpart : s.control.part = .running
    · cases (exec_quiesce_taken m hpart).symm.trans h
      exact ⟨hpart, ((s.setMask m).setPart .quiescing).drainPart_part.imp_right And.right⟩
    · cases (exec_quiesce_refused m hpart).symm.trans h
      exact absurd rfl hmoved
  | abort m =>
    refine .inr (.inr (.inr (.inr (.inl ⟨⟨m, rfl⟩, ?_⟩))))
    by_cases hpart : s.control.part = .running ∨ s.control.part = .quiescing
    · cases (exec_abort_taken m hpart).symm.trans h
      exact ⟨hpart, ((s.setMask m).setPart .aborting).flagAborts.drainPart_part.imp_right And.right⟩
    · cases (exec_abort_refused m hpart).symm.trans h
      exact absurd rfl hmoved
  | handOff ch =>
    refine .inr (.inr (.inr (.inr (.inr (.inl ⟨⟨ch, rfl⟩, ?_⟩)))))
    rcases execHandOff_cases h with rfl | ⟨x, e, -, rfl⟩
    · exact absurd rfl hmoved
    · obtain ⟨u, hu, hcontrol, -⟩ := s.handOff_eq_drainPart ch x e
      rw [hu, ← hcontrol] at hmoved ⊢
      exact u.drainPart_part.resolve_left hmoved
  | resume m =>
    refine .inr (.inr (.inr (.inr (.inr (.inr (.inl ⟨⟨m, rfl⟩, ?_⟩))))))
    by_cases hpart : s.control.part = .quiesced
    · cases (exec_resume_taken m hpart).symm.trans h
      exact ⟨hpart, rfl⟩
    · cases (exec_resume_refused m hpart).symm.trans h
      exact absurd rfl hmoved
  | mailboxFault =>
    refine .inr (.inr (.inr (.inr (.inr (.inr (.inr ⟨rfl, fun hnone => ?_, ?_⟩))))))
    · cases (exec_mailboxFault_none hnone).symm.trans h
      exact absurd rfl hmoved
    · rcases execMailboxFault_cases h with rfl | ⟨hhalted, -⟩
      · exact absurd rfl hmoved
      · exact hhalted
  | controlMaskWrite | controlUnknownCommand | setupWrite | statusWrite =>
    cases h
    exact absurd rfl hmoved
  | _ => exact absurd (congrArg ControlUnit.part (exec_leavesControl rfl h)) hmoved

end Sys2Proof.Machine

/-! HALTED: what no command but a reset changes, and what the accesses and beats in service still do (R114, R137, R150, R153, R174). -/

namespace Sys2Proof.Machine

/-! ## The channels (R103, R114) -/

/-- What HALTED leaves of a channel: it does not leave its state, an ended transfer counts conflict beats at most, and a transfer in
RUNNING stays the same transfer. -/
inductive Channel.Frozen : Channel → Channel → Prop
  | idle : Channel.Frozen .idle .idle
  | ending (x : Context) (n : Nat) : Channel.Frozen (.ending x) (.ending { x with conflictBeats := n })
  | running {x y : Context} (h : y.transfer = x.transfer) : Channel.Frozen (.running x) (.running y)

theorem Channel.Frozen.refl (ch : Channel) : ch.Frozen ch := by
  cases ch with
  | idle => exact .idle
  | running x => exact .running rfl
  | ending x => exact .ending x x.conflictBeats

theorem Channel.Frozen.trans {a b c : Channel} (h : a.Frozen b) (h' : b.Frozen c) : a.Frozen c := by
  cases h with
  | idle => exact h'
  | ending x n =>
    cases h' with
    | ending _ m => exact .ending x m
  | running h =>
    cases h' with
    | running h' => exact .running (h'.trans h)

theorem Channel.frozen_counting (n : Nat) (ch : Channel) : ch.Frozen (ch.counting n) := by
  unfold Channel.counting
  split
  · exact .refl ch
  · cases ch with
    | idle => exact .idle
    | running x => exact .running rfl
    | ending x => exact .ending x _

/-- The fields of `sameTransfer` are among those that the run does not move (R102). -/
theorem sameTransfer_of_transfer {x y : Context} (h : y.transfer = x.transfer) : sameTransfer x y := by
  simp only [Context.transfer, Context.mk.injEq] at h
  simp [sameTransfer, h]

/-- Both channels are left as HALTED leaves them. -/
def ChannelsFrozen (s t : State) : Prop := ∀ c, (s.channel c).Frozen (t.channel c)

theorem ChannelsFrozen.refl (s : State) : ChannelsFrozen s s := fun _ => .refl _

theorem ChannelsFrozen.of_eq {s t : State} (h : t.channels = s.channels) : ChannelsFrozen s t := fun c => by
  rw [State.channel, State.channel, h]
  exact .refl _

theorem ChannelsFrozen.trans {s t u : State} (h : ChannelsFrozen s t) (h' : ChannelsFrozen t u) : ChannelsFrozen s u :=
  fun c => (h c).trans (h' c)

theorem channelsFrozen_setChannel {s : State} {c : ChannelId} {ch : Channel} (h : (s.channel c).Frozen ch) :
    ChannelsFrozen s (s.setChannel c ch) := fun c' => by
  by_cases hc : c' = c
  · subst hc
    rwa [State.channel_setChannel_same]
  · rw [State.channel_setChannel_other _ _ hc]
    exact .refl _

theorem channelsFrozen_running {s : State} {c : ChannelId} {x y : Context} (hx : s.channel c = .running x)
    (h : y.transfer = x.transfer) : ChannelsFrozen s (s.setChannel c (.running y)) :=
  channelsFrozen_setChannel (hx ▸ .running h)

/-! ## The beats in service (R114, R129, R137) -/

theorem channelsFrozen_requestBeat (s : State) (b : Beat) : ChannelsFrozen s (s.requestBeat b) := by
  by_cases h : (s.arbiter (arbiterOf b.target)).inService = none
  · rw [State.requestBeat_of_free h]
    exact .refl s
  · rw [State.requestBeat_of_busy h]
    exact channelsFrozen_setChannel (Channel.frozen_counting 1 _)

theorem channelsFrozen_requestBeats (s : State) (bs : List Beat) : ChannelsFrozen s (s.requestBeats bs) := by
  unfold State.requestBeats
  induction bs generalizing s with
  | nil => exact .refl s
  | cons b rest ih => exact (channelsFrozen_requestBeat s b).trans (ih _)

theorem channelsFrozen_grantBeat (s : State) (i : ArbiterId) : ChannelsFrozen s (s.grantBeat i) := by
  cases h : grantedChannel (s.arbiter i) with
  | none => exact .of_eq (by simp only [State.grantBeat, h])
  | some c =>
    rw [State.grantBeat_of_granted h]
    intro d
    cases d with
    | c0 => exact Channel.frozen_counting _ _
    | c1 => exact Channel.frozen_counting _ _

section

variable {s : State} {c : ChannelId} {x : Context}

/-- R105: the writes of a step whose reads have ended are requested. -/
theorem channelsFrozen_beginPhase (hx : s.channel c = .running x) (p : StepPhase) (rs : List BeatResult) (bs : List Beat) :
    ChannelsFrozen s (s.beginPhase c x p rs bs) := by
  refine .trans ?_ (channelsFrozen_requestBeats _ _)
  exact channelsFrozen_running hx rfl

theorem channelsFrozen_endTransfer (hp : s.control.part = .halted) {y : Context} (hx : s.channel c = .running x)
    (h : y.transfer = x.transfer) {st : Status} {d : Detail} : ChannelsFrozen s (s.endTransfer c y st d) := by
  rw [State.endTransfer_halted s c st d hp]
  exact channelsFrozen_running hx h

theorem channelsFrozen_finishStep (hp : s.control.part = .halted) (hx : s.channel c = .running x) (w : Option W16) :
    ChannelsFrozen s (s.finishStep c x w) := by
  rw [State.finishStep_halted s c hp]
  exact channelsFrozen_running hx rfl

theorem channelsFrozen_readsEnded (hp : s.control.part = .halted) (hx : s.channel c = .running x) (rs : List BeatResult) :
    ChannelsFrozen s (s.readsEnded c x rs) := by
  have hwrites : ChannelsFrozen s (s.beginPhase c x .writes rs (writeBeats c x rs)) := channelsFrozen_beginPhase hx _ _ _
  unfold State.readsEnded
  dsimp only
  split
  · exact channelsFrozen_endTransfer hp hx rfl
  · split
    · split
      · exact channelsFrozen_finishStep hp hx none
      · refine channelsFrozen_endTransfer hp hx ?_
        rfl
    · split
      · exact channelsFrozen_endTransfer hp hx rfl
      · exact hwrites
    all_goals exact hwrites

theorem channelsFrozen_writesEnded (hp : s.control.part = .halted) (hx : s.channel c = .running x) (rs : List BeatResult) :
    ChannelsFrozen s (s.writesEnded c x rs) := by
  unfold State.writesEnded
  split
  · rw [if_pos hp]
    exact channelsFrozen_endTransfer hp hx rfl
  · exact channelsFrozen_finishStep hp hx _

/-- R114, log entry 28: in HALTED the early-end write leaves its channel RUNNING. -/
theorem channelsFrozen_earlyEnded (hp : s.control.part = .halted) (hx : s.channel c = .running x) (rs : List BeatResult) :
    ChannelsFrozen s (s.earlyEnded c x rs) := by
  simp only [State.earlyEnded, if_pos hp]
  refine channelsFrozen_running hx ?_
  split <;> rfl

theorem channelsFrozen_phaseEnded (hp : s.control.part = .halted) (hx : s.channel c = .running x) (run : StepRun) :
    ChannelsFrozen s (s.phaseEnded c x run) := by
  unfold State.phaseEnded
  split
  · exact channelsFrozen_readsEnded hp hx _
  · exact channelsFrozen_writesEnded hp hx _
  · exact channelsFrozen_earlyEnded hp hx _

end

theorem channelsFrozen_beatReturns {s : State} (hp : s.control.part = .halted) (b : Beat) (o : BeatOutcome) :
    ChannelsFrozen s (s.beatReturns b o) := by
  unfold State.beatReturns
  split
  · next x hx =>
    split
    · dsimp only
      split
      · refine .trans ?_ (channelsFrozen_requestBeat _ _)
        exact channelsFrozen_running hx rfl
      · split
        · exact channelsFrozen_phaseEnded hp hx _
        · exact channelsFrozen_running hx rfl
    · exact .refl s
  · exact .refl s
  · exact .refl s

theorem exec_beat_channelsFrozen {c : Instr} {s t : State} (hc : isBeat c = true) (hp : s.control.part = .halted)
    (h : exec c s = .next t) : t.issue = s.issue ∧ ChannelsFrozen s t := by
  cases c with
  | beatGrant i ws =>
    simp only [exec, execBeatGrant] at h
    split at h
    · cases h
      exact ⟨rfl, .refl s⟩
    · split at h
      · cases h
        exact ⟨by simp, channelsFrozen_grantBeat s _⟩
      · next b _ =>
        split at h <;> cases h
        exact ⟨by simp, channelsFrozen_grantBeat (s.setBank b _) _⟩
  | beatEnd b =>
    simp only [exec, execBeatEnd] at h
    split at h
    · cases h
      exact ⟨rfl, .refl s⟩
    · split at h <;> cases h
      split
      · exact ⟨by simp, channelsFrozen_beatReturns (s := (s.freeArbiter (.bank b)).setBank b _) hp _ _⟩
      · exact ⟨by simp, channelsFrozen_beatReturns (s := s.freeArbiter (.bank b)) hp _ _⟩
  | ready d v =>
    simp only [exec, execReady] at h
    split at h <;> cases h
    · exact ⟨rfl, .refl s⟩
    · split
      · exact ⟨by simp, channelsFrozen_beatReturns (s := s.freeXPort) hp _ _⟩
      · exact ⟨rfl, .refl s⟩
  | readyTimeout =>
    simp only [exec, execReadyTimeout] at h
    split at h <;> cases h
    · exact ⟨rfl, .refl s⟩
    · exact ⟨by simp, channelsFrozen_beatReturns (s := s.freeXPort) hp _ _⟩
  | _ => cases hc

/-! ## What no command but a reset changes (R174) -/

/-- What HALTED leaves of the part but for its accesses, its rings and its post queue. -/
structure Frozen (s t : State) : Prop where
  part : t.control.part = s.control.part
  faultRecord : t.control.faultRecord = s.control.faultRecord
  setupError : t.control.setupError = s.control.setupError
  map : t.map = s.map
  issue : t.issue = s.issue
  profiles : t.ports.profiles = s.ports.profiles
  cqs : t.writer.cqs = s.writer.cqs
  coalescing : t.coalescer.cqs = s.coalescer.cqs
  mport : t.mport = { s.mport with inService := t.mport.inService, errors := t.mport.errors }
  channels : ChannelsFrozen s t

/-- The command leaves the rings and the post queue too, and at most ends the access in service. -/
structure Still (s t : State) : Prop extends Frozen s t where
  rings : t.ringManager.rings = s.ringManager.rings
  postQueue : t.writer.postQueue = s.writer.postQueue
  inService : t.mport.inService = s.mport.inService ∨ t.mport.inService = none

theorem Still.refl (s : State) : Still s s := ⟨⟨rfl, rfl, rfl, rfl, rfl, rfl, rfl, rfl, rfl, .refl s⟩, rfl, rfl, .inl rfl⟩

/-- R54, R158: the registers and flags that a host write reaches in HALTED are none of what is frozen. -/
theorem still_flags {s : State} (control : ControlUnit) (rings : RingManager) (ackInvalid : Bool) (intstat : Sources)
    (hpart : control.part = s.control.part) (hrecord : control.faultRecord = s.control.faultRecord)
    (herror : control.setupError = s.control.setupError) (hrings : rings.rings = s.ringManager.rings) :
    Still s { s with
      control := control, ringManager := rings, writer := { s.writer with ackInvalid := ackInvalid }
      coalescer := { s.coalescer with intstat := intstat } } :=
  ⟨⟨hpart, hrecord, herror, rfl, rfl, rfl, rfl, rfl, rfl, .of_eq rfl⟩, hrings, rfl, .inl rfl⟩

/-- R64, R172: an access that ends frees the port, and may hand an error over. -/
theorem still_accessEnded {s : State} (errors : List FaultRecord) (mailbox : MailboxMemory) (freeIndex : Nat) :
    Still s { s with mport := { s.mport with inService := none, errors := errors }, mailbox := mailbox, freeIndex := freeIndex } :=
  ⟨⟨rfl, rfl, rfl, rfl, rfl, rfl, rfl, rfl, rfl, .of_eq rfl⟩, rfl, rfl, .inr rfl⟩

/-! ## The commands that HALTED drops, refuses or does not carry out (R38, R72, R84, R114, R137, R157, R161, R164) -/

/-- The commands of the host, and the events that do not occur in HALTED. -/
def halts : Instr → Bool
  | .powerOnReset | .softReset _ | .fetchComplete _ _ | .completionWrite _ | .setupLoadEnd _ _ | .mailboxFault => false
  | c => !isBeat c

theorem exec_halted_still {c : Instr} {s t : State} (hc : halts c = true) (hp : s.control.part = .halted)
    (htimers : ∀ q, (s.coalescer.cqs.get q).timer = false) (h : exec c s = .next t) : Still s t := by
  have hnot {p : PartState} (hne : p ≠ .halted) : s.control.part ≠ p := fun he => hne (he.symm.trans hp)
  have hdropped {u : State} (hu : exec c s = .next u) (hstill : Still s u) : Still s t := by
    cases hu.symm.trans h
    exact hstill
  cases c with
  | powerOnReset | softReset | fetchComplete | completionWrite | setupLoadEnd | mailboxFault | beatGrant | beatEnd | ready
  | readyTimeout => cases hc
  | controlMaskWrite | controlUnknownCommand | select | ringctlUnknownCommand | setupWrite | statusWrite | intstatWrite =>
    exact hdropped rfl (still_flags _ _ _ _ rfl rfl rfl rfl)
  | enable m => exact hdropped (exec_enable_refused m (hnot nofun)) (still_flags _ _ _ _ rfl rfl rfl rfl)
  | quiesce m => exact hdropped (exec_quiesce_refused m (hnot nofun)) (still_flags _ _ _ _ rfl rfl rfl rfl)
  | abort m => exact hdropped (exec_abort_refused m (not_or.2 ⟨hnot nofun, hnot nofun⟩)) (still_flags _ _ _ _ rfl rfl rfl rfl)
  | resume m => exact hdropped (exec_resume_refused m (hnot nofun)) (still_flags _ _ _ _ rfl rfl rfl rfl)
  | stop r => exact hdropped (exec_stop_dropped fun htaken => htaken.1 hp) (still_flags _ _ _ _ rfl rfl rfl rfl)
  | ringResume r => exact hdropped (exec_ringResume_dropped fun htaken => htaken.1 hp) (still_flags _ _ _ _ rfl rfl rfl rfl)
  | flush r => exact hdropped (exec_flush_dropped fun htaken => htaken.1 hp) (still_flags _ _ _ _ rfl rfl rfl rfl)
  | ringReset r => exact hdropped (exec_ringReset_dropped fun htaken => htaken.1 hp) (still_flags _ _ _ _ rfl rfl rfl rfl)
  | post | ack =>
    cases h
    rw [if_pos (.inr (.inr (.inl hp)))]
    exact still_flags _ _ _ _ rfl rfl rfl rfl
  | fetchRequest r =>
    have hready : ¬fetchReady s r = true := by simp [fetchReady, hp]
    cases h
    rw [if_neg hready]
    exact .refl s
  | mPortGrant =>
    cases h
    rw [if_neg fun hgranted => hgranted.2 hp]
    exact .refl s
  | examination =>
    cases h
    rw [if_pos (.inl hp)]
    exact .refl s
  | handOff ch => exact hdropped (execHandOff_of_no_room fun _ _ hroom => hroom.1 hp) (.refl s)
  | flushDisposal r =>
    cases h
    split
    · exact .refl s
    · rw [if_pos (.inl hp)]
      exact .refl s
  | holdoffExpiry q =>
    have htimer : ¬(s.coalescer.cqs.get q).timer = true := by simp [htimers q]
    cases h
    rw [if_neg htimer]
    exact .refl s

/-! ## The accesses and beats in service (R63, R137, R153, R154, R168, R172) -/

theorem exec_beat_still {c : Instr} {s t : State} (hc : isBeat c = true) (hp : s.control.part = .halted) (h : exec c s = .next t) :
    Still s t := by
  obtain ⟨hissue, hchannels⟩ := exec_beat_channelsFrozen hc hp h
  have hleaves := exec_beat_leavesQueues hc h
  have hbindings : t.map = s.map ∧ t.ports.profiles = s.ports.profiles := by
    cases c with
    | beatGrant | beatEnd | ready | readyTimeout => exact ⟨exec_map_kept rfl h, (exec_leavesTables rfl h).profiles⟩
    | _ => cases hc
  exact ⟨⟨by rw [hleaves.control], by rw [hleaves.control], by rw [hleaves.control], hbindings.1, hissue, hbindings.2,
    by rw [hleaves.writer], by rw [hleaves.coalescer], by rw [hleaves.mport], hchannels⟩, by rw [hleaves.ringManager],
    by rw [hleaves.writer], .inl (by rw [hleaves.mport])⟩

/-- R168, R173: in HALTED a setup read that ends loads nothing. -/
theorem execSetupLoadEnd_still {host : List HostWrite} {ok : Bool} {s t : State} (hp : s.control.part = .halted)
    (h : execSetupLoadEnd host ok s = .next t) : Still s t := by
  have hloading : ¬s.control.part = .loading := by simp [hp]
  unfold execSetupLoadEnd at h
  split at h <;> cases h
  · split
    · exact still_accessEnded _ _ _
    · split
      · exact still_accessEnded _ _ _
      · split
        · next hpart => exact absurd hpart hloading
        · exact still_accessEnded _ _ _
  · exact .refl s

/-- R63: in HALTED a record whose fetch ends joins its queue, and nothing follows. -/
theorem execFetchComplete_halted {host : List HostWrite} {ok : Bool} {s t : State} (hp : s.control.part = .halted)
    (h : execFetchComplete host ok s = .next t) :
    Still s t ∨ ∃ r req p, ok = true ∧ s.mport.inService = some ⟨.fetch r req, .live⟩ ∧
      t = { s with mailbox := mailboxHost s.mailbox host }.freePort.setRing r
        { s.ring r with queue := (s.ring r).queue ++ [p], fetch := (s.ring r).fetch + 1 } := by
  unfold execFetchComplete at h
  split at h
  · next r req fate hservice _ =>
    cases h
    split
    · exact .inl (still_accessEnded _ _ _)
    · split
      · exact .inl (still_accessEnded _ _ _)
      · exact .inl (still_accessEnded _ _ _)
    · split
      · next hok => exact .inr ⟨r, req, _, hok, hservice, if_pos hp⟩
      · exact .inl (still_accessEnded _ _ _)
  · cases h
    exact .inl (.refl s)

/-- R153, R154: in HALTED an entry whose write ends whole leaves the post queue, and nothing follows. -/
theorem execCompletionWrite_halted {result : WriteEnd} {s t : State} (hp : s.control.part = .halted)
    (h : execCompletionWrite result s = .next t) :
    Still s t ∨ ∃ fate e, result = .done ∧ s.mport.inService = some ⟨.completionWrite, fate⟩ ∧ writerEntry s = some e ∧
      t = s.recordPlaced e := by
  unfold execCompletionWrite at h
  split at h
  · next fate hservice _ =>
    split at h
    · cases h
      exact .inl (still_accessEnded _ _ _)
    · split at h
      · cases h
        exact .inl (still_accessEnded _ _ _)
      · next e he =>
        cases result with
        | done =>
          cases h
          exact .inr ⟨fate, e, rfl, hservice, he, rfl⟩
        | failedAt i =>
          cases h
          exact .inl (still_accessEnded _ _ _)
  · cases h
    exact .inl (.refl s)

/-! ## Every command -/

/-- What a command other than a reset does in HALTED: beside what is frozen, a fetch that ends joins its record, and an entry leaves the
post queue written, or lost with its fault taken. -/
structure HaltedStep (c : Instr) (s t : State) : Prop extends Frozen s t where
  inService : t.mport.inService = s.mport.inService ∨ t.mport.inService = none
  rings : ∀ r, t.ring r = s.ring r ∨ ∃ host req p, c = .fetchComplete host true ∧ s.mport.inService = some ⟨.fetch r req, .live⟩ ∧
    t.ring r = { s.ring r with queue := (s.ring r).queue ++ [p], fetch := (s.ring r).fetch + 1 }
  postQueue : t.writer.postQueue = s.writer.postQueue ∨
    ∃ lost e rest, s.writer.postQueue = lost ++ e :: rest ∧ t.writer.postQueue = lost ++ rest ∧
      ((c = .completionWrite .done ∧ (∃ fate, s.mport.inService = some ⟨.completionWrite, fate⟩) ∧ lost.length = failedWrites s) ∨
        (c = .mailboxFault ∧ lost = [] ∧ ∃ a errors, s.mport.errors = ⟨.postWrite, a⟩ :: errors))

theorem Still.haltedStep {c : Instr} {s t : State} (h : Still s t) : HaltedStep c s t :=
  ⟨h.toFrozen, h.inService, fun r => .inl (by rw [State.ring, h.rings, State.ring]), .inl h.postQueue⟩

/-- R63: the joined record is the fetch's own ring's. -/
theorem haltedStep_joined {host : List HostWrite} {s : State} {r : RingId} {req : FetchRequest} {p : Prefetched}
    (hservice : s.mport.inService = some ⟨.fetch r req, .live⟩) :
    HaltedStep (.fetchComplete host true) s ({ s with mailbox := mailboxHost s.mailbox host }.freePort.setRing r
      { s.ring r with queue := (s.ring r).queue ++ [p], fetch := (s.ring r).fetch + 1 }) := by
  refine ⟨⟨rfl, rfl, rfl, rfl, rfl, rfl, rfl, rfl, rfl, .of_eq rfl⟩, .inr rfl, fun r' => ?_, .inl rfl⟩
  rw [State.ring_setRing]
  split
  · next hr =>
    subst hr
    exact .inr ⟨host, req, p, rfl, hservice, rfl⟩
  · exact .inl rfl

/-- R153, R154: the written entry is the first behind those whose write has failed. -/
theorem haltedStep_written {s : State} {fate : AccessFate} {e : Completion}
    (hservice : s.mport.inService = some ⟨.completionWrite, fate⟩) (he : writerEntry s = some e) :
    HaltedStep (.completionWrite .done) s (s.recordPlaced e) := by
  obtain ⟨hlt, hget⟩ := List.getElem?_eq_some_iff.1 he
  have hqueue : s.writer.postQueue = s.writer.postQueue.take (failedWrites s) ++ e :: s.writer.postQueue.drop (failedWrites s + 1) := by
    rw [← hget, ← List.drop_eq_getElem_cons hlt, List.take_append_drop]
  have hlost : (s.writer.postQueue.take (failedWrites s)).length = failedWrites s := List.length_take_of_le hlt.le
  have hwriter := State.recordPlaced_writer hqueue hlost
  exact ⟨⟨rfl, rfl, rfl, rfl, rfl, rfl, rfl, rfl, rfl, .of_eq rfl⟩, .inr rfl, fun _ => .inl rfl,
    .inr ⟨_, e, _, hqueue, by rw [hwriter], .inl ⟨rfl, ⟨fate, hservice⟩, hlost⟩⟩⟩

/-- R153, R172: the lost entry heads the post queue. -/
theorem haltedStep_faultTaken {s : State} (f : FaultRecord) {rest : List FaultRecord} (herrors : s.mport.errors = f :: rest) :
    HaltedStep .mailboxFault s { s.faultTaken f rest with control := { s.control with moreFaults := true } } := by
  refine ⟨⟨rfl, rfl, rfl, rfl, rfl, rfl, rfl, rfl, rfl, .of_eq rfl⟩, .inl rfl, fun r => .inl rfl, ?_⟩
  obtain ⟨kind, a⟩ := f
  by_cases hkind : kind = .postWrite
  · subst hkind
    cases hqueue : s.writer.postQueue with
    | nil => exact .inl (congrArg List.tail hqueue)
    | cons e queue => exact .inr ⟨[], e, queue, rfl, congrArg List.tail hqueue, .inr ⟨rfl, rfl, a, rest, herrors⟩⟩
  · exact .inl (if_neg hkind)

/-- R174: what a command other than a reset does in HALTED, with both holdoff timers stopped (R157). -/
theorem exec_haltedStep {c : Instr} {s t : State} (hp : s.control.part = .halted) (hreset : ¬isReset c)
    (htimers : ∀ q, (s.coalescer.cqs.get q).timer = false) (h : exec c s = .next t) : HaltedStep c s t := by
  cases c with
  | powerOnReset => exact absurd (.inl rfl) hreset
  | softReset m => exact absurd (.inr ⟨m, rfl⟩) hreset
  | setupLoadEnd host ok => exact (execSetupLoadEnd_still hp h).haltedStep
  | fetchComplete host ok =>
    rcases execFetchComplete_halted hp h with hstill | ⟨r, req, p, rfl, hservice, rfl⟩
    · exact hstill.haltedStep
    · exact haltedStep_joined hservice
  | completionWrite result =>
    rcases execCompletionWrite_halted hp h with hstill | ⟨fate, e, rfl, hservice, he, rfl⟩
    · exact hstill.haltedStep
    · exact haltedStep_written hservice he
  | mailboxFault =>
    cases herrors : s.mport.errors with
    | nil =>
      cases (exec_mailboxFault_none herrors).symm.trans h
      exact (Still.refl s).haltedStep
    | cons f rest =>
      have hexec := exec_mailboxFault_taken herrors
      rw [if_pos hp] at hexec
      cases hexec.symm.trans h
      exact haltedStep_faultTaken f herrors
  | beatGrant | beatEnd | ready | readyTimeout => exact (exec_beat_still rfl hp h).haltedStep
  | _ => exact (exec_halted_still rfl hp htimers h).haltedStep

/-- Settles O50: in HALTED a command drops out, or ends a beat or an access in service, or takes a fault, and `HaltedStep` says what each
of them leaves. -/
theorem haltedFreezes : Obligations.HaltedFreezes := by
  intro c s t hp hreset h htimers
  have hstep := exec_haltedStep hp hreset htimers h
  refine ⟨hstep.part.trans hp, hstep.faultRecord, hstep.setupError, hstep.map, hstep.issue, hstep.profiles, hstep.cqs, hstep.coalescing,
    by rw [hstep.mport], by rw [hstep.mport], by rw [hstep.mport],
    hstep.inService, fun r => ?_, hstep.postQueue, fun ch hch => ?_, fun ch x hch => ?_, fun ch x hch => ?_⟩
  · rcases hstep.rings r with hring | ⟨host, req, p, hc, hservice, hring⟩ <;> rw [hring]
    · exact ⟨[], 0, by simp, fun hne => absurd rfl hne, rfl⟩
    · exact ⟨[p], 1, rfl, fun _ => ⟨host, req, hc, hservice⟩, rfl⟩
  all_goals
    have hfrozen := hstep.channels ch
    rw [hch] at hfrozen
    generalize t.channel ch = ch' at hfrozen
    cases hfrozen
  · rfl
  · exact ⟨_, rfl⟩
  · next hsame => exact ⟨_, rfl, sameTransfer_of_transfer hsame⟩

end Sys2Proof.Machine


/-! ## The queue (log entries 1 and 20) -/

namespace Sys2Proof.Machine

/-- An empty queue: the part idles (log entry 1). -/
theorem step_of_pending_nil {s : State} (h : s.pending = []) : step s = .next s := by
  rw [step, h]

/-- The command at the front acts on the state with the queue's rest (log entry 20). -/
theorem step_of_pending_cons {c : Instr} {rest : List Instr} {s : State} (h : s.pending = c :: rest) :
    step s = exec c { s with pending := rest } := by
  rw [step, h]

/-- Settles O1: the two branches of `step`, one for each form of the queue. -/
theorem stepRunsFrontCommand : Obligations.StepRunsFrontCommand :=
  ⟨fun _ _ _ hfront => step_of_pending_cons hfront, fun _ hempty => step_of_pending_nil hempty⟩

end Sys2Proof.Machine

/-! The counts, the queue and the fetch of a ring (R56 to R63, R71), and what it reads within its state (R58, R67, R70, R75): the laws of
one ring, and the changes that keep both. -/

namespace Sys2Proof.Machine

/-! ## The fetch in progress (R62) -/

/-- The fetch of a ring in progress, waiting for the M-port or in service there. -/
def State.fetching (s : State) (r : RingId) : Option FetchRequest := (s.mport.fetchWaiting.get r).or (liveRead s r)

/-- No ring has a fetch that waits while another of its own is in service (R62). -/
def fetchesApart (s : State) : Prop := ∀ r, (s.mport.fetchWaiting.get r).isSome → liveRead s r = none

theorem liveRead_of_free {s : State} (h : s.mport.inService = none) (r : RingId) : liveRead s r = none := by
  simp [liveRead, h]

theorem liveRead_congr {s t : State} (h : t.mport.inService = s.mport.inService) (r : RingId) : liveRead t r = liveRead s r := by
  rw [liveRead, h, liveRead]

theorem liveRead_of_fetch {s : State} {r : RingId} {req : FetchRequest} (h : s.mport.inService = some ⟨.fetch r req, .live⟩)
    (r' : RingId) : liveRead s r' = if r = r' then some req else none := by
  simp [liveRead, h]

/-- A read that has been discarded or abandoned counts for no ring (R71, R79). -/
theorem liveRead_of_not_live {s : State} (h : ∀ a, s.mport.inService = some a → a.fate ≠ .live) (r : RingId) :
    liveRead s r = none := by
  unfold liveRead
  split
  · next hservice => exact absurd rfl (h _ hservice)
  · rfl

theorem liveRead_eq_some {s : State} {r : RingId} {req : FetchRequest} (h : liveRead s r = some req) :
    s.mport.inService = some ⟨.fetch r req, .live⟩ := by
  unfold liveRead at h
  split at h
  · next r' req' hservice =>
    split at h
    · next hr =>
      cases h
      rw [hservice, hr]
    · cases h
  · cases h

theorem fetchInProgress_eq (s : State) (r : RingId) : fetchInProgress s r = (s.fetching r).isSome := by
  rw [State.fetching, Option.isSome_or, fetchInProgress]
  congr 1
  unfold liveRead
  cases s.mport.inService with
  | none => rfl
  | some access =>
    obtain ⟨kind, fate⟩ := access
    cases kind with
    | fetch r' req => cases fate <;> by_cases hr : r' = r <;> simp [hr]
    | completionWrite | setupLoad => rfl

theorem fetching_eq_none_iff (s : State) (r : RingId) :
    s.fetching r = none ↔ s.mport.fetchWaiting.get r = none ∧ liveRead s r = none :=
  Option.or_eq_none_iff

/-! ## The law of one ring (R56 to R63) -/

/-- The law of a ring's counts, its queue and its fetch in progress, apart from where the fetch stands. -/
structure RingInOrder (g : Ring) (fetch : Option FetchRequest) : Prop where
  pending : ringPending g ≤ depthOf g.dir.depthCode
  ordered : queueOrdered g
  room : g.queue.length + (if fetch.isSome then 1 else 0) ≤ 4
  due : fetch.isSome → 0 < ringPending g
  named : ∀ req, fetch = some req →
    req.fetchCount = g.fetch ∧ req.slot = g.fetch.toNat % depthOf g.dir.depthCode ∧ req.addr = slotAddr g req.slot
  idle : g.phase = .idle → g.queue = [] ∧ ringPending g = 0

/-- Every ring obeys its law; in OFF and LOADING every ring is DISABLED and none has a fetch in progress (R165). -/
structure RingsInOrder (p : PartState) (ring : RingId → Ring) (fetch : RingId → Option FetchRequest) : Prop where
  each : ∀ r, RingInOrder (ring r) (fetch r)
  quiet : p = .off ∨ p = .loading → ∀ r, (ring r).phase = .disabled ∧ fetch r = none

theorem ringLaw_iff (s : State) (r : RingId) :
    ringLaw s r ↔ RingInOrder (s.ring r) (s.fetching r) ∧ ((s.mport.fetchWaiting.get r).isSome → liveRead s r = none) := by
  have hnamed (P : FetchRequest → Prop) (hapart : (s.mport.fetchWaiting.get r).isSome → liveRead s r = none) :
      (∀ req, s.mport.fetchWaiting.get r = some req ∨ liveRead s r = some req → P req) ↔
        ∀ req, s.fetching r = some req → P req := by
    unfold State.fetching
    cases hw : s.mport.fetchWaiting.get r with
    | none => simp
    | some req => simp [hapart (by simp [hw])]
  simp only [ringLaw, fetchInProgress_eq]
  constructor
  · rintro ⟨hpending, hordered, hroom, hdue, hapart, hreq, hidle⟩
    exact ⟨⟨hpending, hordered, hroom, hdue, (hnamed _ hapart).1 hreq, hidle⟩, hapart⟩
  · rintro ⟨⟨hpending, hordered, hroom, hdue, hreq, hidle⟩, hapart⟩
    exact ⟨hpending, hordered, hroom, hdue, hapart, (hnamed _ hapart).2 hreq, hidle⟩

theorem ringsLaw_iff (s : State) : ringsLaw s ↔ RingsInOrder s.control.part s.ring s.fetching ∧ fetchesApart s := by
  simp only [ringsLaw, ringLaw_iff, fetchInProgress_eq, Option.isSome_eq_false_iff, Option.isNone_iff_eq_none]
  constructor
  · rintro ⟨heach, hquiet⟩
    exact ⟨⟨fun r => (heach r).1, hquiet⟩, fun r => (heach r).2⟩
  · rintro ⟨⟨heach, hquiet⟩, hapart⟩
    exact ⟨fun r => ⟨heach r, hapart r⟩, hquiet⟩

/-! ## What a ring reads (R58, R67, R70, R75) -/

/-- The law of the wait reason and the fault cause that a ring reads within its state. -/
structure RingReports (g : Ring) : Prop where
  wait : g.phase ≠ .active → g.phase ≠ .flushing → g.wait = .none
  cause : g.phase ≠ .faulted → g.phase ≠ .flushing → g.cause = .none
  faulted : g.phase = .faulted → g.cause ≠ .none

theorem ringReportsLaw_iff (s : State) : ringReportsLaw s ↔ ∀ r, RingReports (s.ring r) :=
  forall_congr' fun _ =>
    ⟨fun ⟨hwait, hcause, hfaulted⟩ => ⟨hwait, hcause, hfaulted⟩, fun ⟨hwait, hcause, hfaulted⟩ => ⟨hwait, hcause, hfaulted⟩⟩

theorem RingReports.congr {g g' : Ring} (h : RingReports g) (hphase : g'.phase = g.phase) (hwait : g'.wait = g.wait)
    (hcause : g'.cause = g.cause) : RingReports g' := by
  obtain ⟨hw, hc, hf⟩ := h
  exact ⟨hphase ▸ hwait ▸ hw, hphase ▸ hcause ▸ hc, hphase ▸ hcause ▸ hf⟩

/-- A ring without a fault cause that is not FAULTED and reads wait reason NONE. -/
theorem RingReports.of_none {g : Ring} (hphase : g.phase ≠ .faulted) (hwait : g.wait = .none) (hcause : g.cause = .none) :
    RingReports g :=
  ⟨fun _ _ => hwait, fun _ _ => hcause, fun h => absurd h hphase⟩

/-- An ACTIVE or FLUSHING ring may read any wait reason. -/
theorem RingReports.setWait {g : Ring} (h : RingReports g) (hphase : g.phase = .active ∨ g.phase = .flushing) (w : WaitReason) :
    RingReports { g with wait := w } :=
  ⟨fun hactive hflushing => (hphase.elim hactive hflushing).elim, h.cause, h.faulted⟩

/-- A ring that is neither FAULTED nor FLUSHING has no fault cause to take along (R58, R75). -/
theorem RingReports.enter {g : Ring} (h : RingReports g) {p : RingPhase} (hfaulted : g.phase ≠ .faulted)
    (hflushing : g.phase ≠ .flushing) (hp : p ≠ .faulted) : RingReports (g.enter p) :=
  .of_none hp rfl (h.cause hfaulted hflushing)

/-! ## Changes that bring no record in -/

/-- The ring keeps its counts, and its queue loses records at its head at most; it becomes IDLE only with nothing queued or pending, does
not leave DISABLED, and reads no more than its state allows. -/
structure RingAdvances (g g' : Ring) : Prop where
  dir : g'.dir = g.dir
  tail : g'.tail = g.tail
  fetch : g'.fetch = g.fetch
  queue : g'.queue <:+ g.queue
  idle : g'.phase = .idle → g.phase = .idle ∨ (g'.queue = [] ∧ ringPending g' = 0)
  disabled : g.phase = .disabled → g'.phase = .disabled
  reports : RingReports g → RingReports g'

theorem RingAdvances.refl (g : Ring) : RingAdvances g g := ⟨rfl, rfl, rfl, List.suffix_refl _, .inl, id, id⟩

theorem RingAdvances.of_eq {g g' : Ring} (h : g' = g) : RingAdvances g g' := h ▸ .refl g

theorem RingAdvances.pending {g g' : Ring} (h : RingAdvances g g') : ringPending g' = ringPending g := by
  rw [ringPending, h.tail, h.fetch, ringPending]

theorem RingAdvances.trans {g g' g'' : Ring} (h : RingAdvances g g') (h' : RingAdvances g' g'') : RingAdvances g g'' where
  dir := h'.dir.trans h.dir
  tail := h'.tail.trans h.tail
  fetch := h'.fetch.trans h.fetch
  queue := h'.queue.trans h.queue
  idle hp := (h'.idle hp).elim
    (fun hp' => (h.idle hp').imp_right fun ⟨hqueue, hpending⟩ =>
      ⟨List.suffix_nil.1 (hqueue ▸ h'.queue), h'.pending.trans hpending⟩)
    .inr
  disabled hp := h'.disabled (h.disabled hp)
  reports hr := h'.reports (h.reports hr)

/-- A ring that is not DISABLED enters a state other than IDLE. -/
theorem RingAdvances.of_phase {g g' : Ring} (hdir : g'.dir = g.dir) (htail : g'.tail = g.tail) (hfetch : g'.fetch = g.fetch)
    (hqueue : g'.queue = g.queue) (hfrom : g.phase ≠ .disabled) (hto : g'.phase ≠ .idle)
    (hreports : RingReports g → RingReports g') : RingAdvances g g' :=
  ⟨hdir, htail, hfetch, hqueue ▸ List.suffix_refl _, fun h => absurd h hto, fun h => absurd h hfrom, hreports⟩

/-- A ring keeps its state, and loses its head at most. -/
theorem RingAdvances.of_same_phase {g g' : Ring} (hdir : g'.dir = g.dir) (htail : g'.tail = g.tail) (hfetch : g'.fetch = g.fetch)
    (hqueue : g'.queue = g.queue ∨ g'.queue = g.queue.tail) (hphase : g'.phase = g.phase)
    (hreports : RingReports g → RingReports g') : RingAdvances g g' where
  dir := hdir
  tail := htail
  fetch := hfetch
  queue := hqueue.elim (fun h => h ▸ List.suffix_refl _) fun h => h ▸ List.tail_suffix _
  idle hp := .inl (hphase ▸ hp)
  disabled hp := hphase.trans hp
  reports := hreports

/-- A queue that has lost records at its head still ends just before the fetch count (R61). -/
theorem queueOrdered_of_advances {g g' : Ring} (h : RingAdvances g g') (hg : queueOrdered g) : queueOrdered g' := by
  obtain ⟨lost, hqueue⟩ := h.queue
  intro i p hp
  have hfull : g.queue[lost.length + i]? = some p := by
    rw [← hqueue, List.getElem?_append_right (Nat.le_add_right ..), Nat.add_sub_cancel_left, hp]
  have hlength : g.queue.length - (lost.length + i) = g'.queue.length - i := by
    rw [← hqueue, List.length_append]
    omega
  obtain ⟨hcount, hslot⟩ := hg _ p hfull
  exact ⟨by rw [h.fetch, ← hcount, hlength], by rw [h.dir, hslot]⟩

/-- The fetch in progress may end with the change. -/
theorem RingInOrder.advance {g g' : Ring} {f f' : Option FetchRequest} (h : RingInOrder g f) (hring : RingAdvances g g')
    (hfetch : f' = f ∨ f' = none) : RingInOrder g' f' where
  pending := by
    rw [hring.pending, hring.dir]
    exact h.pending
  ordered := queueOrdered_of_advances hring h.ordered
  room := by
    have hroom := h.room
    have hqueue := hring.queue.length_le
    rcases hfetch with rfl | rfl
    · omega
    · rw [Option.isSome_none, if_neg Bool.false_ne_true]
      omega
  due hf := by
    rcases hfetch with rfl | rfl
    · exact hring.pending ▸ h.due hf
    · cases hf
  named req hreq := by
    rcases hfetch with rfl | rfl
    · rw [slotAddr, hring.fetch, hring.dir]
      exact h.named req hreq
    · cases hreq
  idle hp := (hring.idle hp).elim
    (fun hp' => ⟨List.suffix_nil.1 ((h.idle hp').1 ▸ hring.queue), hring.pending.trans (h.idle hp').2⟩) id

/-! ## Changes that bring a record in, or empty the ring -/

/-- R71, R79, R168: a ring with nothing posted, nothing queued and no fetch in progress. -/
theorem RingInOrder.empty {g : Ring} (hqueue : g.queue = []) (hcounts : g.tail = g.fetch) : RingInOrder g none where
  pending := by simp [ringPending, Count.since, hcounts]
  ordered i p hp := by simp [hqueue] at hp
  room := by simp [hqueue]
  due := nofun
  named := nofun
  idle _ := ⟨hqueue, by simp [ringPending, Count.since, hcounts]⟩

/-- R58 to R60: a POST that neither overruns nor retracts moves the tail on; an IDLE ring stays so only with nothing pending. -/
theorem RingInOrder.posted {g g' : Ring} {f : Option FetchRequest} (h : RingInOrder g f) (hdir : g'.dir = g.dir)
    (hfetch : g'.fetch = g.fetch) (hqueue : g'.queue = g.queue) (hfits : ringPending g' ≤ depthOf g.dir.depthCode)
    (hmore : ringPending g ≤ ringPending g') (hidle : g'.phase = .idle → g.phase = .idle ∧ ringPending g' = 0) :
    RingInOrder g' f where
  pending := hdir ▸ hfits
  ordered i p hp := by
    rw [hfetch, hqueue, hdir]
    exact h.ordered i p (hqueue ▸ hp)
  room := hqueue ▸ h.room
  due hf := (h.due hf).trans_le hmore
  named req hreq := by
    rw [slotAddr, hfetch, hdir]
    exact h.named req hreq
  idle hp := ⟨hqueue ▸ (h.idle (hidle hp).1).1, (hidle hp).2⟩

/-- R62: a fetch is requested, of a pending record that has room in the queue. -/
theorem RingInOrder.requested {g : Ring} (h : RingInOrder g none) (hpending : 0 < ringPending g) (hroom : g.queue.length < 4) :
    RingInOrder g (some ⟨fetchSlot g, g.fetch, slotAddr g (fetchSlot g)⟩) where
  pending := h.pending
  ordered := h.ordered
  room := hroom
  due _ := hpending
  named req hreq := by
    cases hreq
    exact ⟨rfl, rfl, rfl⟩
  idle := h.idle

/-- One record less is pending when the fetch count rises. -/
theorem ringPending_succ {g g' : Ring} (htail : g'.tail = g.tail) (hfetch : g'.fetch = g.fetch + 1) (h : 0 < ringPending g) :
    ringPending g' + 1 = ringPending g := by
  simp only [ringPending, Count.since, htail, hfetch] at h ⊢
  bv_omega

/-- R63: the fetched record joins the tail of the queue, under the fetch count that its request named. -/
theorem RingInOrder.joined {g g' : Ring} {req : FetchRequest} {record : Record} (h : RingInOrder g (some req))
    (hdir : g'.dir = g.dir) (htail : g'.tail = g.tail) (hfetch : g'.fetch = g.fetch + 1)
    (hqueue : g'.queue = g.queue ++ [⟨record, req.slot, req.fetchCount⟩]) (hphase : g'.phase = g.phase) :
    RingInOrder g' none := by
  have hdue := h.due rfl
  have hless := ringPending_succ htail hfetch hdue
  obtain ⟨hcount, hslot, -⟩ := h.named req rfl
  refine ⟨?_, ?_, ?_, nofun, nofun, fun hp => ?_⟩
  · have hpending := h.pending
    rw [hdir]
    omega
  · intro i p hp
    rw [hqueue, List.getElem?_append] at hp
    rw [hqueue, hfetch, hdir, List.length_append, List.length_singleton]
    split at hp
    · next hi =>
      obtain ⟨hbefore, hplace⟩ := h.ordered i p hp
      have hlength : g.queue.length + 1 - i = g.queue.length - i + 1 := by omega
      exact ⟨by rw [hlength, BitVec.ofNat_add, ← BitVec.add_assoc, hbefore]; rfl, hplace⟩
    · next hi =>
      obtain ⟨hlast, rfl⟩ : i - g.queue.length = 0 ∧ _ = p := by simpa [List.getElem?_singleton] using hp
      have hlength : g.queue.length + 1 - i = 1 := by omega
      exact ⟨by rw [hlength, hcount]; rfl, by rw [hslot, hcount]⟩
  · have hroom := h.room
    rw [hqueue, List.length_append]
    simpa using hroom
  · exact absurd (h.idle (hphase ▸ hp)).2 hdue.ne'

end Sys2Proof.Machine

/-! The rings under the shared operations and the commands (R56 to R78): which bring no record in, and which leave the fetches. -/

namespace Sys2Proof.Machine

/-! ## The rings under the shared operations -/

/-- No ring takes a record in, and every ring keeps to its law. -/
def RingsAdvance (s t : State) : Prop := ∀ r, RingAdvances (s.ring r) (t.ring r)

theorem RingsAdvance.refl (s : State) : RingsAdvance s s := fun _ => .refl _

theorem RingsAdvance.trans {s t u : State} (h : RingsAdvance s t) (h' : RingsAdvance t u) : RingsAdvance s u :=
  fun r => (h r).trans (h' r)

theorem RingsAdvance.of_rings {s t : State} (h : t.ringManager.rings = s.ringManager.rings) : RingsAdvance s t :=
  fun r => .of_eq (by rw [State.ring, h, State.ring])

theorem ringsAdvance_setRing {s : State} {r : RingId} {g : Ring} (h : RingAdvances (s.ring r) g) : RingsAdvance s (s.setRing r g) := by
  intro r'
  rw [State.ring_setRing]
  split
  · next hr => exact hr ▸ h
  · exact .refl _

/-- A ring that is neither DISABLED, FAULTED nor FLUSHING enters a state other than IDLE and FAULTED. -/
theorem RingAdvances.enter {g : Ring} {p : RingPhase} (hfrom : g.phase ≠ .disabled) (hfaulted : g.phase ≠ .faulted)
    (hflushing : g.phase ≠ .flushing) (hidle : p ≠ .idle) (hp : p ≠ .faulted) : RingAdvances g (g.enter p) :=
  .of_phase rfl rfl rfl rfl hfrom hidle fun hg => hg.enter hfaulted hflushing hp

theorem ringsAdvance_refreshFlush (s : State) (r : RingId) : RingsAdvance s (s.refreshFlush r) := by
  unfold State.refreshFlush
  split
  · next hphase => exact ringsAdvance_setRing (.of_same_phase rfl rfl rfl (.inl rfl) rfl fun h => h.setWait (.inr hphase) _)
  · exact .refl s

theorem ringsAdvance_stopOnError (s : State) (r : RingId) (st : Status) : RingsAdvance s (s.stopOnError r st) := by
  rcases s.stopOnError_cases r st with h | ⟨-, -, hphase, h⟩ <;> rw [h]
  · exact .refl s
  · refine ringsAdvance_setRing (.enter ?_ ?_ ?_ nofun nofun) <;> rcases hphase with hp | hp <;> simp [hp]

theorem ringsAdvance_handEntry (s : State) (e : Completion) : RingsAdvance s (s.handEntry e) :=
  (RingsAdvance.of_rings (t := s.setPostQueue (s.writer.postQueue ++ [e])) rfl).trans (ringsAdvance_stopOnError _ e.ring e.status)

theorem ringsAdvance_handOff (s : State) (c : ChannelId) (x : Context) (e : Ending) : RingsAdvance s (s.handOff c x e) :=
  (ringsAdvance_handEntry s (channelCompletion s x e)).trans (.of_rings (by rw [State.handOff_ringManager_eq]))

/-- R75: a flush ends in STOPPED with fault cause NONE. -/
theorem ringsAdvance_endFlush {s : State} {r : RingId} (hfrom : (s.ring r).phase ≠ .disabled) : RingsAdvance s (s.endFlush r) :=
  ringsAdvance_setRing (s := s) (r := r) (g := { (s.ring r).enter .stopped with cause := .none })
    (.of_phase rfl rfl rfl rfl hfrom nofun fun _ => .of_none nofun rfl rfl)

/-- R69, R75: STOPPING leads to STOPPED, which takes no fault cause along, and so does a flush that ends. -/
theorem ringAdvances_stoppedBy {g : Ring} (hphase : g.phase = .stopping ∨ g.phase = .flushing) : RingAdvances g g.stoppedBy := by
  refine .of_phase rfl rfl rfl rfl (by rcases hphase with hp | hp <;> simp [hp]) nofun fun hg => .of_none nofun rfl ?_
  rcases hphase with hp | hp
  · simp [Ring.stoppedBy, hp, hg.cause]
  · simp [Ring.stoppedBy, hp]

theorem ringsAdvance_recordWritten (s : State) (r : RingId) : RingsAdvance s (s.recordWritten r) := by
  by_cases h : s.recordStops r
  · rw [State.recordWritten_of_stops h]
    exact ringsAdvance_setRing (s := s) (ringAdvances_stoppedBy (h.imp And.left And.left))
  · rw [State.recordWritten_of_not_stops h]
    exact ringsAdvance_setRing (.of_same_phase rfl rfl rfl (.inl rfl) rfl fun hg => hg.congr rfl rfl rfl)

theorem ringsAdvance_entryWritten (s : State) (e : Completion) : RingsAdvance s (s.entryWritten e) := fun r => by
  rw [State.entryWritten_ring]
  exact ringsAdvance_recordWritten (s.setCq e.cq (cqAfterWrite (s.cq e.cq))) e.ring r

theorem ringsAdvance_reserveDisposal (s : State) (r : RingId) : RingsAdvance s (s.reserveDisposal r) := by
  unfold State.reserveDisposal
  dsimp only
  split
  · exact .refl s
  · exact ringsAdvance_setRing (s := s) (r := r) (g := { s.ring r with disposalReserved := true })
      (.of_same_phase rfl rfl rfl (.inl rfl) rfl fun hg => hg.congr rfl rfl rfl)

theorem ringsAdvance_disposeHead (s : State) (r : RingId) (p : Prefetched) : RingsAdvance s (s.disposeHead r p) := by
  unfold State.disposeHead
  refine RingsAdvance.trans (ringsAdvance_setRing ?_) (ringsAdvance_handEntry _ _)
  exact .of_same_phase rfl rfl rfl (.inr rfl) rfl fun hg => hg.congr rfl rfl rfl

theorem ringsAdvance_withdrawDisposal (s : State) (r : RingId) : RingsAdvance s (s.withdrawDisposal r) := fun r' =>
  (s.withdrawDisposal_ring r r').elim RingAdvances.of_eq fun h =>
    h ▸ .of_same_phase rfl rfl rfl (.inl rfl) rfl fun hg => hg.congr rfl rfl rfl

/-- R58, R59: a ring that is not DISABLED enters FAULTED with the cause. -/
theorem ringsAdvance_postFault {s : State} {r : RingId} {cause : FaultCause} (hfrom : (s.ring r).phase ≠ .disabled)
    (hcause : cause ≠ .none) : RingsAdvance s (s.postFault r cause) := by
  have hwithdrawn := ringsAdvance_withdrawDisposal s r
  have hphase : ((s.withdrawDisposal r).ring r).phase ≠ .disabled := by
    rcases s.withdrawDisposal_ring r r with h | h <;> rwa [h]
  unfold State.postFault
  split
  · exact .refl s
  · refine hwithdrawn.trans (ringsAdvance_setRing (s := s.withdrawDisposal r) (.of_phase rfl rfl rfl rfl hphase nofun fun _ => ?_))
    exact ⟨fun _ _ => rfl, fun hf => absurd rfl hf, fun _ => hcause⟩

/-! ## Takings (R81, R84, R96 to R100) -/

theorem ringAdvances_examinedRing (s : State) (r : RingId) : RingAdvances (s.ring r) (examinedRing s r) := by
  unfold examinedRing
  dsimp only
  split
  · next hactive => exact .of_same_phase rfl rfl rfl (.inl rfl) rfl fun hg => hg.setWait (.inl hactive) _
  · exact .refl _

theorem ringsAdvance_setWaits (s : State) : RingsAdvance s s.setWaits := fun r => by
  rw [State.setWaits_ring]
  exact ringAdvances_examinedRing s r

/-- R61, R99: an ACTIVE ring whose head has been taken is IDLE when nothing is queued and nothing pending. -/
theorem ringAdvances_takenRing {g : Ring} (hactive : g.phase = .active) : RingAdvances g (takenRing g) where
  dir := rfl
  tail := rfl
  fetch := rfl
  queue := List.tail_suffix _
  idle hp := by
    simp only [takenRing, hactive] at hp
    split at hp
    · next hnone => exact .inr ⟨hnone.1, by simp [ringPending, takenRing, Count.since, hnone.2]⟩
    · cases hp
  disabled hp := by simp [hactive] at hp
  reports hg := by
    refine .of_none ?_ rfl (hg.cause (by simp [hactive]) (by simp [hactive]))
    simp only [takenRing, hactive]
    split <;> simp

theorem ringsAdvance_carryOut (s : State) (r : RingId) (p : Prefetched) (plan : Plan) : RingsAdvance s (s.carryOut r p plan) := by
  have hcompleted (m : MapUnit) (st : Status) (d : Detail) : RingsAdvance s ((s.setMap m).completeHead r p st d) :=
    ringsAdvance_handEntry (s.setMap m) _
  cases plan with
  | refuse st d => exact hcompleted s.map st d
  | complete => exact hcompleted s.map .ok .none
  | mapset | maprevert => exact hcompleted _ .ok .none
  | mapswitch =>
    simp only [State.carryOut]
    split
    · exact .of_rings rfl
    · exact hcompleted _ .ok .none
  | transfer => exact .of_rings (by simp [State.carryOut])

theorem ringsAdvance_examine (s : State) : RingsAdvance s s.examine := by
  rcases s.examine_cases with ⟨-, he⟩ | ⟨r, p, plan, -, hv, he⟩
  · rw [he]
    exact ringsAdvance_setWaits s
  · obtain ⟨-, hactive, -⟩ := verdict_eq_eligible hv
    rw [he]
    refine RingsAdvance.trans (fun r' => ?_) (ringsAdvance_carryOut (s.setWaits.takeHead r) r p plan)
    by_cases hr : r' = r
    · subst hr
      have htaken : (s.setWaits.takeHead r').ring r' = takenRing (s.ring r') := by simp [State.takeHead, ← ringAfterTaking_examinedRing]
      exact htaken ▸ ringAdvances_takenRing hactive
    · have hother : (s.setWaits.takeHead r).ring r' = examinedRing s r' := by simp [State.takeHead, hr]
      exact hother ▸ ringAdvances_examinedRing s r'

/-! ## The commands that bring no record in -/

theorem execStop_ringsAdvance {r : RingId} {s t : State} (h : execStop r s = .next t) : RingsAdvance s t := by
  cases h
  split
  · next htaken =>
    have henter {p : RingPhase} (hidle : p ≠ .idle) (hp : p ≠ .faulted) : RingAdvances (s.ring r) ((s.ring r).enter p) := by
      refine .enter ?_ ?_ ?_ hidle hp <;>
        rcases (show (s.ring r).phase = .idle ∨ (s.ring r).phase = .active from htaken.2) with hq | hq <;> simp [hq]
    split
    · exact ringsAdvance_setRing (s := s.selectRing r) (henter nofun nofun)
    · exact ringsAdvance_setRing (s := s.selectRing r) (henter nofun nofun)
  · exact .refl s

/-- R70: RESUME leads to IDLE only with nothing queued or pending. -/
theorem execRingResume_ringsAdvance {r : RingId} {s t : State} (h : execRingResume r s = .next t) : RingsAdvance s t := by
  cases h
  split
  · next htaken =>
    have hstopped : (s.ring r).phase = .stopped := htaken.2
    split
    · exact ringsAdvance_setRing (s := s.selectRing r) (.enter (by simp [hstopped]) (by simp [hstopped]) (by simp [hstopped]) nofun nofun)
    · next hnone =>
      obtain ⟨hqueue, hpending⟩ := not_or.1 hnone
      refine ringsAdvance_setRing (s := s.selectRing r) ⟨rfl, rfl, rfl, List.suffix_refl _, fun _ => .inr ?_, ?_, fun hg => ?_⟩
      · exact ⟨not_not.1 hqueue, Nat.eq_zero_of_not_pos hpending⟩
      · simp [hstopped]
      · exact hg.enter (by simp [hstopped]) (by simp [hstopped]) nofun
  · exact .refl s

/-- R73: a flush keeps the fault cause, until it ends. -/
theorem execFlush_ringsAdvance {r : RingId} {s t : State} (h : execFlush r s = .next t) : RingsAdvance s t := by
  cases h
  split
  · next htaken =>
    have hphase : (s.ring r).phase = .stopped ∨ (s.ring r).phase = .faulted ∧ (s.ring r).inFlight = 0 := htaken.2
    have hfrom : (s.ring r).phase ≠ .disabled := by rcases hphase with hp | ⟨hp, -⟩ <;> simp [hp]
    have hflushing : RingsAdvance s
        ((s.selectRing r).setRing r { (s.ring r).enter .flushing with flushTarget := (s.ring r).tail }) :=
      ringsAdvance_setRing (s := s.selectRing r) (.of_phase rfl rfl rfl rfl hfrom nofun fun _ =>
        ⟨fun _ _ => rfl, fun _ hf => absurd rfl hf, nofun⟩)
    dsimp only
    split
    · exact hflushing.trans (ringsAdvance_endFlush (by simp [Ring.enter]))
    · exact hflushing.trans (ringsAdvance_refreshFlush _ r)
  · exact .refl s

theorem execFlushDisposal_ringsAdvance {r : RingId} {s t : State} (h : execFlushDisposal r s = .next t) : RingsAdvance s t := by
  cases h
  split
  · exact .refl s
  · next p _ _ =>
    split
    · exact .refl s
    · split
      · refine (ringsAdvance_reserveDisposal s r).trans (.trans ?_ (ringsAdvance_refreshFlush _ r))
        split
        · exact ringsAdvance_disposeHead _ r p
        · exact .refl _
      · exact ringsAdvance_refreshFlush s r

theorem execCompletionWrite_ringsAdvance {result : WriteEnd} {s t : State} (h : execCompletionWrite result s = .next t) :
    RingsAdvance s t := by
  rcases execCompletionWrite_ends h with rfl | ⟨hended, -⟩ | ⟨e, u, -, hended, -, rfl⟩
  · exact .refl _
  · exact .of_rings (by rw [hended.ringManager])
  · have hrings : RingsAdvance s u := .of_rings (by rw [hended.ringManager])
    split
    · exact hrings
    · exact hrings.trans (ringsAdvance_entryWritten u e)

/-- The commands that can bring a record in, move a tail, or empty a ring. -/
def refillsRings : Instr → Bool
  | .powerOnReset | .softReset _ | .setupLoadEnd _ _ | .ringReset _ | .post _ _ | .fetchComplete _ _ => true
  | _ => false

theorem exec_ringsAdvance {c : Instr} {s t : State} (hc : refillsRings c = false) (h : exec c s = .next t) : RingsAdvance s t := by
  cases c with
  | powerOnReset | softReset | setupLoadEnd | ringReset | post | fetchComplete => cases hc
  | controlMaskWrite | controlUnknownCommand | select | ringctlUnknownCommand | setupWrite | statusWrite | intstatWrite =>
    cases h
    exact .of_rings rfl
  | enable | quiesce | abort | resume | ack | fetchRequest | mPortGrant | holdoffExpiry =>
    cases h
    apply RingsAdvance.of_rings
    split_ifs <;> simp
  | stop r => exact execStop_ringsAdvance h
  | ringResume r => exact execRingResume_ringsAdvance h
  | flush r => exact execFlush_ringsAdvance h
  | flushDisposal r => exact execFlushDisposal_ringsAdvance h
  | completionWrite result => exact execCompletionWrite_ringsAdvance h
  | mailboxFault =>
    simp only [exec, execMailboxFault] at h
    split at h <;> cases h
    · exact .refl s
    · split <;> exact .of_rings (by simp)
  | examination =>
    cases h
    split
    · exact .refl s
    · exact ringsAdvance_examine s
  | handOff c =>
    rcases execHandOff_cases h with rfl | ⟨x, e, -, rfl⟩
    · exact .refl _
    · exact ringsAdvance_handOff s c x e
  | beatGrant | beatEnd | ready | readyTimeout => exact .of_rings (by rw [(exec_beat_leavesQueues rfl h).ringManager])

end Sys2Proof.Machine

/-! Every step keeps the law of each ring's counts, queue and fetch, and of what it reads within its state (R56 to R63, R71, R75). -/

namespace Sys2Proof.Machine

/-! ## The fetches under the commands (R62, R64, R71) -/

/-- No fetch is requested or granted; one that waits may be withdrawn, and one in service may end or be discarded. -/
structure FetchesKept (s t : State) : Prop where
  waiting : ∀ r, t.mport.fetchWaiting.get r = s.mport.fetchWaiting.get r ∨
    (t.mport.fetchWaiting.get r = none ∧ liveRead t r = none)
  live : ∀ r, liveRead t r = liveRead s r ∨ liveRead t r = none

theorem FetchesKept.fetching {s t : State} (h : FetchesKept s t) (r : RingId) :
    t.fetching r = s.fetching r ∨ t.fetching r = none := by
  unfold State.fetching
  rcases h.waiting r with hw | ⟨hw, hl⟩
  · rcases h.live r with hl | hl
    · exact .inl (by rw [hw, hl])
    · cases hwait : s.mport.fetchWaiting.get r with
      | none => exact .inr (by simp [hw, hwait, hl])
      | some req => exact .inl (by simp [hw, hwait])
  · exact .inr (by simp [hw, hl])

theorem FetchesKept.apart {s t : State} (h : FetchesKept s t) (hs : fetchesApart s) : fetchesApart t := by
  intro r hwait
  rcases h.live r with hl | hl
  · rw [hl]
    refine hs r ?_
    rcases h.waiting r with hw | ⟨hw, -⟩
    · rwa [← hw]
    · simp [hw] at hwait
  · exact hl

/-- The waiting fetches stay, and the access in service ends at most. -/
theorem FetchesKept.of_port {s t : State} (hwaiting : t.mport.fetchWaiting = s.mport.fetchWaiting)
    (hservice : t.mport.inService = s.mport.inService ∨ t.mport.inService = none) : FetchesKept s t :=
  ⟨fun r => .inl (by rw [hwaiting]), fun r => hservice.imp (liveRead_congr · r) (liveRead_of_free · r)⟩

theorem FetchesKept.of_mport {s t : State} (h : t.mport = s.mport) : FetchesKept s t :=
  .of_port (by rw [h]) (.inl (by rw [h]))

theorem FetchesKept.refl (s : State) : FetchesKept s s := .of_mport rfl

/-- R64, R173: a reset withdraws every fetch, and abandons the one in service. -/
theorem fetchesKept_resetBlocks (s : State) (c : ControlUnit) (m : MapUnit) :
    FetchesKept s (s.resetBlocks c m) ∧ ∀ r, (s.resetBlocks c m).fetching r = none := by
  have hwaiting (r : RingId) : (s.resetBlocks c m).mport.fetchWaiting.get r = none := PerRing.get_all none r
  have hlive (r : RingId) : liveRead (s.resetBlocks c m) r = none := by
    refine liveRead_of_not_live (fun a ha => ?_) r
    obtain ⟨b, -, rfl⟩ := Option.map_eq_some_iff.1 (show s.mport.inService.map _ = some a from ha)
    nofun
  exact ⟨⟨fun r => .inr ⟨hwaiting r, hlive r⟩, fun r => .inr (hlive r)⟩,
    fun r => (fetching_eq_none_iff _ r).2 ⟨hwaiting r, hlive r⟩⟩

/-- R71: of the access in service, a ring RESET discards a live fetch of its ring. -/
theorem abandonFetch_inService_of_fetch {m : MPort} {r : RingId} {req : FetchRequest}
    (h : m.inService = some ⟨.fetch r req, .live⟩) : (abandonFetch m r).inService = some ⟨.fetch r req, .discarded⟩ := by
  simp [abandonFetch, h]

theorem abandonFetch_inService_of_not_fetch {m : MPort} {r : RingId}
    (h : ∀ req, m.inService ≠ some ⟨.fetch r req, .live⟩) : (abandonFetch m r).inService = m.inService := by
  unfold abandonFetch
  dsimp only
  split
  · next r' req hservice =>
    split
    · next hr => exact absurd (hr ▸ hservice) (h req)
    · rfl
  · rfl

/-- R71: a ring RESET ends the fetch of its ring, and leaves those of the others. -/
theorem fetching_abandonFetch (s : State) (r : RingId) :
    FetchesKept s (s.setMPort (abandonFetch s.mport r)) ∧ (s.setMPort (abandonFetch s.mport r)).fetching r = none := by
  generalize ht : s.setMPort (abandonFetch s.mport r) = t
  have hport : t.mport = abandonFetch s.mport r := by rw [← ht]; rfl
  have hlive : liveRead t r = none ∧ ∀ r', r' ≠ r → liveRead t r' = liveRead s r' := by
    by_cases h : ∃ req, s.mport.inService = some ⟨.fetch r req, .live⟩
    · obtain ⟨req, hreq⟩ := h
      have hnone (r' : RingId) : liveRead t r' = none := by
        refine liveRead_of_not_live (fun a ha => ?_) r'
        rw [hport, abandonFetch_inService_of_fetch hreq] at ha
        cases ha
        nofun
      refine ⟨hnone r, fun r' hr => (hnone r').trans ?_⟩
      rw [liveRead_of_fetch hreq, if_neg (Ne.symm hr)]
    · have hservice : t.mport.inService = s.mport.inService := by
        rw [hport, abandonFetch_inService_of_not_fetch fun req hreq => h ⟨req, hreq⟩]
      refine ⟨?_, fun r' _ => liveRead_congr hservice r'⟩
      rw [liveRead_congr hservice, ← Option.not_isSome_iff_eq_none]
      intro hsome
      obtain ⟨req, hreq⟩ := Option.isSome_iff_exists.1 hsome
      exact h ⟨req, liveRead_eq_some hreq⟩
  have hwaiting (r' : RingId) : t.mport.fetchWaiting.get r' = if r' = r then none else s.mport.fetchWaiting.get r' := by
    rw [hport]
    exact PerRing.get_set ..
  have hends : t.mport.fetchWaiting.get r = none ∧ liveRead t r = none := ⟨by rw [hwaiting, if_pos rfl], hlive.1⟩
  refine ⟨⟨fun r' => ?_, fun r' => ?_⟩, (fetching_eq_none_iff t r).2 hends⟩ <;> by_cases hr : r' = r
  · exact .inr (hr ▸ hends)
  · exact .inl (by rw [hwaiting, if_neg hr])
  · exact .inr (hr ▸ hends.2)
  · exact .inl (hlive.2 r' hr)

/-- The commands that request or grant a fetch. -/
def startsFetch : Instr → Bool
  | .fetchRequest _ | .mPortGrant => true
  | _ => false

theorem exec_fetchesKept {c : Instr} {s t : State} (hc : startsFetch c = false) (h : exec c s = .next t) : FetchesKept s t := by
  cases c with
  | fetchRequest | mPortGrant => cases hc
  | powerOnReset | softReset =>
    cases h
    exact (fetchesKept_resetBlocks s _ _).1
  | controlMaskWrite | controlUnknownCommand | select | ringctlUnknownCommand | setupWrite | statusWrite | intstatWrite =>
    cases h
    exact .of_mport rfl
  | enable m =>
    cases h
    split
    · unfold State.beginLoad
      dsimp only
      split
      · exact .of_port rfl (.inl rfl)
      · exact .of_mport rfl
    · exact .of_mport rfl
  | quiesce | abort | resume | stop | ringResume | flush | post | ack | holdoffExpiry | examination =>
    cases h
    apply FetchesKept.of_mport
    split_ifs <;> simp
  | ringReset r =>
    cases h
    split
    · obtain ⟨hwaiting, hlive⟩ := (fetching_abandonFetch s r).1
      exact ⟨hwaiting, hlive⟩
    · exact .of_mport rfl
  | fetchComplete host ok =>
    simp only [exec, execFetchComplete] at h
    split at h <;> cases h
    · split
      · exact .of_port rfl (.inr rfl)
      · split <;> exact .of_port rfl (.inr rfl)
      · split <;> exact .of_port (by simp) (.inr (by simp))
    · exact .refl s
  | setupLoadEnd host ok =>
    simp only [exec, execSetupLoadEnd] at h
    split at h <;> cases h
    · split_ifs <;> exact .of_port (by simp) (.inr (by simp))
    · exact .refl s
  | completionWrite result =>
    simp only [exec, execCompletionWrite] at h
    split at h
    · split at h
      · cases h
        exact .of_port rfl (.inr rfl)
      · split at h
        · cases h
          exact .of_port rfl (.inr rfl)
        · cases result <;> cases h
          · split <;> exact .of_port (by simp) (.inr (by simp))
          · exact .of_port rfl (.inr rfl)
    · cases h
      exact .refl s
  | mailboxFault =>
    simp only [exec, execMailboxFault] at h
    split at h <;> cases h
    · exact .refl s
    · split <;> exact .of_port (by simp) (.inl (by simp))
  | handOff c =>
    rcases execHandOff_cases h with rfl | ⟨x, e, -, rfl⟩
    · exact .refl _
    · exact .of_mport (by simp)
  | flushDisposal r =>
    cases h
    apply FetchesKept.of_mport
    split
    · rfl
    · dsimp only
      split_ifs <;> simp
  | beatGrant | beatEnd | ready | readyTimeout => exact .of_mport (exec_beat_leavesQueues rfl h).mport

/-- R64: a grant leaves the waiting fetches, or takes one of them into service. -/
theorem grantAccess_cases (s : State) :
    ((grantAccess s).fetchWaiting = s.mport.fetchWaiting ∧
        ∀ a, (grantAccess s).inService = some a → s.mport.inService = some a ∨ ∀ r req, a.kind ≠ .fetch r req) ∨
      ∃ r req, s.mport.fetchWaiting.get r = some req ∧
        grantAccess s =
          { s.mport with
            inService := some ⟨.fetch r req, .live⟩, fetchWaiting := s.mport.fetchWaiting.set r none, lastFetch := r } := by
  unfold grantAccess
  dsimp only
  split
  · exact .inl ⟨rfl, fun a ha => .inr (by cases ha; nofun)⟩
  · split
    · next r _ =>
      split
      · next req hreq => exact .inr ⟨r, req, hreq, rfl⟩
      · exact .inl ⟨rfl, fun _ => .inl⟩
    · split
      · exact .inl ⟨rfl, fun a ha => .inr (by cases ha; nofun)⟩
      · exact .inl ⟨rfl, fun _ => .inl⟩

/-- R62, R64: a granted fetch is in progress as it was while it waited. -/
theorem fetching_grantAccess {s t : State} (hfree : s.mport.inService = none) (ht : t.mport = grantAccess s) :
    t.fetching = s.fetching ∧ fetchesApart t := by
  have hbefore (r : RingId) : s.fetching r = s.mport.fetchWaiting.get r := by
    rw [State.fetching, liveRead_of_free hfree, Option.or_none]
  rcases grantAccess_cases s with ⟨hwaiting, hservice⟩ | ⟨r, req, hreq, hgrant⟩
  · have hlive (r : RingId) : liveRead t r = none := by
      rw [← Option.not_isSome_iff_eq_none]
      intro hsome
      obtain ⟨req, hreq⟩ := Option.isSome_iff_exists.1 hsome
      have hfetch := liveRead_eq_some hreq
      rw [ht] at hfetch
      rcases hservice _ hfetch with hbusy | hnot
      · simp [hfree] at hbusy
      · exact hnot r req rfl
    refine ⟨funext fun r => ?_, fun r _ => hlive r⟩
    rw [hbefore, State.fetching, hlive, Option.or_none, ht, hwaiting]
  · rw [hgrant] at ht
    have hlive (r' : RingId) : liveRead t r' = if r = r' then some req else none := liveRead_of_fetch (by rw [ht]) r'
    have hwaiting (r' : RingId) : t.mport.fetchWaiting.get r' = if r' = r then none else s.mport.fetchWaiting.get r' := by
      rw [ht]
      exact PerRing.get_set ..
    refine ⟨funext fun r' => ?_, fun r' hwait => ?_⟩
    · rw [hbefore, State.fetching, hlive, hwaiting]
      by_cases hr : r' = r
      · simp [hr, hreq]
      · simp [hr, Ne.symm hr]
    · rw [hwaiting] at hwait
      rw [hlive, if_neg]
      rintro rfl
      simp at hwait

/-! ## What keeps the law of every ring -/

section

variable {p p' : PartState} {ring ring' : RingId → Ring} {fetch fetch' : RingId → Option FetchRequest}

theorem RingsInOrder.advance (h : RingsInOrder p ring fetch) (hpart : p' = .off ∨ p' = .loading → p = .off ∨ p = .loading)
    (hring : ∀ r, RingAdvances (ring r) (ring' r)) (hfetch : ∀ r, fetch' r = fetch r ∨ fetch' r = none) :
    RingsInOrder p' ring' fetch' where
  each r := (h.each r).advance (hring r) (hfetch r)
  quiet hp r := by
    obtain ⟨hdisabled, hnone⟩ := h.quiet (hpart hp) r
    exact ⟨(hring r).disabled hdisabled, (hfetch r).elim (·.trans hnone) id⟩

/-- One ring changes by its own rule, in a part that is neither OFF nor LOADING. -/
theorem RingsInOrder.change (h : RingsInOrder p ring fetch) {r : RingId} (hpart : ¬(p = .off ∨ p = .loading))
    (hring : RingInOrder (ring' r) (fetch' r)) (hother : ∀ r', r' ≠ r → RingAdvances (ring r') (ring' r'))
    (hfetch : ∀ r', r' ≠ r → fetch' r' = fetch r' ∨ fetch' r' = none) : RingsInOrder p ring' fetch' where
  each r' := by
    by_cases hr : r' = r
    · exact hr ▸ hring
    · exact (h.each r').advance (hother r' hr) (hfetch r' hr)
  quiet hp := absurd hp hpart

/-- R79, R168: every ring is set anew. -/
theorem RingsInOrder.empty (hring : ∀ r, (ring r).queue = [] ∧ (ring r).tail = (ring r).fetch) (hfetch : ∀ r, fetch r = none)
    (hquiet : p = .off ∨ p = .loading → ∀ r, (ring r).phase = .disabled) : RingsInOrder p ring fetch where
  each r := hfetch r ▸ .empty (hring r).1 (hring r).2
  quiet hp r := ⟨hquiet hp r, hfetch r⟩

/-- R165: a ring that is not DISABLED is one of a part that is neither OFF nor LOADING. -/
theorem RingsInOrder.not_quiet_of_phase (h : RingsInOrder p ring fetch) {r : RingId} (hr : (ring r).phase ≠ .disabled) :
    ¬(p = .off ∨ p = .loading) :=
  fun hp => hr (h.quiet hp r).1

end

/-! ## The commands that bring a record in, move a tail, or empty a ring -/

/-- R63: the fetched record joins its queue, and a FLUSHING ring reads what it waits for. -/
theorem State.joinRecord_ringsAdvance (s : State) (r : RingId) (req : FetchRequest) :
    ∃ record, RingsAdvance
      (s.setRing r
        { s.ring r with
          queue := (s.ring r).queue ++ [⟨record, req.slot, req.fetchCount⟩], fetch := (s.ring r).fetch + 1 })
      (s.joinRecord r req) := by
  refine ⟨Record.ofWords (mailboxWords s.mailbox req.addr 8), ?_⟩
  unfold State.joinRecord
  dsimp only
  split_ifs
  · exact .refl _
  · exact (ringsAdvance_refreshFlush _ r).trans (.of_rings rfl)
  · exact ringsAdvance_refreshFlush _ r

/-- R63: the end of a fetch leaves the rings, or the record of a live one joins. -/
theorem execFetchComplete_joins {host : List HostWrite} {ok : Bool} {s t : State} (h : execFetchComplete host ok s = .next t) :
    (t.ringManager = s.ringManager ∧ t.control = s.control) ∨
      ∃ (r : RingId) (req : FetchRequest) (u : State), s.mport.inService = some ⟨.fetch r req, .live⟩ ∧
        u.ringManager = s.ringManager ∧ u.control = s.control ∧ u.mport.fetchWaiting = s.mport.fetchWaiting ∧ u.mport.inService = none ∧ t = u.joinRecord r req := by
  unfold execFetchComplete at h
  split at h
  · next r req fate hservice _ =>
    cases h
    cases fate with
    | abandoned => exact .inl ⟨rfl, rfl⟩
    | discarded => cases ok <;> exact .inl ⟨rfl, rfl⟩
    | live =>
      cases ok with
      | false => exact .inl ⟨rfl, rfl⟩
      | true =>
        exact .inr ⟨r, req, { s with mailbox := mailboxHost s.mailbox host }.freePort, hservice, rfl, rfl, rfl, rfl, rfl⟩
  · cases h
    exact .inl ⟨rfl, rfl⟩

/-- R60: a POST applied moves the tail; an IDLE ring with a record pending enters ACTIVE. -/
theorem State.postApply_ring (s : State) (r : RingId) (tail : Count) :
    (∀ r', r' ≠ r → (s.postApply r tail).ring r' = s.ring r') ∧
      (s.postApply r tail).ring r =
        if (s.ring r).phase = .idle ∧ 0 < ringPending { s.ring r with tail := tail } then { s.ring r with tail := tail }.enter .active
        else { s.ring r with tail := tail } := by
  unfold State.postApply
  dsimp only
  split
  · exact ⟨fun r' hr => by simp [State.activate, hr], by simp [State.activate]⟩
  · exact ⟨fun r' hr => by simp [hr], by simp⟩

/-- R57 to R60: what a POST does to the rings. -/
theorem execPost_rings {r : RingId} {tail : Count} {s t : State} (h : execPost r tail s = .next t) :
    RingsAdvance s t ∨
      (¬(s.control.part = .off ∨ s.control.part = .loading) ∧ tail.since (s.ring r).fetch ≤ depthOf (s.ring r).dir.depthCode ∧
        ringPending (s.ring r) ≤ tail.since (s.ring r).fetch ∧ t = s.postApply r tail) := by
  cases h
  split
  · exact .inl (.of_rings rfl)
  · next htaken =>
    simp only [not_or] at htaken
    obtain ⟨hoff, hloading, -, hfrom⟩ := htaken
    split
    · exact .inl (ringsAdvance_postFault hfrom nofun)
    · next hfits =>
      split
      · exact .inl (ringsAdvance_postFault hfrom nofun)
      · next hmore => exact .inr ⟨not_or.2 ⟨hoff, hloading⟩, Nat.not_lt.1 hfits, Nat.not_lt.1 hmore, rfl⟩

/-- R71: a ring RESET is dropped, or empties a ring that is STOPPED or FAULTED. -/
theorem execRingReset_rings {r : RingId} {s t : State} (h : execRingReset r s = .next t) :
    RingsAdvance s t ∨
      ((s.ring r).phase ≠ .disabled ∧ t.mport = abandonFetch s.mport r ∧ (∀ r', r' ≠ r → t.ring r' = s.ring r') ∧
        t.ring r = { (s.ring r).enter .idle with tail := 0, fetch := 0, queue := [], cause := .none }) := by
  cases h
  split
  · next htaken =>
    refine .inr ⟨?_, rfl, fun r' hr => ?_, ?_⟩
    · rcases (show (s.ring r).phase = .stopped ∨ (s.ring r).phase = .faulted from htaken.2.1) with hp | hp <;> simp [hp]
    · exact State.ring_setRing_other (s.selectRing r) _ hr
    · exact State.ring_setRing_same (s.selectRing r) r _
  · exact .inl (.of_rings rfl)

/-! ## Every command -/

theorem ringsInOrder_execFetchRequest {r : RingId} {s t : State} (hs : RingsInOrder s.control.part s.ring s.fetching)
    (hapart : fetchesApart s) (h : execFetchRequest r s = .next t) :
    RingsInOrder t.control.part t.ring t.fetching ∧ fetchesApart t := by
  cases h
  split
  · next hready =>
    simp only [fetchReady, Bool.and_eq_true, Bool.or_eq_true, decide_eq_true_eq, Bool.not_eq_true', fetchInProgress_eq,
      Option.isSome_eq_false_iff, Option.isNone_iff_eq_none] at hready
    obtain ⟨⟨⟨⟨⟨-, hphase⟩, hpending⟩, hroom⟩, hnone⟩, -⟩ := hready
    generalize hu : s.setMPort _ = t
    have hring : t.ring = s.ring := by rw [← hu]; rfl
    have hpart : t.control.part = s.control.part := by rw [← hu]; rfl
    have hlive (r' : RingId) : liveRead t r' = liveRead s r' := liveRead_congr (by rw [← hu]; rfl) r'
    have hwaiting (r' : RingId) : t.mport.fetchWaiting.get r' =
        if r' = r then some ⟨fetchSlot (s.ring r), (s.ring r).fetch, slotAddr (s.ring r) (fetchSlot (s.ring r))⟩
        else s.mport.fetchWaiting.get r' := by
      rw [← hu]
      exact PerRing.get_set ..
    have hfrom : (s.ring r).phase ≠ .disabled := by rcases hphase with hp | ⟨hp, -⟩ <;> simp [hp]
    have hlaw := hnone ▸ hs.each r
    refine ⟨?_, fun r' hwait => ?_⟩
    · rw [hring, hpart]
      refine hs.change (r := r) (hs.not_quiet_of_phase hfrom) ?_ (fun r' _ => .refl _) fun r' hr => .inl ?_
      · rw [State.fetching, hwaiting, if_pos rfl, Option.some_or]
        exact hlaw.requested hpending hroom
      · rw [State.fetching, hlive, hwaiting, if_neg hr, State.fetching]
    · rw [hlive]
      by_cases hr : r' = r
      · exact hr ▸ ((fetching_eq_none_iff s r).1 hnone).2
      · rw [hwaiting, if_neg hr] at hwait
        exact hapart r' hwait
  · exact ⟨hs, hapart⟩

theorem ringsInOrder_execSetupLoadEnd {host : List HostWrite} {ok : Bool} {s t : State}
    (hs : RingsInOrder s.control.part s.ring s.fetching) (hfetches : FetchesKept s t) (h : execSetupLoadEnd host ok s = .next t) :
    RingsInOrder t.control.part t.ring t.fetching := by
  rcases execSetupLoadEnd_ends h with rfl | ⟨u, hended, -, rfl | ⟨hpart, b, rfl⟩⟩
  · exact hs
  · exact hs.advance (by rw [hended.control]; exact id) (fun r => .of_eq (hended.ring r)) hfetches.fetching
  · have hnone (r : RingId) : (u.loadBlock b).fetching r = none :=
      (hfetches.fetching r).elim (·.trans (hs.quiet (.inr hpart) r).2) id
    rcases u.loadBlock_cases b with ⟨e, he⟩ | ⟨-, he⟩ <;> rw [he] at hfetches hnone ⊢
    · exact hs.advance (fun _ => .inr hpart) (fun r => .of_eq (hended.ring r)) hfetches.fetching
    · exact .empty (fun r => by simp [State.finishLoad_ring, loadedRing, Ring.reset]) hnone (by simp [State.finishLoad])

theorem ringsInOrder_execRingReset {r : RingId} {s t : State} (hs : RingsInOrder s.control.part s.ring s.fetching)
    (hfetches : FetchesKept s t) (h : execRingReset r s = .next t) : RingsInOrder t.control.part t.ring t.fetching := by
  have hcontrol : t.control.part = s.control.part := by
    cases h
    split_ifs <;> rfl
  rw [hcontrol]
  rcases execRingReset_rings h with hrings | ⟨hfrom, hport, hother, hring⟩
  · exact hs.advance id hrings hfetches.fetching
  · have hnone : t.fetching r = none := by
      have hlive : liveRead t r = liveRead (s.setMPort (abandonFetch s.mport r)) r := liveRead_congr (by rw [hport]; rfl) r
      rw [← (fetching_abandonFetch s r).2, State.fetching, hlive, hport]
      rfl
    refine hs.change (hs.not_quiet_of_phase hfrom) ?_ (fun r' hr => .of_eq (hother r' hr)) fun r' _ => hfetches.fetching r'
    rw [hnone, hring]
    exact .empty rfl rfl

theorem ringsInOrder_execPost {r : RingId} {tail : Count} {s t : State} (hs : RingsInOrder s.control.part s.ring s.fetching)
    (hfetches : FetchesKept s t) (h : execPost r tail s = .next t) : RingsInOrder t.control.part t.ring t.fetching := by
  rcases execPost_rings h with hrings | ⟨hquiet, hfits, hmore, rfl⟩
  · exact hs.advance (exec_leavesTables (c := .post r tail) rfl h).stage.1 hrings hfetches.fetching
  · obtain ⟨hother, hring⟩ := s.postApply_ring r tail
    have hsame (r' : RingId) : (s.postApply r tail).fetching r' = s.fetching r' := by
      rw [State.fetching, liveRead_congr (s := s) (by simp), State.postApply_mport, State.fetching]
    rw [State.postApply_control]
    refine hs.change hquiet ?_ (fun r' hr => .of_eq (hother r' hr)) fun r' _ => .inl (hsame r')
    rw [hring, hsame]
    split
    · exact (hs.each r).posted rfl rfl rfl hfits hmore nofun
    · next hidle =>
      exact (hs.each r).posted rfl rfl rfl hfits hmore fun hp => ⟨hp, Nat.eq_zero_of_not_pos fun hpos => hidle ⟨hp, hpos⟩⟩

theorem ringsInOrder_execFetchComplete {host : List HostWrite} {ok : Bool} {s t : State}
    (hs : RingsInOrder s.control.part s.ring s.fetching) (hapart : fetchesApart s) (hfetches : FetchesKept s t)
    (h : execFetchComplete host ok s = .next t) : RingsInOrder t.control.part t.ring t.fetching := by
  rcases execFetchComplete_joins h with ⟨hrings, hcontrol⟩ | ⟨r, req, u, hservice, hrings, hcontrol, hwaiting, hfree, rfl⟩
  · exact hs.advance (by rw [hcontrol]; exact id) (RingsAdvance.of_rings (by rw [hrings])) hfetches.fetching
  · have hlive : liveRead s r = some req := by simp [liveRead_of_fetch hservice]
    have hnone : s.mport.fetchWaiting.get r = none := by
      rw [← Option.not_isSome_iff_eq_none]
      intro hwait
      simp [hapart r hwait] at hlive
    have hbefore : s.fetching r = some req := by rw [State.fetching, hnone, hlive, Option.none_or]
    have hafter : (u.joinRecord r req).fetching r = none := by
      rw [fetching_eq_none_iff, State.joinRecord_mport, hwaiting]
      exact ⟨hnone, liveRead_of_free (by simp [hfree]) r⟩
    have hring (r' : RingId) : u.ring r' = s.ring r' := by rw [State.ring, hrings, State.ring]
    have hquiet : ¬(s.control.part = .off ∨ s.control.part = .loading) := fun hp => by
      simp [(hs.quiet hp r).2] at hbefore
    obtain ⟨record, hjoin⟩ := u.joinRecord_ringsAdvance r req
    rw [State.joinRecord_control, hcontrol]
    refine hs.change (r := r) hquiet ?_ (fun r' hr => ?_) fun r' _ => hfetches.fetching r'
    · have hlaw : RingInOrder (s.ring r) (some req) := hbefore ▸ hs.each r
      have hjoined : RingInOrder { s.ring r with
          queue := (s.ring r).queue ++ [⟨record, req.slot, req.fetchCount⟩], fetch := (s.ring r).fetch + 1 } none :=
        hlaw.joined rfl rfl rfl rfl rfl
      refine hjoined.advance ?_ (.inl hafter)
      simpa [hring] using hjoin r
    · simpa [hring, hr] using hjoin r'

/-- The commands that neither request nor grant a fetch. -/
theorem exec_ringsInOrder_of_fetchesKept {c : Instr} {s t : State} (hs : RingsInOrder s.control.part s.ring s.fetching)
    (hapart : fetchesApart s) (hc : startsFetch c = false) (h : exec c s = .next t) :
    RingsInOrder t.control.part t.ring t.fetching := by
  have hfetches := exec_fetchesKept hc h
  cases c with
  | fetchRequest | mPortGrant => cases hc
  | powerOnReset | softReset =>
    cases h
    have hring (r : RingId) (control : ControlUnit) (map : MapUnit) : (s.resetBlocks control map).ring r = Ring.reset :=
      PerRing.get_all ..
    exact .empty (fun r => by simp [hring, Ring.reset]) (fetchesKept_resetBlocks s _ _).2 fun _ r => by simp [hring, Ring.reset]
  | setupLoadEnd host ok => exact ringsInOrder_execSetupLoadEnd hs hfetches h
  | ringReset r => exact ringsInOrder_execRingReset hs hfetches h
  | post r tail => exact ringsInOrder_execPost hs hfetches h
  | fetchComplete host ok => exact ringsInOrder_execFetchComplete hs hapart hfetches h
  | examination =>
    have hpart : t.control.part = s.control.part := by
      cases h
      split_ifs <;> simp
    exact hs.advance (hpart ▸ id) (exec_ringsAdvance rfl h) hfetches.fetching
  | _ => exact hs.advance (exec_leavesTables rfl h).stage.1 (exec_ringsAdvance rfl h) hfetches.fetching

theorem exec_ringsLaw (c : Instr) (s t : State) (hs : ringsLaw s) (h : exec c s = .next t) : ringsLaw t := by
  rw [ringsLaw_iff] at hs ⊢
  obtain ⟨horder, hapart⟩ := hs
  cases c with
  | fetchRequest r => exact ringsInOrder_execFetchRequest horder hapart h
  | mPortGrant =>
    cases h
    split
    · next hfree =>
      obtain ⟨hfetching, hstill⟩ := fetching_grantAccess (t := s.setMPort (grantAccess s)) hfree.1 rfl
      exact ⟨hfetching ▸ horder, hstill⟩
    · exact ⟨horder, hapart⟩
  | _ => exact ⟨exec_ringsInOrder_of_fetchesKept horder hapart rfl h, (exec_fetchesKept rfl h).apart hapart⟩

/-! ## What the rings read (R58, R67, R70, R75) -/

theorem exec_ringReportsLaw (c : Instr) (s t : State) (hs : ringReportsLaw s) (h : exec c s = .next t) : ringReportsLaw t := by
  rw [ringReportsLaw_iff] at hs ⊢
  have hadvance (hrings : RingsAdvance s t) (r : RingId) : RingReports (t.ring r) := (hrings r).reports (hs r)
  cases c with
  | powerOnReset | softReset =>
    cases h
    intro r
    rw [show (s.resetBlocks _ _).ring r = Ring.reset from PerRing.get_all ..]
    exact .of_none nofun rfl rfl
  | setupLoadEnd host ok =>
    rcases execSetupLoadEnd_ends h with rfl | ⟨u, hended, -, rfl | ⟨-, b, rfl⟩⟩
    · exact hs
    · exact fun r => hended.ring r ▸ hs r
    · rcases u.loadBlock_cases b with ⟨e, he⟩ | ⟨-, he⟩ <;> rw [he] <;> intro r
      · exact hended.ring r ▸ hs r
      · rw [State.finishLoad_ring]
        refine .of_none ?_ rfl rfl
        unfold loadedRing
        dsimp only
        split <;> nofun
  | ringReset r =>
    rcases execRingReset_rings h with hrings | ⟨-, -, hother, hring⟩
    · exact hadvance hrings
    · intro r'
      by_cases hr : r' = r
      · rw [hr, hring]
        exact .of_none nofun rfl rfl
      · exact hother r' hr ▸ hs r'
  | post r tail =>
    rcases execPost_rings h with hrings | ⟨-, -, -, rfl⟩
    · exact hadvance hrings
    · obtain ⟨hother, hring⟩ := s.postApply_ring r tail
      intro r'
      by_cases hr : r' = r
      · rw [hr, hring]
        have hposted : RingReports { s.ring r with tail := tail } := (hs r).congr rfl rfl rfl
        split
        · next hidle => exact hposted.enter (by simp [hidle.1]) (by simp [hidle.1]) nofun
        · exact hposted
      · exact hother r' hr ▸ hs r'
  | fetchComplete host ok =>
    rcases execFetchComplete_joins h with ⟨hrings, -⟩ | ⟨r, req, u, -, hrings, -, -, -, rfl⟩
    · exact hadvance (.of_rings (by rw [hrings]))
    · obtain ⟨record, hjoin⟩ := u.joinRecord_ringsAdvance r req
      have hring (r' : RingId) : u.ring r' = s.ring r' := by rw [State.ring, hrings, State.ring]
      refine fun r' => (hjoin r').reports ?_
      rw [State.ring_setRing]
      split
      · exact (hring r ▸ hs r).congr rfl rfl rfl
      · exact hring r' ▸ hs r'
  | _ => exact hadvance (exec_ringsAdvance rfl h)

/-- Settles O55: but for a POST, a fetched record, a ring RESET and a load, no command does more to a ring than take records from its
head and move its state; and a fetch in progress is the one that was requested until it ends. -/
theorem ringLawsKept : Obligations.RingLawsKept :=
  ⟨step_keeps (fun _ _ hs => hs) exec_ringsLaw, step_keeps (fun _ _ hs => hs) exec_ringReportsLaw⟩

end Sys2Proof.Machine

/-! What a FLUSHING ring reads (R67, R74; log entry 13), and updates that meet: the equations that the whole-state statements about the
rings are made of. -/

namespace Sys2Proof.Machine

/-! ## Updates that meet -/

theorem State.setRing_ring (s : State) (r : RingId) : s.setRing r (s.ring r) = s :=
  congrArg (fun rings => { s with ringManager := { s.ringManager with rings := rings } }) (PerRing.set_get ..)

theorem State.setCq_cq (s : State) (c : CqId) : s.setCq c (s.cq c) = s :=
  congrArg (fun cqs => { s with writer := { s.writer with cqs := cqs } }) (PerCq.set_get ..)

theorem Ring.with_disposalReserved {g : Ring} {b : Bool} (h : g.disposalReserved = b) : { g with disposalReserved := b } = g := by
  subst h
  rfl

/-! ## The wait reason of a FLUSHING ring -/

theorem cqHasRoom_iff (q : CompletionRing) :
    cqHasRoom q = true ↔ q.reservations + (q.tail - q.head).toNat < 2 ^ q.depthCode.toNat :=
  decide_eq_true_iff

/-- R74, log entry 13: COMPLETION exactly while the head has no reservation and finds no room for one. -/
theorem flushWait_eq (s : State) (r : RingId) :
    flushWait s r =
      if (s.ring r).queue ≠ [] ∧ (s.ring r).disposalReserved = false ∧
          (s.cq (s.ring r).dir.cq).reservations + ((s.cq (s.ring r).dir.cq).tail - (s.cq (s.ring r).dir.cq).head).toNat ≥
            2 ^ (s.cq (s.ring r).dir.cq).depthCode.toNat
        then .completion else .none := by
  simp only [flushWait, Bool.and_eq_true, Bool.not_eq_true', ← Bool.not_eq_true, List.isEmpty_iff, cqHasRoom_iff, not_lt, ge_iff_le,
    ne_eq, and_assoc]

theorem State.refreshFlush_of_flushing {s : State} {r : RingId} (h : (s.ring r).phase = .flushing) :
    s.refreshFlush r = s.setRing r { s.ring r with wait := flushWait s r } :=
  if_pos h

theorem State.refreshFlush_of_not_flushing {s : State} {r : RingId} (h : (s.ring r).phase ≠ .flushing) : s.refreshFlush r = s :=
  if_neg h

/-- A FLUSHING ring set anew reads what it waits for. -/
theorem State.refreshFlush_setRing (s : State) (r : RingId) {g : Ring} (h : g.phase = .flushing) :
    (s.setRing r g).refreshFlush r = s.setRing r { g with wait := flushWait (s.setRing r g) r } := by
  have hring : (s.setRing r g).ring r = g := s.ring_setRing_same r g
  rw [State.refreshFlush_of_flushing (by rw [hring, h]), State.setRing_setRing, hring]

end Sys2Proof.Machine

/-! STOP, RESUME, RESET and FLUSH of a ring, as whole-state equations (R68, R70, R71, R73, R75, R78). -/

namespace Sys2Proof.Machine

section

variable {s : State} {r : RingId} (hpart : s.control.part ≠ .halted)

include hpart

/-! ## STOP and RESUME (R68, R70) -/

/-- R68: STOP taken with records in flight. -/
theorem exec_stop_stopping (hphase : (s.ring r).phase = .idle ∨ (s.ring r).phase = .active) (hsome : (s.ring r).inFlight ≠ 0) :
    exec (.stop r) s = .next ((s.selectRing r).setRing r ((s.ring r).enter .stopping)) :=
  congrArg Host.Outcome.next ((if_pos ⟨hpart, hphase⟩).trans (if_neg hsome))

/-- R68, R78: STOP taken with none in flight. -/
theorem exec_stop_stopped (hphase : (s.ring r).phase = .idle ∨ (s.ring r).phase = .active) (hnone : (s.ring r).inFlight = 0) :
    exec (.stop r) s = .next ((s.selectRing r).enterStopped r) :=
  congrArg Host.Outcome.next ((if_pos ⟨hpart, hphase⟩).trans (if_pos hnone))

/-- R70: RESUME of a ring with a record queued or pending. -/
theorem exec_ringResume_active (hphase : (s.ring r).phase = .stopped)
    (hrecord : (s.ring r).queue ≠ [] ∨ 0 < ringPending (s.ring r)) :
    exec (.ringResume r) s = .next ((s.selectRing r).activate r) :=
  congrArg Host.Outcome.next ((if_pos ⟨hpart, hphase⟩).trans (if_pos hrecord))

/-- R70: RESUME of a ring with none. -/
theorem exec_ringResume_idle (hphase : (s.ring r).phase = .stopped)
    (hrecord : ¬((s.ring r).queue ≠ [] ∨ 0 < ringPending (s.ring r))) :
    exec (.ringResume r) s = .next ((s.selectRing r).setRing r ((s.ring r).enter .idle)) :=
  congrArg Host.Outcome.next ((if_pos ⟨hpart, hphase⟩).trans (if_neg hrecord))

/-! ## RESET (R71) -/

theorem exec_ringReset_taken (hphase : (s.ring r).phase = .stopped ∨ (s.ring r).phase = .faulted) (hnone : (s.ring r).inFlight = 0) :
    exec (.ringReset r) s =
      .next (((s.selectRing r).setRing r { (s.ring r).enter .idle with tail := 0, fetch := 0, queue := [], cause := .none }).setMPort
        (abandonFetch s.mport r)) :=
  congrArg Host.Outcome.next (if_pos ⟨hpart, hphase, hnone⟩)

/-! ## FLUSH (R73, R75) -/

/-- R73: FLUSH taken: the ring is FLUSHING toward the tail as it stands. -/
theorem exec_flush_taken (hphase : (s.ring r).phase = .stopped ∨ ((s.ring r).phase = .faulted ∧ (s.ring r).inFlight = 0)) :
    exec (.flush r) s =
      .next
        (if (s.ring r).queue = [] ∧ (s.ring r).fetch = (s.ring r).tail then
           ((s.selectRing r).setRing r { (s.ring r).enter .flushing with flushTarget := (s.ring r).tail }).endFlush r
         else ((s.selectRing r).setRing r { (s.ring r).enter .flushing with flushTarget := (s.ring r).tail }).refreshFlush r) :=
  congrArg Host.Outcome.next (if_pos ⟨hpart, hphase⟩)

end

/-- R56: a record is pending exactly when the tail count is past the fetch count. -/
theorem ringPending_pos_iff (g : Ring) : 0 < ringPending g ↔ g.tail ≠ g.fetch := by
  rw [ringPending, Count.since]
  bv_omega

/-- Settles O10: each command's equation, with the records in flight and the records queued or pending deciding between its two. -/
theorem stopResumeAndReset : Obligations.StopResumeAndReset := by
  refine ⟨fun r s hpart => ⟨fun hphase hsome => ?_, fun hphase hnone => ?_, fun hphase hrecord => ?_, fun hphase hqueue hcounts => ?_⟩,
    fun r s hpart hphase hnone => ⟨(abandonFetch s.mport r).inService, ?_, fun req => ?_, ?_⟩⟩
  · exact exec_stop_stopping hpart hphase hsome
  · exact exec_stop_stopped hpart hphase hnone
  · exact exec_ringResume_active hpart hphase (hrecord.imp_right (ringPending_pos_iff _).2)
  · refine exec_ringResume_idle hpart hphase fun hrecord => ?_
    exact hrecord.elim (fun h => h hqueue) fun h => (ringPending_pos_iff _).1 h hcounts
  · exact exec_ringReset_taken hpart hphase hnone
  · exact abandonFetch_inService_of_fetch
  · exact abandonFetch_inService_of_not_fetch

/-- Settles O11: the flush ends in the same command exactly with nothing queued and nothing pending. -/
theorem flushBeginsOrEnds : Obligations.FlushBeginsOrEnds := by
  intro r s hpart hphase
  refine ⟨fun hrecord => ?_, fun hqueue hcounts => ?_⟩
  · have hsome : ¬((s.ring r).queue = [] ∧ (s.ring r).fetch = (s.ring r).tail) := fun hnone =>
      hrecord.elim (fun h => h hnone.1) fun h => h hnone.2
    rw [exec_flush_taken hpart hphase, if_neg hsome, State.refreshFlush_setRing _ _ rfl, flushWait_eq, State.ring_setRing_same]
    rfl
  · rw [exec_flush_taken hpart hphase, if_pos ⟨hqueue, hcounts⟩, State.endFlush, State.setRing_setRing, State.ring_setRing_same]
    rfl

end Sys2Proof.Machine

/-! POST as whole-state equations (R57 to R60, R76, R78). -/

namespace Sys2Proof.Machine

section

variable {s : State} {r : RingId}

/-- R76: a disposal without a reservation has none to give back. -/
theorem State.withdrawDisposal_of_not_reserved (h : (s.ring r).disposalReserved = false) : s.withdrawDisposal r = s := by
  simp [State.withdrawDisposal, h]

theorem State.withdrawDisposal_of_reserved (h : (s.ring r).disposalReserved = true) :
    s.withdrawDisposal r =
      ((s.setRing r { s.ring r with disposalReserved := false }).release (s.ring r).dir.cq).examineDue :=
  if_pos h

/-- R58, R59: a FAULTED ring keeps its state and cause. -/
theorem State.postFault_of_faulted (cause : FaultCause) (h : (s.ring r).phase = .faulted) : s.postFault r cause = s :=
  if_pos h

/-- R58, R59: any other ring enters FAULTED with the cause, and has no disposal that waits. -/
def Ring.faultedBy (g : Ring) (cause : FaultCause) : Ring := { g.enter .faulted with cause := cause, disposalReserved := false }

theorem State.postFault_of_not_reserved (cause : FaultCause) (h : (s.ring r).phase ≠ .faulted)
    (hnone : (s.ring r).disposalReserved = false) :
    s.postFault r cause = (s.setRing r ((s.ring r).faultedBy cause)).reportRing r := by
  have hring : ({ (s.ring r).enter .faulted with cause := cause } : Ring) = (s.ring r).faultedBy cause := by
    rw [Ring.faultedBy, ← hnone]
    rfl
  rw [State.postFault, if_neg h, State.withdrawDisposal_of_not_reserved hnone]
  exact congrArg (fun g => (s.setRing r g).reportRing r) hring

theorem State.postFault_of_reserved (cause : FaultCause) (h : (s.ring r).phase ≠ .faulted)
    (hreserved : (s.ring r).disposalReserved = true) :
    s.postFault r cause =
      ((s.setRing r ((s.ring r).faultedBy cause)).release (s.ring r).dir.cq).examineDue.reportRing r := by
  rw [State.postFault, if_neg h, State.withdrawDisposal_of_reserved hreserved]
  have hring : (((s.setRing r { s.ring r with disposalReserved := false }).release (s.ring r).dir.cq).examineDue).ring r =
      { s.ring r with disposalReserved := false } := State.ring_setRing_same ..
  have hset (g g' : Ring) (c : CqId) :
      ((s.setRing r g).release c).examineDue.setRing r g' = ((s.setRing r g').release c).examineDue :=
    congrArg (fun u : State => (u.release c).examineDue) (State.setRing_setRing s r g g')
  simp only [hring, hset]
  rfl

/-- R60: an IDLE ring with a record now pending enters ACTIVE. -/
theorem State.postApply_of_wakes {tail : Count} (hphase : (s.ring r).phase = .idle) (h : tail ≠ (s.ring r).fetch) :
    s.postApply r tail = (s.setRing r ({ s.ring r with tail := tail }.enter .active)).examineDue := by
  have hpending : 0 < ringPending { s.ring r with tail := tail } := (ringPending_pos_iff _).2 h
  unfold State.postApply
  dsimp only
  rw [if_pos ⟨hphase, hpending⟩, State.activate, State.setRing_setRing, State.ring_setRing_same]

/-- R60: any other ring takes the tail alone. -/
theorem State.postApply_of_not_wakes {tail : Count} (h : (s.ring r).phase ≠ .idle ∨ tail = (s.ring r).fetch) :
    s.postApply r tail = s.setRing r { s.ring r with tail := tail } := by
  refine if_neg fun ⟨hphase, hpending⟩ => ?_
  exact h.elim (fun hne => hne hphase) fun htail => (ringPending_pos_iff _).1 hpending htail

/-! ## The checks of a POST, in their order (R57, R58, R59) -/

theorem exec_post_dropped {tail : Count}
    (h : s.control.part = .off ∨ s.control.part = .loading ∨ s.control.part = .halted ∨ (s.ring r).phase = .disabled) :
    exec (.post r tail) s = .next s.rejectPost :=
  congrArg Host.Outcome.next (if_pos h)

variable {tail : Count}
  (h : ¬(s.control.part = .off ∨ s.control.part = .loading ∨ s.control.part = .halted ∨ (s.ring r).phase = .disabled))

include h

theorem exec_post_overruns (hover : depthOf (s.ring r).dir.depthCode < tail.since (s.ring r).fetch) :
    exec (.post r tail) s = .next (s.postFault r .overrun) :=
  congrArg Host.Outcome.next ((if_neg h).trans (if_pos hover))

theorem exec_post_retracts (hfits : tail.since (s.ring r).fetch ≤ depthOf (s.ring r).dir.depthCode)
    (hless : tail.since (s.ring r).fetch < ringPending (s.ring r)) : exec (.post r tail) s = .next (s.postFault r .retract) :=
  congrArg Host.Outcome.next ((if_neg h).trans ((if_neg (Nat.not_lt.2 hfits)).trans (if_pos hless)))

theorem exec_post_applied (hfits : tail.since (s.ring r).fetch ≤ depthOf (s.ring r).dir.depthCode)
    (hmore : ringPending (s.ring r) ≤ tail.since (s.ring r).fetch) : exec (.post r tail) s = .next (s.postApply r tail) :=
  congrArg Host.Outcome.next ((if_neg h).trans ((if_neg (Nat.not_lt.2 hfits)).trans (if_neg (Nat.not_lt.2 hmore))))

/-- R58, R59: the cause is the first check that fails. -/
theorem exec_post_faults {cause : FaultCause}
    (hcause : (depthOf (s.ring r).dir.depthCode < tail.since (s.ring r).fetch ∧ cause = .overrun) ∨
      (tail.since (s.ring r).fetch ≤ depthOf (s.ring r).dir.depthCode ∧ tail.since (s.ring r).fetch < ringPending (s.ring r) ∧
        cause = .retract)) : exec (.post r tail) s = .next (s.postFault r cause) := by
  rcases hcause with ⟨hover, rfl⟩ | ⟨hfits, hless, rfl⟩
  · exact exec_post_overruns h hover
  · exact exec_post_retracts h hfits hless

end

/-- Settles O12: a POST is dropped, applied, or fails a check, and its equation follows. -/
theorem postAppliedDroppedOrFaults : Obligations.PostAppliedDroppedOrFaults := by
  refine ⟨fun r tail s => ⟨exec_post_dropped, fun htaken hfits hphase htail => ?_, fun htaken hfits hother => ?_⟩,
    fun r tail cause s hoff hloading hhalted hphase hcause => ?_⟩
  · rw [exec_post_applied htaken hfits.1 hfits.2, State.postApply_of_wakes hphase htail]
    rfl
  · rw [exec_post_applied htaken hfits.1 hfits.2, State.postApply_of_not_wakes hother]
    rfl
  · have hfaults : exec (.post r tail) s = .next (s.postFault r cause) :=
      exec_post_faults (not_or.2 ⟨hoff, not_or.2 ⟨hloading, not_or.2 ⟨hhalted, hphase⟩⟩⟩) hcause
    refine ⟨fun hfaulted => ?_, fun hfaulted hnone => ?_, fun hfaulted hreserved => ?_⟩
    · rw [hfaults, State.postFault_of_faulted cause hfaulted]
    · rw [hfaults, State.postFault_of_not_reserved cause hfaulted hnone]
      rfl
    · rw [hfaults, State.postFault_of_reserved cause hfaulted hreserved]
      rfl

end Sys2Proof.Machine

/-! The disposal of a FLUSHING ring's head, as whole-state equations (R74, R76; log entry 13). -/

namespace Sys2Proof.Machine

section

variable {s : State} {r : RingId}

/-- R74, R148: the completion ring with the reservation of the disposal counted. -/
def State.heldCq (s : State) (r : RingId) : CompletionRing :=
  let q := s.cq (s.ring r).dir.cq
  if (s.ring r).disposalReserved then q else { q with reservations := q.reservations + 1 }

/-- R74: a disposal that holds its reservation already keeps it. -/
theorem State.reserveDisposal_eq (s : State) (r : RingId) :
    s.reserveDisposal r = (s.setRing r { s.ring r with disposalReserved := true }).setCq (s.ring r).dir.cq (s.heldCq r) := by
  unfold State.reserveDisposal State.heldCq
  dsimp only
  split
  · next hreserved => rw [Ring.with_disposalReserved hreserved, State.setRing_ring, State.setCq_cq]
  · rfl

/-- The ring whose head has been disposed of (R66, R74). -/
def Ring.disposed (g : Ring) (rest : List Prefetched) (w : WaitReason) : Ring :=
  { g with queue := rest, inFlight := g.inFlight + 1, disposalReserved := false, wait := w }

/-- The FLUSHED entry of a disposed head (R51, R74). -/
def flushedEntry (s : State) (r : RingId) (p : Prefetched) : Completion where
  tag := p.record.tag
  status := .flushed
  ring := r
  slot := p.slot
  elementsDone := 0
  generation := s.map.generation
  detail := .none
  direction := .ascending
  conflictBeats := 0
  cq := (s.ring r).dir.cq
  transferKey := none

/-- R74, R77: the head's entry is handed over, and stops no ring. -/
theorem State.disposeHead_eq (s : State) (r : RingId) (p : Prefetched) :
    s.disposeHead r p =
      (s.setRing r ((s.ring r).disposed (s.ring r).queue.tail (s.ring r).wait)).setPostQueue
        (s.writer.postQueue ++ [flushedEntry s r p]) := by
  have hdispose : s.disposeHead r p =
      (s.setRing r ((s.ring r).disposed (s.ring r).queue.tail (s.ring r).wait)).handEntry
        (plainCompletion (s.setRing r ((s.ring r).disposed (s.ring r).queue.tail (s.ring r).wait)) r p.slot p.record.tag
          .flushed .none) := rfl
  rw [hdispose, State.handEntry_of_not_triggers _ rfl, plainCompletion, State.ring_setRing_same]
  rfl

/-- The head is disposed of, with its reservation held or taken now, and its ring is left with a wait reason (R74). -/
def State.disposedWith (s : State) (r : RingId) (p : Prefetched) (w : WaitReason) : State :=
  ((s.setRing r ((s.ring r).disposed (s.ring r).queue.tail w)).setCq (s.ring r).dir.cq (s.heldCq r)).setPostQueue
    (s.writer.postQueue ++ [flushedEntry s r p])

/-- What the ring reads with the records left in its queue: COMPLETION when the next head finds no room (R74; log entry 13). -/
def State.nextWait (s : State) (r : RingId) (rest : List Prefetched) : WaitReason :=
  if rest ≠ [] ∧ 2 ^ (s.heldCq r).depthCode.toNat ≤ (s.heldCq r).reservations + ((s.heldCq r).tail - (s.heldCq r).head).toNat
  then .completion else .none

theorem State.disposedWith_ring (p : Prefetched) (w : WaitReason) :
    (s.disposedWith r p w).ring r = (s.ring r).disposed (s.ring r).queue.tail w :=
  s.ring_setRing_same r _

theorem State.disposedWith_cq (p : Prefetched) (w : WaitReason) : (s.disposedWith r p w).cq (s.ring r).dir.cq = s.heldCq r :=
  State.cq_setCq_same ..

theorem State.disposeHead_reserveDisposal (p : Prefetched) :
    (s.reserveDisposal r).disposeHead r p = s.disposedWith r p (s.ring r).wait := by
  have hreserved : (s.reserveDisposal r).ring r = { s.ring r with disposalReserved := true } := by
    rw [State.reserveDisposal_eq]
    exact s.ring_setRing_same r _
  have hentry : flushedEntry (s.reserveDisposal r) r p = flushedEntry s r p := by
    rw [flushedEntry, hreserved, State.reserveDisposal_map]
    rfl
  rw [State.disposeHead_eq, hreserved, hentry, State.reserveDisposal_postQueue, State.reserveDisposal_eq]
  exact congrArg (fun u : State => (u.setCq (s.ring r).dir.cq (s.heldCq r)).setPostQueue _) (State.setRing_setRing ..)

/-- R74, log entry 13: the ring reads COMPLETION when it has a next head that finds no room. -/
theorem State.refreshFlush_disposedWith (p : Prefetched) (w : WaitReason) (hphase : (s.ring r).phase = .flushing) :
    (s.disposedWith r p w).refreshFlush r =
      s.disposedWith r p
        (s.nextWait r (s.ring r).queue.tail) := by
  have hreads : flushWait (s.disposedWith r p w) r = s.nextWait r (s.ring r).queue.tail := by
    have hdir : ((s.disposedWith r p w).ring r).dir = (s.ring r).dir := by
      rw [State.disposedWith_ring]
      rfl
    rw [flushWait_eq, hdir, State.disposedWith_cq, State.disposedWith_ring]
    simp [Ring.disposed, State.nextWait]
  rw [State.refreshFlush_of_flushing ((congrArg Ring.phase (State.disposedWith_ring p w)).trans hphase), hreads,
    State.disposedWith_ring]
  exact congrArg (fun u : State => (u.setCq (s.ring r).dir.cq (s.heldCq r)).setPostQueue _) (State.setRing_setRing ..)

/-! ## FLUSH_DISPOSAL, case by case -/

/-- R76, log entry 2: nothing is disposed of. -/
theorem exec_flushDisposal_idle (h : s.control.part = .halted ∨ (s.ring r).phase ≠ .flushing ∨ (s.ring r).queue = []) :
    exec (.flushDisposal r) s = .next s := by
  refine congrArg Host.Outcome.next ?_
  split
  · rfl
  · next hqueue => exact if_pos (h.imp_right (·.resolve_right fun hnil => by simp [hnil] at hqueue))

variable {p : Prefetched} {rest : List Prefetched} (hpart : s.control.part ≠ .halted) (hphase : (s.ring r).phase = .flushing)
  (hqueue : (s.ring r).queue = p :: rest)

include hpart hphase hqueue

/-- R74: the disposal of a FLUSHING ring's head is tried. -/
theorem exec_flushDisposal_tried :
    exec (.flushDisposal r) s =
      .next
        (if ((s.ring r).disposalReserved || cqHasRoom (s.cq (s.ring r).dir.cq)) = true then
           (if postRoom (s.reserveDisposal r) 1 then (s.reserveDisposal r).disposeHead r p else s.reserveDisposal r).refreshFlush r
         else s.refreshFlush r) := by
  have htried : ¬(s.control.part = .halted ∨ (s.ring r).phase ≠ .flushing) := not_or.2 ⟨hpart, not_not.2 hphase⟩
  have hexec : exec (.flushDisposal r) s = execFlushDisposal r s := rfl
  rw [hexec, execFlushDisposal]
  simp only [hqueue, if_neg htried]

/-- Without a reservation and without room the head waits. -/
theorem exec_flushDisposal_waits (hnone : (s.ring r).disposalReserved = false)
    (hfull : cqHasRoom (s.cq (s.ring r).dir.cq) = false) :
    exec (.flushDisposal r) s = .next (s.setRing r { s.ring r with wait := .completion }) := by
  have hwait : flushWait s r = .completion := by simp [flushWait, hqueue, hnone, hfull]
  rw [exec_flushDisposal_tried hpart hphase hqueue, if_neg (by simp [hnone, hfull]), State.refreshFlush_of_flushing hphase, hwait]

variable (hroom : (s.ring r).disposalReserved = true ∨ cqHasRoom (s.cq (s.ring r).dir.cq) = true)

include hroom

/-- With a full post queue the reservation is held. -/
theorem exec_flushDisposal_holds (hfull : postRoom s 1 = false) :
    exec (.flushDisposal r) s =
      .next ((s.setRing r { s.ring r with disposalReserved := true, wait := .none }).setCq (s.ring r).dir.cq (s.heldCq r)) := by
  have hroom' : postRoom (s.reserveDisposal r) 1 = false := by rwa [postRoom, State.reserveDisposal_postQueue]
  have hring : (s.reserveDisposal r).ring r = { s.ring r with disposalReserved := true } := by
    rw [State.reserveDisposal_eq]
    exact s.ring_setRing_same r _
  have hwait : flushWait (s.reserveDisposal r) r = .none := by simp [flushWait, hring]
  rw [exec_flushDisposal_tried hpart hphase hqueue, if_pos (by simpa using hroom), if_neg (by simp [hroom']),
    State.refreshFlush_of_flushing (by rw [hring]; exact hphase), hwait, hring, State.reserveDisposal_eq]
  exact congrArg (fun u : State => Host.Outcome.next (u.setCq (s.ring r).dir.cq (s.heldCq r))) (State.setRing_setRing ..)

/-- With a free entry in the post queue the head leaves. -/
theorem exec_flushDisposal_disposes (hfree : postRoom s 1 = true) :
    exec (.flushDisposal r) s =
      .next (s.disposedWith r p
        (s.nextWait r rest)) := by
  have hfree' : postRoom (s.reserveDisposal r) 1 = true := by rwa [postRoom, State.reserveDisposal_postQueue]
  rw [exec_flushDisposal_tried hpart hphase hqueue, if_pos (by simpa using hroom), if_pos hfree', State.disposeHead_reserveDisposal,
    State.refreshFlush_disposedWith p _ hphase, hqueue]
  rfl

end

/-- A reservation leaves the counts and the depth of its completion ring (R148). -/
theorem State.heldCq_counts (s : State) (r : RingId) :
    (s.heldCq r).tail = (s.cq (s.ring r).dir.cq).tail ∧ (s.heldCq r).head = (s.cq (s.ring r).dir.cq).head ∧
      (s.heldCq r).depthCode = (s.cq (s.ring r).dir.cq).depthCode := by
  unfold State.heldCq
  dsimp only
  split <;> exact ⟨rfl, rfl, rfl⟩

/-- Settles O13: the reservation is tried first, then the place in the post queue. -/
theorem flushDisposalDisposes : Obligations.FlushDisposalDisposes := by
  refine ⟨fun r s => exec_flushDisposal_idle, fun r p rest s hpart hphase hqueue =>
    ⟨fun hnone hfull => ?_, fun hroom hfree => ?_, fun hroom hfull => ?_⟩⟩
  · refine exec_flushDisposal_waits hpart hphase hqueue hnone ?_
    exact Bool.eq_false_iff.2 fun hroom => hfull ((cqHasRoom_iff _).1 hroom)
  · obtain ⟨htail, hhead, hdepth⟩ := s.heldCq_counts r
    refine ⟨s.nextWait r rest, ?_, ?_, ?_⟩
    · rw [exec_flushDisposal_disposes hpart hphase hqueue (hroom.imp_right (cqHasRoom_iff _).2) ((postRoom_iff s 1).2 hfree),
        State.disposedWith, hqueue]
      rfl
    · rw [State.nextWait, htail, hhead, hdepth]
      simp only [ite_eq_left_iff, reduceCtorEq, imp_false, not_not, Nat.not_lt]
      rfl
    · exact (ite_eq_or_eq ..)
  · refine exec_flushDisposal_holds hpart hphase hqueue (hroom.imp_right (cqHasRoom_iff _).2) (Bool.eq_false_iff.2 fun hfree => ?_)
    exact absurd ((postRoom_iff s 1).1 hfree) (by omega)

end Sys2Proof.Machine

/-! When a fetch is requested (R62, R71), and what the M-port grants (R64, R150). -/

namespace Sys2Proof.Machine

/-! ## FETCH_REQUEST (R62) -/

theorem liveRead_eq_none_iff (s : State) (r : RingId) :
    liveRead s r = none ↔ ∀ req, s.mport.inService ≠ some ⟨.fetch r req, .live⟩ := by
  constructor
  · intro hnone req hservice
    simp [liveRead_of_fetch hservice] at hnone
  · intro hnone
    rw [Option.eq_none_iff_forall_ne_some]
    exact fun req hreq => hnone req (liveRead_eq_some hreq)

theorem fetchInProgress_eq_false_iff (s : State) (r : RingId) :
    fetchInProgress s r = false ↔
      s.mport.fetchWaiting.get r = none ∧ ∀ req, s.mport.inService ≠ some ⟨.fetch r req, .live⟩ := by
  rw [fetchInProgress_eq, Option.isSome_eq_false_iff, Option.isNone_iff_eq_none, fetching_eq_none_iff, liveRead_eq_none_iff]

/-- R71: a read that a ring RESET left in service. -/
theorem discardedRead_eq_false_iff (s : State) (r : RingId) :
    discardedRead s r = false ↔ ∀ req, s.mport.inService ≠ some ⟨.fetch r req, .discarded⟩ := by
  unfold discardedRead
  split
  · next r' req hservice => simp [hservice]
  · next hnot => simpa using fun req hservice => hnot r req hservice

/-- R62, R71: the conditions for requesting a fetch. -/
theorem fetchReady_iff (s : State) (r : RingId) :
    fetchReady s r = true ↔
      s.control.part ≠ .halted ∧
        ((s.ring r).phase = .active ∨ ((s.ring r).phase = .flushing ∧ (s.ring r).fetch ≠ (s.ring r).flushTarget)) ∧
        (s.ring r).tail ≠ (s.ring r).fetch ∧ (s.ring r).queue.length < 4 ∧ s.mport.fetchWaiting.get r = none ∧
        (∀ req, s.mport.inService ≠ some ⟨.fetch r req, .live⟩) ∧
        ∀ req, s.mport.inService ≠ some ⟨.fetch r req, .discarded⟩ := by
  simp only [fetchReady, Bool.and_eq_true, Bool.or_eq_true, decide_eq_true_eq, Bool.not_eq_true', fetchInProgress_eq_false_iff,
    discardedRead_eq_false_iff, ringPending_pos_iff, and_assoc]
  rfl

/-! ## M_PORT_GRANT (R64) -/

section

variable {s : State}

/-- R64: the first waiting fetch from the ring after the one last granted. -/
theorem nextFetch_eq_some {m : MPort} {r : RingId} {req : FetchRequest} {pre post : List RingId}
    (horder : ringsFrom (RingId.next m.lastFetch) = pre ++ r :: post) (hnone : ∀ q ∈ pre, m.fetchWaiting.get q = none)
    (hreq : m.fetchWaiting.get r = some req) : nextFetch m = some r := by
  rw [nextFetch, List.find?_eq_some_iff_append]
  exact ⟨by simp [hreq], pre, post, horder, fun q hq => by simp [hnone q hq]⟩

theorem nextFetch_eq_none {m : MPort} (hnone : ∀ q, m.fetchWaiting.get q = none) : nextFetch m = none := by
  simp [nextFetch, hnone]

/-- Log entry 2: a busy port, or one of a HALTED part, grants nothing. -/
theorem exec_mPortGrant_idle (h : s.mport.inService ≠ none ∨ s.control.part = .halted) : exec .mPortGrant s = .next s :=
  congrArg Host.Outcome.next (if_neg fun ⟨hfree, hpart⟩ => h.elim (fun hbusy => hbusy hfree) hpart)

variable (hfree : s.mport.inService = none) (hpart : s.control.part ≠ .halted)

include hfree hpart

theorem exec_mPortGrant_free : exec .mPortGrant s = .next (s.setMPort (grantAccess s)) :=
  congrArg Host.Outcome.next (if_pos ⟨hfree, hpart⟩)

theorem exec_mPortGrant_write (hwrite : failedWrites s < s.writer.postQueue.length) :
    exec .mPortGrant s = .next (s.setMPort { s.mport with inService := some ⟨.completionWrite, .live⟩ }) := by
  rw [exec_mPortGrant_free hfree hpart, grantAccess, if_pos ((completionWriteWaiting_iff s).2 ⟨hwrite, hpart⟩)]

variable (hwrite : ¬failedWrites s < s.writer.postQueue.length)

include hwrite

/-- R64: with no completion write waiting, a fetch is granted before the setup load. -/
theorem exec_mPortGrant_fetch {r : RingId} {req : FetchRequest} (hnext : nextFetch s.mport = some r)
    (hreq : s.mport.fetchWaiting.get r = some req) :
    exec .mPortGrant s =
      .next (s.setMPort
        { s.mport with
          inService := some ⟨.fetch r req, .live⟩, fetchWaiting := s.mport.fetchWaiting.set r none, lastFetch := r }) := by
  rw [exec_mPortGrant_free hfree hpart, grantAccess, if_neg fun h => hwrite ((completionWriteWaiting_iff s).1 h).1]
  simp only [hnext, hreq]

theorem exec_mPortGrant_setup {a : MailboxAddr} (hnext : nextFetch s.mport = none) (hsetup : s.mport.setupWaiting = some a) :
    exec .mPortGrant s =
      .next (s.setMPort { s.mport with inService := some ⟨.setupLoad a, .live⟩, setupWaiting := none }) := by
  rw [exec_mPortGrant_free hfree hpart, grantAccess, if_neg fun h => hwrite ((completionWriteWaiting_iff s).1 h).1]
  simp only [hnext, hsetup]

theorem exec_mPortGrant_none (hnext : nextFetch s.mport = none) (hsetup : s.mport.setupWaiting = none) :
    exec .mPortGrant s = .next s := by
  rw [exec_mPortGrant_free hfree hpart, grantAccess, if_neg fun h => hwrite ((completionWriteWaiting_iff s).1 h).1]
  simp only [hnext, hsetup]
  rfl

end

/-- Settles O17: the conditions of R62 as one equivalence, and the grants in the order of R64. -/
theorem fetchRequestsAndPortGrants : Obligations.FetchRequestsAndPortGrants := by
  refine ⟨fun r s => ⟨fun hready => ?_, fun hready => ?_⟩,
    fun s => ⟨fun hfree hpart => ⟨exec_mPortGrant_write hfree hpart, fun pre r post req hwrite horder hnone hreq => ?_,
      fun a hwrite hnone hsetup => ?_, fun hwrite hnone hsetup => ?_⟩, exec_mPortGrant_idle⟩⟩
  · exact congrArg Host.Outcome.next (if_pos ((fetchReady_iff s r).2 hready))
  · exact congrArg Host.Outcome.next (if_neg fun h => hready ((fetchReady_iff s r).1 h))
  · exact exec_mPortGrant_fetch hfree hpart hwrite (nextFetch_eq_some horder hnone hreq) hreq
  · exact exec_mPortGrant_setup hfree hpart hwrite (nextFetch_eq_none hnone) hsetup
  · exact exec_mPortGrant_none hfree hpart hwrite (nextFetch_eq_none hnone) hsetup

end Sys2Proof.Machine

/-! The end of a fetch, as whole-state equations (R63, R71, R79, R172; log entries 2, 5, 13 and 16). -/

namespace Sys2Proof.Machine

/-- Log entry 5: the read has ended, after what the host wrote before it. -/
def State.fetchEnded (s : State) (host : List HostWrite) : State :=
  { s with mailbox := mailboxHost s.mailbox host, mport := { s.mport with inService := none } }

/-- R61, R63: the fetched record, with the slot and the fetch count that its request named. -/
def fetchedRecord (m : MailboxMemory) (req : FetchRequest) : Prefetched :=
  ⟨Record.ofWords (mailboxWords m req.addr 8), req.slot, req.fetchCount⟩

/-- R63: the ring with a record joined. -/
def Ring.joinedBy (g : Ring) (p : Prefetched) (w : WaitReason) : Ring :=
  { g with queue := g.queue ++ [p], fetch := g.fetch + 1, wait := w }

/-! ## The record joins (R63, R67, R81) -/

/-- What the ring reads once the record has joined outside HALTED: a FLUSHING ring COMPLETION when its head finds no room (R67, R74; log
entry 13), any other what it read. -/
def State.joinedWait (s : State) (r : RingId) : WaitReason :=
  if (s.ring r).phase = .flushing then
    if (s.ring r).disposalReserved = false ∧
        2 ^ (s.cq (s.ring r).dir.cq).depthCode.toNat ≤
          (s.cq (s.ring r).dir.cq).reservations + ((s.cq (s.ring r).dir.cq).tail - (s.cq (s.ring r).dir.cq).head).toNat
      then .completion else .none
  else (s.ring r).wait

/-- R81: an examination is due that was due, or when `b` says so. -/
def State.dueAlso (s : State) (b : Bool) : State := { s with issue := { s.issue with due := s.issue.due || b } }

theorem State.dueAlso_false (s : State) : s.dueAlso false = s := by
  simp [State.dueAlso]

theorem State.dueAlso_true (s : State) : s.dueAlso true = s.examineDue := by
  simp [State.dueAlso, State.examineDue]

section

variable {s : State} {r : RingId} {req : FetchRequest}

theorem State.refreshFlush_joinedBy (s : State) (r : RingId) (p : Prefetched) :
    (s.setRing r ((s.ring r).joinedBy p (s.ring r).wait)).refreshFlush r = s.setRing r ((s.ring r).joinedBy p (s.joinedWait r)) := by
  by_cases hphase : (s.ring r).phase = .flushing
  · have hwait : flushWait (s.setRing r ((s.ring r).joinedBy p (s.ring r).wait)) r = s.joinedWait r := by
      rw [flushWait_eq, State.joinedWait, if_pos hphase, State.ring_setRing_same]
      simp [Ring.joinedBy]
    rw [State.refreshFlush_setRing _ _ (g := (s.ring r).joinedBy p (s.ring r).wait) hphase, hwait]
    rfl
  · have hwait : s.joinedWait r = (s.ring r).wait := if_neg hphase
    rw [hwait, State.refreshFlush_of_not_flushing]
    rwa [State.ring_setRing_same]

/-- R63: in HALTED the ring's other state is frozen. -/
theorem State.joinRecord_of_halted (h : s.control.part = .halted) :
    s.joinRecord r req = s.setRing r ((s.ring r).joinedBy (fetchedRecord s.mailbox req) (s.ring r).wait) :=
  if_pos h

/-- R81: outside HALTED a record that joins an empty queue leads to an examination. -/
theorem State.joinRecord_of_not_halted (h : s.control.part ≠ .halted) :
    s.joinRecord r req =
      (s.setRing r ((s.ring r).joinedBy (fetchedRecord s.mailbox req) (s.joinedWait r))).dueAlso (decide ((s.ring r).queue = [])) := by
  rw [← State.refreshFlush_joinedBy]
  by_cases hqueue : (s.ring r).queue = []
  · rw [decide_eq_true hqueue, State.dueAlso_true]
    exact (if_neg h).trans (if_pos (List.isEmpty_iff.2 hqueue))
  · rw [decide_eq_false hqueue, State.dueAlso_false]
    exact (if_neg h).trans (if_neg fun hempty => hqueue (List.isEmpty_iff.1 hempty))

end

/-! ## FETCH_COMPLETE, case by case -/

section

variable {s : State} {r : RingId} {req : FetchRequest} {host : List HostWrite}

/-- Log entries 2 and 16: with no fetch in service, or before a fault that waits is taken, nothing ends. -/
theorem exec_fetchComplete_idle {ok : Bool}
    (h : (∀ r req fate, s.mport.inService ≠ some ⟨.fetch r req, fate⟩) ∨ accessCanEnd s = false) :
    exec (.fetchComplete host ok) s = .next s := by
  have hexec : exec (.fetchComplete host ok) s = execFetchComplete host ok s := rfl
  rw [hexec]
  unfold execFetchComplete
  split
  · next r req fate hservice hcan =>
    rcases h with hnone | hcannot
    · exact absurd hservice (hnone r req fate)
    · exact absurd (hcan.symm.trans hcannot) nofun
  · rfl

variable (hcan : accessCanEnd s = true)

include hcan

/-- R63: a live read that succeeds puts its record in the queue. -/
theorem exec_fetchComplete_joins (hservice : s.mport.inService = some ⟨.fetch r req, .live⟩) :
    exec (.fetchComplete host true) s = .next ((s.fetchEnded host).joinRecord r req) := by
  have hexec : exec (.fetchComplete host true) s = execFetchComplete host true s := rfl
  rw [hexec, execFetchComplete, hservice, hcan]
  rfl

/-- R172: a read that fails, with its record awaited or discarded, hands a FETCH_READ fault over. -/
theorem exec_fetchComplete_fails {fate : AccessFate} (hfate : fate ≠ .abandoned)
    (hservice : s.mport.inService = some ⟨.fetch r req, fate⟩) :
    exec (.fetchComplete host false) s = .next ((s.fetchEnded host).reportFault .fetchRead req.addr) := by
  have hexec : exec (.fetchComplete host false) s = execFetchComplete host false s := rfl
  rw [hexec, execFetchComplete, hservice, hcan]
  cases fate with
  | live | discarded => rfl
  | abandoned => exact absurd rfl hfate

/-- R71: the record of a discarded read is dropped. -/
theorem exec_fetchComplete_discarded (hservice : s.mport.inService = some ⟨.fetch r req, .discarded⟩) :
    exec (.fetchComplete host true) s = .next (s.fetchEnded host) := by
  have hexec : exec (.fetchComplete host true) s = execFetchComplete host true s := rfl
  rw [hexec, execFetchComplete, hservice, hcan]
  rfl

/-- R79: a read that a reset abandoned ends without effect. -/
theorem exec_fetchComplete_abandoned (hservice : s.mport.inService = some ⟨.fetch r req, .abandoned⟩) (ok : Bool) :
    exec (.fetchComplete host ok) s = .next (s.fetchEnded host) := by
  have hexec : exec (.fetchComplete host ok) s = execFetchComplete host ok s := rfl
  rw [hexec, execFetchComplete, hservice, hcan]
  rfl

end

/-- Settles O18: one equation for each fate of the read, and for a live read that succeeds one in HALTED and one outside. -/
theorem fetchEndJoinsTheQueue : Obligations.FetchEndJoinsTheQueue := by
  refine ⟨fun host ok s hidle => exec_fetchComplete_idle (hidle.imp_right fun hwaits => ?_), fun r req host s hcan => ?_⟩
  · rw [← Bool.not_eq_true, accessCanEnd_iff]
    exact not_or.2 hwaits
  · have hends : accessCanEnd s = true := (accessCanEnd_iff s).2 hcan
    refine ⟨fun hservice => ⟨?_, exec_fetchComplete_fails hends (by simp) hservice⟩,
      fun hservice => ⟨exec_fetchComplete_discarded hends hservice, exec_fetchComplete_fails hends (by simp) hservice⟩,
      exec_fetchComplete_abandoned hends⟩
    rw [exec_fetchComplete_joins hends hservice]
    by_cases hpart : s.control.part = .halted
    · refine ⟨(s.ring r).wait, ?_, fun _ => rfl, fun _ hout => absurd hpart hout⟩
      rw [State.joinRecord_of_halted (s := s.fetchEnded host) hpart]
      simp only [hpart, ne_eq, not_true_eq_false, decide_false, Bool.and_false, Bool.or_false]
      rfl
    · refine ⟨s.joinedWait r, ?_, fun hother => ?_, fun hphase _ => ?_⟩
      · rw [State.joinRecord_of_not_halted (s := s.fetchEnded host) hpart]
        simp [hpart]
        rfl
      · exact if_neg (hother.resolve_right hpart)
      · simp [State.joinedWait, hphase]

end Sys2Proof.Machine
